-- ==== Sys2Proof/Word.lean ====
section
/-!
DEFINITION. The byte the two links carry, and the two ports' names.
Everything else the part counts is a number: `Nat` for counts, codes and times, `Int` for positions, offsets, load counts
and forces.  Bit vectors stand only for what the manual treats as bits: link bytes and the CRC register.
-/

namespace Sys2Proof

/-- One data byte of a link character (R178). -/
abbrev Byte := BitVec 8

/-- The check register of R181. -/
abbrev Check := BitVec 16

/-- The two link ports: A faces the console processor, B the cell controller (00_scope.md, 1.1). -/
inductive Port where
  | A
  | B
deriving DecidableEq, Repr

/-- The port that is not `p`. -/
def Port.other : Port → Port
  | .A => .B
  | .B => .A

end Sys2Proof
end

