-- ==== Sys2Proof/Config.lean ====
section
/-!
DEFINITION. The constants the part is built with: the capacities of 00_scope.md 2.3, the ranges of 3.1 and of 1.1, the fixed
timer lengths of 3.9, 5.1 and 10.1, and the link rates of R177.  The spec states every one of them, so none is a free value.
-/

namespace Sys2Proof.Config

/-- Order slots (2.3). -/
def orderSlots : Nat := 8
/-- Point pool entries (2.3, R29). -/
def poolEntries : Nat := 512
/-- Impression list entries (2.3, R40). -/
def impressionEntries : Nat := 64
/-- Result records the store holds (2.3, R140). -/
def storeRecords : Nat := 1024
/-- Notice queue entries of a port (2.3, R189). -/
def noticeEntries : Nat := 32
/-- Notices returned by one READ NOTICES (2.3, R191). -/
def noticesPerRead : Nat := 8
/-- Receive buffers of a port (R177). -/
def receiveBuffers : Nat := 2
/-- Every link and frame counter stops here (R85, R182, R189). -/
def counterMax : Nat := 65535
/-- The largest order id; the next id after it is 1 (R2). -/
def orderIdMax : Nat := 65535
/-- The next sequence number above which the free room reads 0 (R139). -/
def seqLowWater : Nat := 4294965247
/-- Generation numbers wrap from here to 1 (R162). -/
def generationMax : Nat := 65535

/-- Greatest magnitude of a stage coordinate, nm (3.1, R31). -/
def travel : Int := 50000000
/-- Greatest depth of a point, nm (3.1, R31). -/
def depthMax : Nat := 20000000
/-- Greatest diagonal, nm (3.1, R128). -/
def diagonalMax : Nat := 3000000
/-- Greatest hardness and greatest limit, tenths (3.1, R4, R118). -/
def hardnessMax : Nat := 99999

/-- Horizontal profile samples, and pixels of a line (3.1, R86). -/
def columns : Nat := 1280
/-- Vertical profile samples, and lines of a frame (3.1, R86). -/
def rows : Nat := 1024

/-- Samples of one tare (R71). -/
def tareSamples : Nat := 16
/-- Out-of-band samples that end a dwell as force-lost (R77). -/
def outOfBandLimit : Nat := 2000

/-- Stage timer, ms (R49). -/
def stageMs : Nat := 10000
/-- Turret timer, ms (R49). -/
def turretMs : Nat := 5000
/-- Approach timer, ms (R54). -/
def approachMs : Nat := 20000
/-- Unload timer, ms (R56). -/
def unloadMs : Nat := 5000
/-- Retract timer, ms (R61, R62). -/
def retractMs : Nat := 5000
/-- Frame timer, ms (R90). -/
def frameMs : Nat := 1000

/-- Default debounce time of the door, ms (R166). -/
def doorDebounceMs : Nat := 16
/-- Default debounce time of the e-stop, ms (R166). -/
def estopDebounceMs : Nat := 4
/-- Default debounce time of the station code, ms (R166). -/
def stationDebounceMs : Nat := 4

/-- Payload limit of a port, bytes, by its long-frame option (R179). -/
def payloadLimit (longFrames : Bool) : Nat := if longFrames then 1024 else 256
/-- Records one READ RESULTS returns at most, by the long-frame option (2.3, R142). -/
def recordLimit (longFrames : Bool) : Nat := if longFrames then 18 else 4

/-- The character rate, bit/s, that the RATE[1:0] strap selects (R177). -/
def linkRate : Nat → Nat
  | 0 => 115200
  | 1 => 460800
  | 2 => 921600
  | _ => 2000000

/-- Link B's station address from the ADDR[4:0] strap; a strap of 0 is read as 1 (R177). -/
def stationAddress (strap : Nat) : Nat := if strap = 0 then 1 else strap

end Sys2Proof.Config
end

