-- ==== Sys2Proof/Syntax.lean ====
section
/-!
DEFINITION. The steps the part can be made to take, WHOLE: one constructor of `Instr` per row of spec/opcode_table.json, with
the operands its rule gives it.  A request row carries `src`, the port it arrived on and the ADDRESS byte of its frame, and the
request's fields as numbers (R192 to R194); an event row carries what the outside world supplies with the event.
-/

namespace Sys2Proof

/-- Where a request came from: the port, and the ADDRESS byte of its frame, which port A echoes in the response (R184). -/
structure Source where
  port    : Port
  address : Nat
deriving DecidableEq, Repr

/-- One character as the receiver samples it: eight data bits, the parity bit, and the level of the stop bit (`true` is mark,
`false` is space) (R178). -/
structure LinkChar where
  data   : Byte
  parity : Bool
  stop   : Bool
deriving DecidableEq, Repr

/-- The straps and input lines that cold reset reads (R166, R177): RATE[1:0], ADDR[4:0], and the raw levels of DOOR and ESTOP
(`true` is high) and of STATION[2:0]. -/
structure ResetPins where
  rate    : Nat
  addr    : Nat
  door    : Bool
  estop   : Bool
  station : Nat
deriving DecidableEq, Repr

/-- The fields of a calibration record as WRITE CALIBRATION carries them (R155, R194).  Fields that do not belong to a record
are zero in it. -/
structure CalFields where
  kind       : Nat
  x          : Int
  y          : Int
  scale      : Nat
  diagOffset : Int
  focus      : Nat
  gain       : Nat
deriving DecidableEq, Repr

/-- One nonvolatile slot: the record's fields with their 16-bit check (R156). -/
structure NvSlot where
  fields : CalFields
  check  : Nat
deriving DecidableEq, Repr

/-- What the inactive slot reads back as at the end of a commit (R163): what was written, or something else (log entry 18). -/
inductive ReadBack where
  | asWritten
  | differs (slot : NvSlot)
deriving DecidableEq, Repr

/-- The five settings of SET LINK, as their codes (R187, R194). -/
structure SetLinkReq where
  longFrames    : Nat
  broadcast     : Nat
  group         : Nat
  overrunClear  : Nat
  clearCounters : Nat
deriving DecidableEq, Repr

/-- The fields of OPEN ORDER, as their codes and numbers (R194). -/
structure OpenOrderReq where
  kind       : Nat
  method     : Nat
  forceCode  : Nat
  indenter   : Nat
  objective  : Nat
  mode       : Nat
  dwell      : Nat
  ramp       : Nat
  window     : Nat
  starvation : Nat
  lowWater   : Nat
  threshold  : Nat
  lower      : Nat
  upper      : Nat
  caseLimit  : Nat
  rh         : Nat
  rv         : Nat
  offCentre  : Nat
  bandW      : Nat
  contrast   : Nat
  asymmetry  : Nat
  frameLimit : Nat
  defaults   : Nat
deriving DecidableEq, Repr

/-- A point entry of ADD POINTS (R194); `depth` is the raw 32-bit field. -/
structure PointEntry where
  tag   : Nat
  x     : Int
  y     : Int
  depth : Nat
deriving DecidableEq, Repr

/-- ADD POINTS: the order, the last flag and the point entries; the count is their number (R31, R194). -/
structure AddPointsReq where
  orderId : Nat
  last    : Bool
  points  : List PointEntry
deriving DecidableEq, Repr

/-- The three debounced inputs (R166). -/
inductive InputName where
  | door
  | estop
  | station
deriving DecidableEq, Repr

/-- A change of the lines of one input: the new level of DOOR or ESTOP (`true` is high), or the new three-line code (R167). -/
inductive LineChange where
  | door (high : Bool)
  | estop (high : Bool)
  | station (code : Nat)
deriving DecidableEq, Repr

/-- The steps of spec/opcode_table.json, in the table's order.  The mnemonic of each stands in LAWS.json. -/
inductive Instr where
  | coldReset (pins : ResetPins)
  | startupLoadComplete (unreadable : List Nat)
  | commitComplete (readBack : ReadBack)
  | frameReceived (p : Port) (chars : List LinkChar)
  | receiveGap (p : Port)
  | frameTaken (p : Port)
  | responseSent (p : Port)
  | lineBreak (p : Port)
  | portReset (p : Port)
  | readState (src : Source)
  | readNotices (src : Source)
  | setLink (src : Source) (r : SetLinkReq)
  | openOrder (src : Source) (r : OpenOrderReq)
  | addPoints (src : Source) (r : AddPointsReq)
  | cancelOrder (src : Source) (id : Nat)
  | holdOrder (src : Source) (id : Nat)
  | resumeOrder (src : Source) (id : Nat)
  | holdAll (src : Source)
  | resumeAll (src : Source)
  | takeHead (src : Source)
  | freeHead (src : Source)
  | claimReview (src : Source) (seq : Nat)
  | enterDiagonals (src : Source) (seq : Nat) (d1 : Nat) (d2 : Nat)
  | rejectImpression (src : Source) (seq : Nat)
  | readResults (src : Source) (first : Nat) (maxN : Nat)
  | releaseResults (src : Source) (through : Nat)
  | readSummary (src : Source) (id : Nat)
  | readCalibration (src : Source) (rec : Nat)
  | writeCalibration (src : Source) (rec : Nat) (f : CalFields)
  | setLamp (src : Source) (green : Nat) (amber : Nat) (red : Nat)
  | setInputs (src : Source) (door : Nat) (estop : Nat) (station : Nat)
  | inputChange (c : LineChange)
  | stabilityTimerExpiry (i : InputName)
  | stgDone
  | stgFault
  | turDone
  | stageTimerExpiry
  | turretTimerExpiry
  | loadSample (count : Int)
  | actRaised (level : Bool)
  | approachTimerExpiry
  | unloadTimerExpiry
  | retractTimerExpiry
  | starvationTimerExpiry
  | frameStart
  | frameCompletion
  | scoreReady
  | frameTimerExpiry
  | measurementReport
  | windowTimerExpiry
  | lampTimebaseTick
  | lineMarker (rise : Bool)
  | pixelTaken (value : Nat)
deriving DecidableEq, Repr

end Sys2Proof
end

