-- ==== Sys2Proof/WellFormed.lean ====
section
/-!
DEFINITION. When a command is well formed: each operand lies in the range its field or line has (R167, R177, R194 and the
layouts of 11.8).  `exec` gives every command a meaning, well formed or not; these checks say which the part can be sent.
-/

namespace Sys2Proof

/-- A number that fits `n` bytes. -/
def fitsBytes (n v : Nat) : Bool := v < 256 ^ n

/-- A signed number that fits `n` bytes in two's complement (R194). -/
def fitsSigned (n : Nat) (v : Int) : Bool := -(256 ^ n : Nat) ≤ 2 * v && 2 * v < (256 ^ n : Nat)

/-- The ADDRESS byte is a byte. -/
def Source.wf (src : Source) : Bool := fitsBytes 1 src.address

/-- Straps and station lines in range (R177, 10.1). -/
def ResetPins.wf (p : ResetPins) : Bool := p.rate < 4 && p.addr < 32 && p.station < 8

/-- Widths of the WRITE CALIBRATION fields (R194). -/
def CalFields.wf (f : CalFields) : Bool :=
  fitsBytes 1 f.kind && fitsSigned 4 f.x && fitsSigned 4 f.y && fitsBytes 4 f.scale && fitsSigned 2 f.diagOffset
    && fitsBytes 4 f.focus && fitsBytes 2 f.gain

/-- Widths of a nonvolatile slot (R156). -/
def NvSlot.wf (n : NvSlot) : Bool := n.fields.wf && fitsBytes 2 n.check

/-- Widths of the SET LINK settings (R194). -/
def SetLinkReq.wf (r : SetLinkReq) : Bool :=
  fitsBytes 1 r.longFrames && fitsBytes 1 r.broadcast && fitsBytes 1 r.group && fitsBytes 1 r.overrunClear
    && fitsBytes 1 r.clearCounters

/-- Widths of the OPEN ORDER fields (R194). -/
def OpenOrderReq.wf (r : OpenOrderReq) : Bool :=
  fitsBytes 1 r.kind && fitsBytes 1 r.method && fitsBytes 1 r.forceCode && fitsBytes 1 r.indenter
    && fitsBytes 1 r.objective && fitsBytes 1 r.mode && fitsBytes 2 r.dwell && fitsBytes 2 r.ramp && fitsBytes 2 r.window
    && fitsBytes 1 r.starvation && fitsBytes 1 r.lowWater && fitsBytes 2 r.threshold && fitsBytes 4 r.lower
    && fitsBytes 4 r.upper && fitsBytes 4 r.caseLimit && fitsBytes 2 r.rh && fitsBytes 2 r.rv && fitsBytes 2 r.offCentre
    && fitsBytes 1 r.bandW && fitsBytes 1 r.contrast && fitsBytes 1 r.asymmetry && fitsBytes 1 r.frameLimit
    && fitsBytes 2 r.defaults

/-- Widths of a point entry (R194). -/
def PointEntry.wf (e : PointEntry) : Bool :=
  fitsBytes 2 e.tag && fitsSigned 4 e.x && fitsSigned 4 e.y && fitsBytes 4 e.depth

/-- Widths of ADD POINTS; the count field is one byte (R194). -/
def AddPointsReq.wf (r : AddPointsReq) : Bool := fitsBytes 2 r.orderId && fitsBytes 1 r.points.length && r.points.all (·.wf)

/-- The station code has three lines (10.1). -/
def LineChange.wf : LineChange → Bool
  | .door _ => true
  | .estop _ => true
  | .station c => c < 8

/-- Every operand of the command lies in the range of its field, line or converter. -/
def Instr.wf : Instr → Bool
  | .coldReset pins => pins.wf
  | .startupLoadComplete unreadable => unreadable.all (· < 7)
  | .commitComplete .asWritten => true
  | .commitComplete (.differs slot) => slot.wf
  | .frameReceived _ _ => true
  | .receiveGap _ => true
  | .frameTaken _ => true
  | .responseSent _ => true
  | .lineBreak _ => true
  | .portReset _ => true
  | .readState src => src.wf
  | .readNotices src => src.wf
  | .setLink src r => src.wf && r.wf
  | .openOrder src r => src.wf && r.wf
  | .addPoints src r => src.wf && r.wf
  | .cancelOrder src id => src.wf && fitsBytes 2 id
  | .holdOrder src id => src.wf && fitsBytes 2 id
  | .resumeOrder src id => src.wf && fitsBytes 2 id
  | .holdAll src => src.wf
  | .resumeAll src => src.wf
  | .takeHead src => src.wf
  | .freeHead src => src.wf
  | .claimReview src seq => src.wf && fitsBytes 4 seq
  | .enterDiagonals src seq d1 d2 => src.wf && fitsBytes 4 seq && fitsBytes 4 d1 && fitsBytes 4 d2
  | .rejectImpression src seq => src.wf && fitsBytes 4 seq
  | .readResults src first maxN => src.wf && fitsBytes 4 first && fitsBytes 1 maxN
  | .releaseResults src through => src.wf && fitsBytes 4 through
  | .readSummary src id => src.wf && fitsBytes 2 id
  | .readCalibration src rec => src.wf && fitsBytes 1 rec
  | .writeCalibration src rec f => src.wf && fitsBytes 1 rec && f.wf
  | .setLamp src g a r => src.wf && fitsBytes 1 g && fitsBytes 1 a && fitsBytes 1 r
  | .setInputs src d e c => src.wf && fitsBytes 1 d && fitsBytes 1 e && fitsBytes 1 c
  | .inputChange c => c.wf
  | .stabilityTimerExpiry _ => true
  | .stgDone => true
  | .stgFault => true
  | .turDone => true
  | .stageTimerExpiry => true
  | .turretTimerExpiry => true
  | .loadSample count => -8388608 ≤ count && count ≤ 8388607
  | .actRaised _ => true
  | .approachTimerExpiry => true
  | .unloadTimerExpiry => true
  | .retractTimerExpiry => true
  | .starvationTimerExpiry => true
  | .frameStart => true
  | .frameCompletion => true
  | .scoreReady => true
  | .frameTimerExpiry => true
  | .measurementReport => true
  | .windowTimerExpiry => true
  | .lampTimebaseTick => true
  | .lineMarker _ => true
  | .pixelTaken value => value < 1024

end Sys2Proof
end

