-- ==== Sys2Proof/Decode.lean ====
section
/-!
DEFINITION. The command that a word spells by the bits of spec/opcode_table.json.  No row of the table gives any bits (every
row's "fields" is empty and none has "fixed"), so no word spells a command.  The part's real decoder, from the KIND and payload
of a link frame to the request it carries (R184, R192 to R194), is `Machine.requestOf` in Machine/Operands.lean, with its
encoder `Machine.requestFrame` beside it.
-/

namespace Sys2Proof

/-- No row of the opcode table has bits: no word spells a command. -/
def decodeTableWord (_nbits _w : Nat) : Option Instr := none

end Sys2Proof
end

