-- ==== Sys2Proof/Machine/Arith.lean ====
section
/-!
DEFINITION. Exact integer arithmetic (R1), the byte order of multi-byte fields (R194) and the frame check (R181).
-/

namespace Sys2Proof.Machine

/-- Round half up, for non-negative `n` and positive `d` (R1). -/
def roundHalfUp (n d : Nat) : Nat := (n + d / 2) / d

/-- Round to nearest with halves away from zero, for signed `n` and positive `d` (R1). -/
def roundAway (n : Int) (d : Nat) : Int :=
  if n < 0 then -(roundHalfUp n.natAbs d : Int) else (roundHalfUp n.natAbs d : Int)

/-- One more, stopping at 65,535 (R85, R182, R189). -/
def saturatingSucc (n : Nat) : Nat := if n < 65535 then n + 1 else n

/-- The magnitude of a difference of naturals. -/
def absDiff (a b : Nat) : Nat := (a - b) + (b - a)

/-- `w` bytes of `n`, most significant first (R194); higher bits are dropped (log entry 21). -/
def bytesOf : Nat → Nat → List Byte
  | 0, _ => []
  | w + 1, n => bytesOf w (n / 256) ++ [BitVec.ofNat 8 n]

/-- The number that bytes spell, most significant first (R194). -/
def natOf (bs : List Byte) : Nat := bs.foldl (fun n b => n * 256 + b.toNat) 0

/-- `w` bytes of a signed number in two's complement (R194). -/
def signedBytes (w : Nat) (v : Int) : List Byte := bytesOf w (v % (256 ^ w : Nat)).toNat

/-- The signed number that bytes spell in two's complement (R194). -/
def signedOf (bs : List Byte) : Int :=
  if 2 * natOf bs < 256 ^ bs.length then (natOf bs : Int) else (natOf bs : Int) - (256 ^ bs.length : Nat)

/-- The check register after one data bit (R181): the top bit exclusive-ORed with the data bit decides whether the shifted
register is exclusive-ORed with 0x1021. -/
def crcBit (reg : Check) (bit : Bool) : Check :=
  if xor reg.msb bit then (reg <<< 1) ^^^ 0x1021#16 else reg <<< 1

/-- The check register after one byte, most significant bit first (R181). -/
def crcByte (reg : Check) (b : Byte) : Check :=
  [7, 6, 5, 4, 3, 2, 1, 0].foldl (fun r i => crcBit r (b.getLsbD i)) reg

/-- CRC-16 of a run of bytes, from the start value 0xFFFF (R181). -/
def crc16 (bs : List Byte) : Check := bs.foldl crcByte 0xFFFF#16

/-- The two check bytes of a run of bytes, most significant first (R179). -/
def checkBytes (bs : List Byte) : List Byte := bytesOf 2 (crc16 bs).toNat

end Sys2Proof.Machine
end

