-- ==== Sys2Proof/Machine/State.lean ====
section
/-!
DEFINITION. The state of the part, as plain data: every block of 00_scope.md 2.1 with the state its chapter gives it, the level
of the pins the part remembers, and the queue of commands waiting.  `State.reset` is the part right after cold reset.
The values of each type carry the spec's names; the codes they have on the wire stand in Machine/Operands.lean.
-/

namespace Sys2Proof.Machine

/-! ## Names the spec gives to values -/

/-- Kind of an order (1.1). -/
inductive OrderKind where
  | single
  | pattern
  | traverse
deriving DecidableEq, Repr

/-- Method of an order (1.1). -/
inductive Method where
  | vickers
  | knoop
deriving DecidableEq, Repr

/-- Measure mode of an order (1.1). -/
inductive MeasureMode where
  | immediate
  | deferred
deriving DecidableEq, Repr

/-- Life-cycle state of an order (1.3); `opened` is OPEN. -/
inductive OrderState where
  | opened
  | running
  | held
  | ended
deriving DecidableEq, Repr

/-- Outcome of an ENDED order (R9). -/
inductive OrderOutcome where
  | completed
  | cancelled
  | aborted
deriving DecidableEq, Repr

/-- Abort reason (R66). -/
inductive AbortReason where
  | motionFault
  | turretFault
  | estop
deriving DecidableEq, Repr

/-- The set of hold causes of an order (R7). -/
structure Holds where
  own       : Bool
  device    : Bool
  interlock : Bool
deriving DecidableEq, Repr

/-- The set of pending hold causes of an order (R8); INTERLOCK is never pending. -/
structure PendingHolds where
  own    : Bool
  device : Bool
deriving DecidableEq, Repr

/-- A point of a point list (R30). -/
structure Point where
  tag   : Nat
  x     : Int
  y     : Int
  depth : Option Nat
deriving DecidableEq, Repr

/-- Case-depth status of an order (R150, R151); PENDING stands only until the order ends. -/
inductive CaseStatus where
  | none
  | pending
  | found
  | surfaceBelow
  | notReached
  | noResult
deriving DecidableEq, Repr

/-- The nine counts of an order (R148). -/
structure Counts where
  taken      : Nat
  auto       : Nat
  manual     : Nat
  unmeasured : Nat
  skipped    : Nat
  discarded  : Nat
  inBand     : Nat
  low        : Nat
  high       : Nat
deriving DecidableEq, Repr

/-- The summary of an ENDED order (R152). -/
structure Summary where
  orderId     : Nat
  origin      : Port
  kind        : OrderKind
  method      : Method
  forceCode   : Nat
  outcome     : OrderOutcome
  abortReason : Option AbortReason
  counts      : Counts
  minHardness : Option Nat
  maxHardness : Option Nat
  mean        : Option Nat
  caseStatus  : CaseStatus
  caseValue   : Option Nat
  firstSeq    : Option Nat
  lastSeq     : Option Nat
  clamped     : Bool
deriving DecidableEq, Repr

/-- An order record (1.1). -/
structure Order where
  id           : Nat
  origin       : Port
  rank         : Nat
  kind         : OrderKind
  method       : Method
  forceCode    : Nat
  indenter     : Nat
  objective    : Nat
  mode         : MeasureMode
  dwell        : Nat
  ramp         : Nat
  window       : Nat
  starvation   : Nat
  lowWater     : Nat
  threshold    : Nat
  lower        : Option Nat
  upper        : Option Nat
  caseLimit    : Option Nat
  bandW        : Nat
  rh           : Nat
  rv           : Nat
  contrast     : Nat
  asymmetry    : Nat
  offCentre    : Nat
  frameLimit   : Nat
  status       : OrderState
  holds        : Holds
  pendingHolds : PendingHolds
  outcome      : Option OrderOutcome
  abortReason  : Option AbortReason
  cancelPending : Bool
  clamped      : Bool
  lastReceived : Bool
  lastDepth    : Option Nat
  points       : List Point
  lowArmed     : Bool
  refDiagonal  : Option Nat
  lastIndent   : Option (Int × Int)
  firstSeq     : Option Nat
  lastSeq      : Option Nat
  counts       : Counts
  hardnessSum  : Nat
  minHardness  : Option Nat
  maxHardness  : Option Nat
  prevMeasured : Option (Nat × Nat)
  crossingFound : Bool
  caseStatus   : CaseStatus
  caseValue    : Option Nat
  summary      : Option Summary
deriving DecidableEq, Repr

/-- The order table: the next-id value (R2) and the occupied slots, oldest open rank first; at most eight (2.3)
(log entry 22). -/
structure OrderTable where
  nextId : Nat
  orders : List Order
deriving DecidableEq, Repr

/-- The head arbiter (1.4). -/
structure Arbiter where
  owner       : Option Nat
  lastGranted : Port
  lock        : Option Port
  deviceHold  : Bool
deriving DecidableEq, Repr

/-- Indenter-phase mark of a point (R41, R46). -/
inductive Mark where
  | forceLost
  | interrupted
deriving DecidableEq, Repr

/-- The sequencer's current point (R46).  `softFocus` is the SOFT_FOCUS of its view (R58); `handed` says that the force monitor
has handed its values over, at the end of UNLOAD (R82). -/
structure CurPoint where
  tag        : Nat
  x          : Int
  y          : Int
  depth      : Option Nat
  indented   : Bool
  peak       : Int
  achieved   : Nat
  deviation  : Bool
  mark       : Option Mark
  framesUsed : Nat
  softFocus  : Bool
  handed     : Bool
deriving DecidableEq, Repr

/-- An entry of the impression list (R40). -/
structure Impression where
  tag       : Nat
  x         : Int
  y         : Int
  depth     : Option Nat
  peak      : Int
  achieved  : Nat
  deviation : Bool
  mark      : Option Mark
deriving DecidableEq, Repr

/-- The sixteen sequencer states (R45). -/
inductive SeqState where
  | idle
  | awaitPoints
  | storeWait
  | moveIndent
  | tare
  | approach
  | ramp
  | dwell
  | unload
  | moveView
  | settle
  | focus
  | measure
  | reviewWait
  | paused
  | retract
deriving DecidableEq, Repr

/-- The round phase of deferred mode (R45). -/
inductive RoundPhase where
  | indent
  | measure
deriving DecidableEq, Repr

/-- The purpose of a RETRACT (R61); the purpose ABORT carries the abort reason (R66). -/
inductive RetractPurpose where
  | cancel
  | noContact
  | abort (reason : AbortReason)
deriving DecidableEq, Repr

/-- The six timers of the cycle (3.9): absent when stopped, else the length in ms each was started with (log entry 19). -/
structure CycleTimers where
  stage      : Option Nat
  turret     : Option Nat
  approach   : Option Nat
  unload     : Option Nat
  retract    : Option Nat
  starvation : Option Nat
deriving DecidableEq, Repr

/-- The cycle sequencer (R45): its state, what it holds, and the motion of the stage and the turret (R49 to R52). -/
structure Sequencer where
  state             : SeqState
  cur               : Option CurPoint
  impressions       : List Impression
  round             : RoundPhase
  purpose           : Option RetractPurpose
  stopFlag          : Bool
  timers            : CycleTimers
  stageOutstanding  : Bool
  stagePart         : Bool
  turretOutstanding : Bool
  turretPart        : Bool
  turretRequest     : Nat
deriving DecidableEq, Repr

/-- The force monitor (chapter 4). -/
structure ForceMonitor where
  tare      : Int
  tareSum   : Int
  tareCount : Nat
  lastForce : Int
  setPoint  : Nat
  rampStep  : Nat
  dwellCount : Nat
  outOfBand : Nat
  peak      : Int
  deviation : Bool
deriving DecidableEq, Repr

/-- Role of a profile bank (R85). -/
inductive BankRole where
  | free
  | filling
  | best
  | reading
deriving DecidableEq, Repr

/-- A profile bank (R85).  `lines` counts the whole lines taken, `pixels` those of the line being taken, `inLine` says that a
line of this frame is being taken. -/
structure Bank where
  role     : BankRole
  hProfile : List Nat
  vProfile : List Nat
  score    : Option Nat
  lines    : Nat
  pixels   : Nat
  inLine   : Bool
  closed   : Bool
deriving DecidableEq, Repr

/-- The two banks by name. -/
inductive BankId where
  | zero
  | one
deriving DecidableEq, Repr

/-- The view phase (R85). -/
inductive ViewPhase where
  | none
  | settle
  | focus
  | handed
deriving DecidableEq, Repr

/-- The view parameters of R90. -/
structure ViewParams where
  bandW      : Nat
  rh         : Nat
  frameLimit : Nat
  threshold  : Nat
deriving DecidableEq, Repr

/-- The capture unit (R85).  `scoring` lists the closed banks whose score is pending, in the order their frames completed (R92). -/
structure CaptureUnit where
  bank0        : Bank
  bank1        : Bank
  phase        : ViewPhase
  params       : Option ViewParams
  framesScored : Nat
  scoring      : List BankId
  frameTimer   : Option Nat
  expose       : Bool
  frameErrors  : Nat
  dropped      : Nat
deriving DecidableEq, Repr

/-- Verdict of a result (R119). -/
inductive Verdict where
  | none
  | inBand
  | low
  | high
deriving DecidableEq, Repr

/-- Reason of a record (R137). -/
inductive Reason where
  | none
  | spacing
  | noContact
  | forceLost
  | interrupted
  | noImage
  | focusFail
  | notFound
  | edgeLost
  | tooSmall
  | rejected
  | reviewExpired
  | cancelled
  | aborted
deriving DecidableEq, Repr

/-- State of a record (R136). -/
inductive RecState where
  | auto
  | manual
  | unmeasured
  | skipped
  | review
deriving DecidableEq, Repr

/-- The profile a measurement works on (R101). -/
inductive Axis where
  | horizontal
  | vertical
deriving DecidableEq, Repr

/-- What the measurement engine takes at the start of a measurement (R101), beside the profiles, which it reads in place. -/
structure EngineInputs where
  bandW      : Nat
  rh         : Nat
  rv         : Nat
  contrast   : Nat
  asymmetry  : Nat
  offCentre  : Nat
  method     : Method
  forceCode  : Nat
  lower      : Option Nat
  upper      : Option Nat
  nominal    : Nat
  scale      : Nat
  diagOffset : Int
  generation : Nat
deriving DecidableEq, Repr

/-- The working values of the measurement in progress (R101): those of the profile under work, absent until computed, and the
results of the profiles already done. -/
structure EngineWork where
  profile    : Axis
  background : Option Nat
  minimum    : Option Nat
  minIndex   : Option Nat
  threshold  : Option Nat
  leftIndex  : Option Nat
  rightIndex : Option Nat
  xL         : Option Nat
  xR         : Option Nat
  length16   : Option Nat
  centre16   : Option Nat
  d1         : Option Nat
  d2         : Option Nat
  dx         : Option Int
  dy         : Option Int
  offCentre  : Bool
  asymmetric : Bool
  aspect     : Bool
  overrange  : Bool
deriving DecidableEq, Repr

/-- A measurement in progress (R101). -/
structure Measurement where
  inputs : EngineInputs
  work   : EngineWork
deriving DecidableEq, Repr

/-- The open review (R124). -/
structure Review where
  seq      : Nat
  orderId  : Nat
  claimant : Option Port
deriving DecidableEq, Repr

/-- The review desk (R124): the one open review, and the window timer with the ms it was started with. -/
structure ReviewDesk where
  review : Option Review
  window : Option Nat
deriving DecidableEq, Repr

/-- Flags of a record (R138). -/
structure RecFlags where
  asymmetric : Bool
  aspect     : Bool
  offCentre  : Bool
  overrange  : Bool
  deviation  : Bool
  softFocus  : Bool
deriving DecidableEq, Repr

/-- A result record (R136). -/
structure Record where
  seq        : Nat
  orderId    : Nat
  origin     : Port
  tag        : Nat
  state      : RecState
  reason     : Reason
  method     : Method
  forceCode  : Nat
  x          : Int
  y          : Int
  depth      : Option Nat
  d1         : Option Nat
  d2         : Option Nat
  hardness   : Option Nat
  verdict    : Verdict
  flags      : RecFlags
  peak       : Int
  achieved   : Nat
  dx         : Int
  dy         : Int
  generation : Nat
  framesUsed : Nat
deriving DecidableEq, Repr

/-- The result store (R139, R140, R145), records in sequence order. -/
structure ResultStore where
  records  : List Record
  nextSeq  : Nat
  waitingA : Nat
  waitingB : Nat
  armedA   : Bool
  armedB   : Bool
deriving DecidableEq, Repr

/-- Kind of a station record (R155). -/
inductive StationKind where
  | empty
  | vickersIndenter
  | knoopIndenter
  | objective
deriving DecidableEq, Repr

/-- The fields only an OBJECTIVE station has (R155). -/
structure ObjectiveFields where
  scale      : Nat
  diagOffset : Int
  focus      : Nat
deriving DecidableEq, Repr

/-- A station record of the working copy (R155). -/
structure Station where
  kind      : StationKind
  x         : Int
  y         : Int
  objective : Option ObjectiveFields
deriving DecidableEq, Repr

/-- Condition of a calibration record (R155). -/
inductive Condition where
  | sound
  | loadFault
  | commitFault
deriving DecidableEq, Repr

/-- The two slots of a record of the nonvolatile copy, and which is active (R156). -/
structure NvRecord where
  slot0   : NvSlot
  slot1   : NvSlot
  active1 : Bool
deriving DecidableEq, Repr

/-- The commit in progress (R155), with the fields it writes (R163). -/
structure Commit where
  record     : Nat
  writer     : Port
  generation : Nat
  fields     : CalFields
deriving DecidableEq, Repr

/-- The calibration table (R155, R156): the working copy of six station records and the force record's gain, the conditions of
records 0 to 6, and the nonvolatile copy. -/
structure CalTable where
  stations   : List Station
  gain       : Nat
  conditions : List Condition
  loaded     : Bool
  commit     : Option Commit
  nvBusy     : Bool
  generation : Nat
  nv         : List NvRecord
deriving DecidableEq, Repr

/-- A debounced input (R166); an absent level is UNSETTLED; the timer is absent when stopped, else the ms it was started with. -/
structure Debounced (α : Type) where
  level     : Option α
  candidate : Option α
  timer     : Option Nat
  time      : Nat
deriving DecidableEq, Repr

/-- Levels of the door input (R166). -/
inductive DoorLevel where
  | isOpen
  | isClosed
deriving DecidableEq, Repr

/-- Levels of the e-stop input (R166). -/
inductive EstopLevel where
  | asserted
  | clear
deriving DecidableEq, Repr

/-- The three interlock inputs (R166). -/
structure Inputs where
  door    : Debounced DoorLevel
  estop   : Debounced EstopLevel
  station : Debounced Nat
deriving DecidableEq, Repr

/-- Patterns of a FORCED lamp (R174). -/
inductive Pattern where
  | off
  | on
  | slow
  | fast
deriving DecidableEq, Repr

/-- Mode of a lamp (R174). -/
inductive LampMode where
  | auto
  | forced (p : Pattern)
deriving DecidableEq, Repr

/-- The lamps (R174): three modes, and the timebase as the number of 125 ms intervals into its 1 s period, 0 to 7. -/
structure Lamps where
  green : LampMode
  amber : LampMode
  red   : LampMode
  phase : Nat
deriving DecidableEq, Repr

/-- Receive states of a port (R179). -/
inductive RxState where
  | hunt
  | sync2
  | header
  | payload
  | check
deriving DecidableEq, Repr

/-- The receiver of a port (R177, R179): its state and skipping mark, and what it has taken of the frame being received. -/
structure Receiver where
  state    : RxState
  skipping : Bool
  shared   : Bool
  header   : List Byte
  taken    : Nat
  payload  : List Byte
  check    : List Byte
deriving DecidableEq, Repr

/-- A complete frame in a receive buffer (R181); `shared` says it was accepted under address 0 or the group address (R180). -/
structure RxFrame where
  address : Byte
  kind    : Byte
  shared  : Bool
  payload : List Byte
deriving DecidableEq, Repr

/-- A response frame (R184): ADDRESS, KIND and payload, the status byte first. -/
structure TxFrame where
  address : Byte
  kind    : Byte
  payload : List Byte
deriving DecidableEq, Repr

/-- Kinds of notice (11.8). -/
inductive NoticeKind where
  | orderStarted
  | orderYielded
  | orderEnded
  | pointsLow
  | resultsWaiting
  | reviewOpen
  | reviewClosed
  | interlock
  | headLock
  | calWritten
  | calFault
  | linkOverrun
deriving DecidableEq, Repr

/-- A notice entry (R189). -/
structure Notice where
  kind    : NoticeKind
  orderId : Nat
  origin  : Option Port
  seq     : Nat
  value   : Nat
deriving DecidableEq, Repr

/-- The link counters of a port (R177). -/
structure LinkCounters where
  framing : Nat
  gap     : Nat
  length  : Nat
  crc     : Nat
  overrun : Nat
  ignored : Nat
deriving DecidableEq, Repr

/-- The options of a port (R177, R187). -/
structure LinkOptions where
  longFrames   : Bool
  broadcast    : Bool
  group        : Nat
  overrunClear : Bool
deriving DecidableEq, Repr

/-- A link port (R177).  `handling` is the addressed request the port has passed to its owner and not yet answered (R184);
`responses` are the responses formed and not yet sent, the one in transmission first (R178). -/
structure LinkPort where
  rx        : Receiver
  buffers   : List RxFrame
  handling  : Option Instr
  responses : List TxFrame
  inBreak   : Bool
  options   : LinkOptions
  counters  : LinkCounters
  notices   : List Notice
  lost      : Nat
  attention : Bool
deriving DecidableEq, Repr

/-- The straps as read at cold reset (R177): the rate code and link B's station address. -/
structure Straps where
  rate    : Nat
  station : Nat
deriving DecidableEq, Repr

/-- The last command sent on the stage port's STG lines (R49, R52). -/
inductive StageCommand where
  | none
  | move (x : Int) (y : Int)
  | stop
deriving DecidableEq, Repr

/-- What the part's pins hold between steps: the inputs ACT_RAISED, FRAME and LINE as last seen, the last stage command, and
the set-point last sent on FORCE_SET (R49, R56, R68, R86). -/
structure Pins where
  actRaised : Bool
  frameHigh : Bool
  lineHigh  : Bool
  stage     : StageCommand
  forceSet  : Nat
deriving DecidableEq, Repr

/-- The part, and the commands waiting for it, first in first out. -/
structure State where
  portA    : LinkPort
  portB    : LinkPort
  straps   : Straps
  table    : OrderTable
  arb      : Arbiter
  poolFree : Nat
  seq      : Sequencer
  force    : ForceMonitor
  cap      : CaptureUnit
  engine   : Option Measurement
  desk     : ReviewDesk
  store    : ResultStore
  cal      : CalTable
  inputs   : Inputs
  lamps    : Lamps
  pins     : Pins
  pending  : List Instr
deriving DecidableEq, Repr

/-- Why a step could stop with a fault: it never does.  Every event and every request of the spec has an effect, or is answered
with a status, or leaves the part as it is, so this type has no constructor (safe: no claim rests on a fault). -/
inductive Fault where
deriving DecidableEq, Repr

/-- Why a step could refuse a command. -/
inductive Refusal where
  /-- Raised by `exec` alone, for a row of the opcode table that has no meaning yet; no row is left so (safe). -/
  | notModelled (mnemonic : String)
deriving DecidableEq, Repr

/-! ## The state after cold reset -/

/-- No hold causes. -/
def Holds.none : Holds := ⟨false, false, false⟩

/-- No pending hold causes. -/
def PendingHolds.none : PendingHolds := ⟨false, false⟩

/-- All counts zero (R6). -/
def Counts.zero : Counts := ⟨0, 0, 0, 0, 0, 0, 0, 0, 0⟩

/-- Every timer stopped (R45). -/
def CycleTimers.stopped : CycleTimers := ⟨.none, .none, .none, .none, .none, .none⟩

/-- The sequencer after cold reset (R45) (log entry 8). -/
def Sequencer.reset : Sequencer :=
  { state := .idle, cur := .none, impressions := [], round := .indent, purpose := .none, stopFlag := false
    timers := CycleTimers.stopped, stageOutstanding := false, stagePart := false, turretOutstanding := false
    turretPart := false, turretRequest := 0 }

/-- The force monitor after cold reset (R84). -/
def ForceMonitor.reset : ForceMonitor :=
  { tare := 0, tareSum := 0, tareCount := 0, lastForce := 0, setPoint := 0, rampStep := 0, dwellCount := 0
    outOfBand := 0, peak := 0, deviation := false }

/-- A bank after cold reset (R85). -/
def Bank.reset : Bank :=
  { role := .free, hProfile := List.replicate Config.columns 0, vProfile := List.replicate Config.rows 0
    score := .none, lines := 0, pixels := 0, inLine := false, closed := false }

/-- The capture unit after cold reset (R85). -/
def CaptureUnit.reset : CaptureUnit :=
  { bank0 := Bank.reset, bank1 := Bank.reset, phase := .none, params := .none, framesScored := 0, scoring := []
    frameTimer := .none, expose := false, frameErrors := 0, dropped := 0 }

/-- The result store after cold reset (R139, R140, R145). -/
def ResultStore.reset : ResultStore :=
  { records := [], nextSeq := 1, waitingA := 0, waitingB := 0, armedA := true, armedB := true }

/-- The substitute values of a station record (R158). -/
def Station.substitute : Station := { kind := .empty, x := 0, y := 0, objective := .none }

/-- All fields zero. -/
def CalFields.zero : CalFields := ⟨0, 0, 0, 0, 0, 0, 0⟩

/-- A slot of a nonvolatile memory never written: zeros, which fail the check of R156 (DESIGN CHOICE, log entry 1). -/
def NvRecord.blank : NvRecord := { slot0 := ⟨CalFields.zero, 0⟩, slot1 := ⟨CalFields.zero, 0⟩, active1 := false }

/-- The calibration table when the start-up load begins (R157), over a given nonvolatile copy; the working copy holds the
substitutes of R158 until the load completes (DESIGN CHOICE, log entry 2). -/
def CalTable.starting (nv : List NvRecord) : CalTable :=
  { stations := List.replicate 6 Station.substitute, gain := 1, conditions := List.replicate 7 .sound, loaded := false
    commit := .none, nvBusy := false, generation := 0, nv := nv }

/-- An input after cold reset: UNSETTLED, its raw level the candidate, its timer started (R166). -/
def Debounced.starting {α : Type} (raw : α) (time : Nat) : Debounced α :=
  { level := .none, candidate := .some raw, timer := .some time, time := time }

/-- DOOR reads closed when it is driven high (10.1). -/
def DoorLevel.ofLine (high : Bool) : DoorLevel := if high then .isClosed else .isOpen

/-- ESTOP reads asserted when it is driven low (10.1). -/
def EstopLevel.ofLine (high : Bool) : EstopLevel := if high then .clear else .asserted

/-- The inputs after cold reset, from their raw lines (R166). -/
def Inputs.starting (pins : ResetPins) : Inputs :=
  { door := Debounced.starting (DoorLevel.ofLine pins.door) Config.doorDebounceMs
    estop := Debounced.starting (EstopLevel.ofLine pins.estop) Config.estopDebounceMs
    station := Debounced.starting pins.station Config.stationDebounceMs }

/-- The receiver in HUNT with nothing taken (R177). -/
def Receiver.hunt : Receiver :=
  { state := .hunt, skipping := false, shared := false, header := [], taken := 0, payload := [], check := [] }

/-- The options of a port at their defaults (R177); port A has neither broadcast accept nor a group address, and holds OFF
and 0 for them (log entry 20). -/
def LinkOptions.default : Port → LinkOptions
  | .A => { longFrames := false, broadcast := false, group := 0, overrunClear := false }
  | .B => { longFrames := false, broadcast := true, group := 0, overrunClear := false }

/-- All link counters zero (R177). -/
def LinkCounters.zero : LinkCounters := ⟨0, 0, 0, 0, 0, 0⟩

/-- A port after cold reset (R177); a line break in progress is forgotten (DESIGN CHOICE, log entry 34). -/
def LinkPort.reset (p : Port) : LinkPort :=
  { rx := Receiver.hunt, buffers := [], handling := .none, responses := [], inBreak := false
    options := LinkOptions.default p, counters := LinkCounters.zero, notices := [], lost := 0, attention := false }

/-- The straps as cold reset reads them (R177). -/
def Straps.read (pins : ResetPins) : Straps := { rate := pins.rate, station := Config.stationAddress pins.addr }

/-- The part after a cold reset with the given straps and lines, over a given nonvolatile copy; the pins that drive it from
outside keep their levels, and nothing waits. -/
def State.afterColdReset (pins : ResetPins) (nv : List NvRecord) (raised frameHigh lineHigh : Bool) : State :=
  { portA := LinkPort.reset .A
    portB := LinkPort.reset .B
    straps := Straps.read pins
    table := { nextId := 1, orders := [] }
    arb := { owner := .none, lastGranted := .B, lock := .none, deviceHold := false }
    poolFree := Config.poolEntries
    seq := Sequencer.reset
    force := ForceMonitor.reset
    cap := CaptureUnit.reset
    engine := .none
    desk := { review := .none, window := .none }
    store := ResultStore.reset
    cal := CalTable.starting nv
    inputs := Inputs.starting pins
    lamps := { green := .auto, amber := .auto, red := .auto, phase := 0 }
    pins := { actRaised := raised, frameHigh := frameHigh, lineHigh := lineHigh, stage := .none, forceSet := 0 }
    pending := [] }

/-- All straps and lines low. -/
def ResetPins.low : ResetPins := { rate := 0, addr := 0, door := false, estop := false, station := 0 }

/-- The part right after power-on: every block at its reset value, all straps and input lines low and the nonvolatile memory
never written (DESIGN CHOICE, log entries 1 and 3). -/
def State.reset : State :=
  State.afterColdReset ResetPins.low (List.replicate 7 NvRecord.blank) false false false

/-! ## Reading and replacing one block -/

/-- The link port of that name. -/
def State.port (s : State) : Port → LinkPort
  | .A => s.portA
  | .B => s.portB

/-- Change one link port. -/
def State.modPort (p : Port) (f : LinkPort → LinkPort) (s : State) : State :=
  match p with
  | .A => { s with portA := f s.portA }
  | .B => { s with portB := f s.portB }

/-- Change the order table. -/
def State.modTable (f : OrderTable → OrderTable) (s : State) : State := { s with table := f s.table }

/-- Change the head arbiter. -/
def State.modArb (f : Arbiter → Arbiter) (s : State) : State := { s with arb := f s.arb }

/-- Set the number of free pool entries. -/
def State.setPoolFree (n : Nat) (s : State) : State := { s with poolFree := n }

/-- Change the sequencer. -/
def State.modSeq (f : Sequencer → Sequencer) (s : State) : State := { s with seq := f s.seq }

/-- Change the force monitor. -/
def State.modForce (f : ForceMonitor → ForceMonitor) (s : State) : State := { s with force := f s.force }

/-- Change the capture unit. -/
def State.modCap (f : CaptureUnit → CaptureUnit) (s : State) : State := { s with cap := f s.cap }

/-- Set the measurement in progress. -/
def State.setEngine (m : Option Measurement) (s : State) : State := { s with engine := m }

/-- Set the review desk. -/
def State.setDesk (d : ReviewDesk) (s : State) : State := { s with desk := d }

/-- Change the result store. -/
def State.modStore (f : ResultStore → ResultStore) (s : State) : State := { s with store := f s.store }

/-- Change the calibration table. -/
def State.modCal (f : CalTable → CalTable) (s : State) : State := { s with cal := f s.cal }

/-- Change the interlock inputs. -/
def State.modInputs (f : Inputs → Inputs) (s : State) : State := { s with inputs := f s.inputs }

/-- Change the lamps. -/
def State.modLamps (f : Lamps → Lamps) (s : State) : State := { s with lamps := f s.lamps }

/-- Change the remembered pins. -/
def State.modPins (f : Pins → Pins) (s : State) : State := { s with pins := f s.pins }

/-- Change the timers of the cycle. -/
def State.modTimers (f : CycleTimers → CycleTimers) (s : State) : State :=
  s.modSeq fun q => { q with timers := f q.timers }

end Sys2Proof.Machine
end

