-- ==== Sys2Proof/Machine/Flags.lean ====
section
/-!
DEFINITION. The force codes (R70), and the evaluation of a diagonal pair: hardness, flags and verdict (R113 to R119).
-/

namespace Sys2Proof.Machine

/-! ## Force codes -/

/-- Nominal force of a force code, mN (R70). -/
def nominalForce (code : Nat) : Nat :=
  [98, 245, 490, 981, 1961, 2942, 4903, 9807, 19613, 29420, 49033, 98067].getD code 0

/-- Tolerance of a force code, per mille (R70). -/
def forceTolerance (code : Nat) : Nat := if code ≤ 3 then 15 else 10

/-- The band of a force code, mN (R70). -/
def forceBand (code : Nat) : Nat := max (nominalForce code * forceTolerance code / 1000) 2

/-- The contact threshold of a force code, mN (R70). -/
def contactThreshold (code : Nat) : Nat := max (nominalForce code / 50) 5

/-- The force-lost level of a force code, mN (R70). -/
def forceLostLevel (code : Nat) : Nat := nominalForce code / 2

/-! ## Evaluating a diagonal pair -/

/-- What the evaluation of a diagonal pair gives (R113). -/
structure Evaluation where
  hardness   : Nat
  verdict    : Verdict
  asymmetric : Bool
  aspect     : Bool
  overrange  : Bool
deriving DecidableEq, Repr

/-- The mean diagonal of method VICKERS, a half rounded up (R114). -/
def meanDiagonal (d1 d2 : Nat) : Nat := (d1 + d2 + 1) / 2

/-- The diagonal that becomes the reference diagonal: the mean for VICKERS, d1 for KNOOP (R38, R114, R117). -/
def referenceDiagonal (m : Method) (d1 d2 : Nat) : Nat :=
  match m with
  | .vickers => meanDiagonal d1 d2
  | .knoop => d1

/-- ASYMMETRIC (R114): a limit of 0 makes no check. -/
def isAsymmetric (limit d1 d2 : Nat) : Bool :=
  limit ≠ 0 && limit < absDiff d1 d2 * 1000 / meanDiagonal d1 d2

/-- ASPECT (R116): the aspect lies outside 650 to 770. -/
def isAspect (d1 d2 : Nat) : Bool := d1 * 100 / d2 < 650 || 770 < d1 * 100 / d2

/-- Hardness before clamping, HV×10 (R115) or HK×10 (R117). -/
def rawHardness (m : Method) (nominal d1 d2 : Nat) : Nat :=
  match m with
  | .vickers => roundHalfUp (189092 * nominal * 10 ^ 4) (meanDiagonal d1 d2 * meanDiagonal d1 d2)
  | .knoop => roundHalfUp (145095 * nominal * 10 ^ 5) (d1 * d1)

/-- The clamp of R118. -/
def clampHardness (raw : Nat) : Nat := if Config.hardnessMax < raw then Config.hardnessMax else if raw = 0 then 1 else raw

/-- OVERRANGE (R118). -/
def isOverrange (raw : Nat) : Bool := Config.hardnessMax < raw || raw = 0

/-- The verdict of a hardness against optional limits (R119). -/
def verdictOf (lower upper : Option Nat) (h : Nat) : Verdict :=
  if lower = .none ∧ upper = .none then .none
  else if (lower.any fun l => decide (h < l)) then .low
  else if (upper.any fun u => decide (u < h)) then .high
  else .inBand

/-- The evaluation of a diagonal pair (R113). -/
def evaluatePair (m : Method) (nominal asymmetry : Nat) (lower upper : Option Nat) (d1 d2 : Nat) : Evaluation :=
  { hardness := clampHardness (rawHardness m nominal d1 d2)
    verdict := verdictOf lower upper (clampHardness (rawHardness m nominal d1 d2))
    asymmetric := (m = .vickers : Bool) && isAsymmetric asymmetry d1 d2
    aspect := (m = .knoop : Bool) && isAspect d1 d2
    overrange := isOverrange (rawHardness m nominal d1 d2) }

end Sys2Proof.Machine
end

