-- ==== Sys2Proof/Machine/Measure.lean ====
section
/-!
DEFINITION. The arithmetic on profiles: the focus score (R92), finding the edges of one profile (R103 to R112), and a whole
measurement in its three stages (R102).
-/

namespace Sys2Proof.Machine

/-- Sample `i` of a profile. -/
def sampleAt (P : List Nat) (i : Nat) : Nat := P.getD i 0

/-- The sum of the steps between neighbouring samples of a run. -/
def stepSum : List Nat → Nat
  | [] => 0
  | [_] => 0
  | a :: b :: rest => absDiff b a + stepSum (b :: rest)

/-- The samples of the search region: from `N/2 − R` to `N/2 + R`, both included (R92, R103). -/
def searchRegion (n r : Nat) (P : List Nat) : List Nat := (P.drop (n / 2 - r)).take (2 * r + 1)

/-- The focus score of a horizontal profile (R92). -/
def focusScore (bandW rh : Nat) (P : List Nat) : Nat := stepSum (searchRegion Config.columns rh P) / bandW

/-- Samples of a profile (R103). -/
def axisSamples : Axis → Nat
  | .horizontal => Config.columns
  | .vertical => Config.rows

/-- The search half-width of a profile (R103). -/
def axisHalfWidth (inp : EngineInputs) : Axis → Nat
  | .horizontal => inp.rh
  | .vertical => inp.rv

/-- The background: the mean of the 64 samples at each end, rounded down (R104). -/
def background (n : Nat) (P : List Nat) : Nat := ((P.take 64).sum + ((P.drop (n - 64)).take 64).sum) / 128

/-- The least value of a run of samples. -/
def leastOf : List Nat → Nat
  | [] => 0
  | [a] => a
  | a :: rest => min a (leastOf rest)

/-- The lowest index of the region that holds the minimum (R105). -/
def minimumIndex (n r : Nat) (P : List Nat) : Nat :=
  (n / 2 - r) + (searchRegion n r P).idxOf (leastOf (searchRegion n r P))

/-- The left edge sample: the largest `j` with `lo ≤ j < c` and `P[j] ≥ T` (R108). -/
def leftEdge (P : List Nat) (lo c t : Nat) : Option Nat :=
  ((List.range (c - lo)).reverse.map (lo + ·)).find? fun j => decide (t ≤ sampleAt P j)

/-- The right edge sample: the smallest `k` with `c < k ≤ hi` and `P[k] ≥ T` (R109). -/
def rightEdge (P : List Nat) (c hi t : Nat) : Option Nat :=
  ((List.range (hi - c)).map (c + 1 + ·)).find? fun k => decide (t ≤ sampleAt P k)

/-- The left edge position in sixteenths of a pixel (R108). -/
def leftPosition (P : List Nat) (j t : Nat) : Nat :=
  16 * j + 16 * (sampleAt P j - t) / (sampleAt P j - sampleAt P (j + 1))

/-- The right edge position in sixteenths of a pixel (R109). -/
def rightPosition (P : List Nat) (k t : Nat) : Nat :=
  16 * k - 16 * (sampleAt P k - t) / (sampleAt P k - sampleAt P (k - 1))

/-- The displacement of a dip's centre from the image centre, in sixteenths of a pixel (R111). -/
def displacement16 (n c16 : Nat) : Int := (c16 : Int) - (8 * n : Nat)

/-- The off-centre value, nm (R111). -/
def offCentreNm (scale : Nat) (disp : Int) : Int := roundAway (disp * scale) 16000

/-- The diagonal of a length in sixteenths of a pixel, nm (R112). -/
def diagonalNm (scale : Nat) (offset : Int) (l16 : Nat) : Int := ((l16 * scale + 8000) / 16000 : Nat) + offset

/-- The engine's working values at the start of a measurement: nothing computed, every flag clear (R101). -/
def EngineWork.start : EngineWork :=
  { profile := .horizontal, background := .none, minimum := .none, minIndex := .none, threshold := .none
    leftIndex := .none, rightIndex := .none, xL := .none, xR := .none, length16 := .none, centre16 := .none
    d1 := .none, d2 := .none, dx := .none, dy := .none
    offCentre := false, asymmetric := false, aspect := false, overrange := false }

/-- The results of one profile, entered among the working values (R111, R112). -/
def EngineWork.withResult (w : EngineWork) (a : Axis) (d : Nat) (off : Int) (flag : Bool) : EngineWork :=
  match a with
  | .horizontal => { w with d1 := .some d, dx := .some off, offCentre := w.offCentre || flag }
  | .vertical => { w with d2 := .some d, dy := .some off, offCentre := w.offCentre || flag }

/-- The work on one profile, R104 to R112 in the order of their rules; the first step that fails gives the reason. -/
def measureProfile (inp : EngineInputs) (a : Axis) (P : List Nat) (w : EngineWork) : Except Reason EngineWork :=
  let n := axisSamples a
  let r := axisHalfWidth inp a
  let b := background n P
  let m := leastOf (searchRegion n r P)
  let c := minimumIndex n r P
  if b < m + inp.contrast * inp.bandW then .error .notFound
  else
    let t := (b + m) / 2
    match leftEdge P (n / 2 - r) c t with
    | .none => .error .edgeLost
    | .some j =>
      match rightEdge P c (n / 2 + r) t with
      | .none => .error .edgeLost
      | .some k =>
        let xL := leftPosition P j t
        let xR := rightPosition P k t
        let l16 := xR - xL
        if l16 < 128 then .error .tooSmall
        else
          let c16 := (xL + xR) / 2
          let disp := displacement16 n c16
          let d := diagonalNm inp.scale inp.diagOffset l16
          if d < 1 then .error .tooSmall
          else
            .ok <| EngineWork.withResult
              { w with
                profile := a, background := .some b, minimum := .some m, minIndex := .some c, threshold := .some t
                leftIndex := .some j, rightIndex := .some k, xL := .some xL, xR := .some xR
                length16 := .some l16, centre16 := .some c16 }
              a d.toNat (offCentreNm inp.scale disp)
              (inp.offCentre ≠ 0 && 16 * inp.offCentre < disp.natAbs)

/-- What a measured impression carries (R120). -/
structure Measured where
  d1         : Nat
  d2         : Nat
  hardness   : Nat
  verdict    : Verdict
  offCentre  : Bool
  asymmetric : Bool
  aspect     : Bool
  overrange  : Bool
  dx         : Int
  dy         : Int
  generation : Nat
deriving DecidableEq, Repr

/-- The report of a measurement (R102, R120, R121): the horizontal profile, then the vertical one, then the pair. -/
def measureReport (m : Measurement) (H V : List Nat) : Except Reason Measured :=
  match measureProfile m.inputs .horizontal H m.work with
  | .error e => .error e
  | .ok w1 =>
    match measureProfile m.inputs .vertical V w1 with
    | .error e => .error e
    | .ok w2 =>
      let d1 := w2.d1.getD 0
      let d2 := w2.d2.getD 0
      let e := evaluatePair m.inputs.method m.inputs.nominal m.inputs.asymmetry m.inputs.lower m.inputs.upper d1 d2
      .ok { d1 := d1, d2 := d2, hardness := e.hardness, verdict := e.verdict, offCentre := w2.offCentre
            asymmetric := e.asymmetric, aspect := e.aspect, overrange := e.overrange
            dx := w2.dx.getD 0, dy := w2.dy.getD 0, generation := m.inputs.generation }

end Sys2Proof.Machine
end

