-- ==== Sys2Proof/Machine/Operands.lean ====
section
/-!
DEFINITION. The wire: the codes of 11.7 and 11.8, the request that a KIND and a payload spell and the frame a request is sent
in (R192 to R194), the bytes of a frame on the link (R181), and the bytes of records, notices, summaries and settings.
-/

namespace Sys2Proof.Machine

/-! ## Codes (R194) -/

/-- Status codes (11.8). -/
inductive Status where
  | accepted
  | acceptedClamped
  | unknownKind
  | badLength
  | badValue
  | noOrder
  | notOwner
  | badState
  | full
  | locked
  | taken
  | closed
  | inUse
  | busy
  | notReady
  | badStation
  | depthOrder
  | outOfTravel
deriving DecidableEq, Repr

/-- The byte of a status (11.8). -/
def statusCode : Status → Nat
  | .accepted => 0x00
  | .acceptedClamped => 0x01
  | .unknownKind => 0x10
  | .badLength => 0x11
  | .badValue => 0x12
  | .noOrder => 0x13
  | .notOwner => 0x14
  | .badState => 0x15
  | .full => 0x16
  | .locked => 0x17
  | .taken => 0x18
  | .closed => 0x19
  | .inUse => 0x1A
  | .busy => 0x1B
  | .notReady => 0x1C
  | .badStation => 0x1D
  | .depthOrder => 0x1E
  | .outOfTravel => 0x1F

/-- Code of a port, or of none (11.8). -/
def portCode : Option Port → Nat
  | .none => 0
  | .some .A => 1
  | .some .B => 2

/-- Flag bytes (11.8). -/
def flagCode (b : Bool) : Nat := if b then 1 else 0

/-- Record state codes (11.8). -/
def recStateCode : RecState → Nat
  | .auto => 1
  | .manual => 2
  | .unmeasured => 3
  | .skipped => 4
  | .review => 5

/-- Reason codes (11.8). -/
def reasonCode : Reason → Nat
  | .none => 0
  | .spacing => 1
  | .noContact => 2
  | .forceLost => 3
  | .interrupted => 4
  | .noImage => 5
  | .focusFail => 6
  | .notFound => 7
  | .edgeLost => 8
  | .tooSmall => 9
  | .rejected => 10
  | .reviewExpired => 11
  | .cancelled => 12
  | .aborted => 13

/-- Method codes (11.8). -/
def methodCode : Method → Nat
  | .vickers => 0
  | .knoop => 1

/-- The method a code names, if any. -/
def methodOfCode : Nat → Option Method
  | 0 => .some .vickers
  | 1 => .some .knoop
  | _ => .none

/-- Verdict codes (11.8). -/
def verdictCode : Verdict → Nat
  | .none => 0
  | .inBand => 1
  | .low => 2
  | .high => 3

/-- The flags field of a record (11.8). -/
def flagsWord (f : RecFlags) : Nat :=
  flagCode f.asymmetric + 2 * flagCode f.aspect + 4 * flagCode f.offCentre + 8 * flagCode f.overrange
    + 16 * flagCode f.deviation + 32 * flagCode f.softFocus

/-- Sequencer state codes (11.8). -/
def seqStateCode : SeqState → Nat
  | .idle => 0
  | .awaitPoints => 1
  | .storeWait => 2
  | .moveIndent => 3
  | .tare => 4
  | .approach => 5
  | .ramp => 6
  | .dwell => 7
  | .unload => 8
  | .moveView => 9
  | .settle => 10
  | .focus => 11
  | .measure => 12
  | .reviewWait => 13
  | .paused => 14
  | .retract => 15

/-- Order outcome codes (11.8). -/
def outcomeCode : OrderOutcome → Nat
  | .completed => 1
  | .cancelled => 2
  | .aborted => 3

/-- Abort reason codes (11.8). -/
def abortCode : Option AbortReason → Nat
  | .none => 0
  | .some .motionFault => 1
  | .some .turretFault => 2
  | .some .estop => 3

/-- How a review closes (R131). -/
inductive ReviewOutcome where
  | manual
  | rejected
  | expired
  | cancelled
  | aborted
  | superseded
deriving DecidableEq, Repr

/-- Review outcome codes (11.8). -/
def reviewOutcomeCode : ReviewOutcome → Nat
  | .manual => 1
  | .rejected => 2
  | .expired => 3
  | .cancelled => 4
  | .aborted => 5
  | .superseded => 6

/-- Order kind codes (11.8). -/
def orderKindCode : OrderKind → Nat
  | .single => 0
  | .pattern => 1
  | .traverse => 2

/-- The order kind a code names, if any. -/
def orderKindOfCode : Nat → Option OrderKind
  | 0 => .some .single
  | 1 => .some .pattern
  | 2 => .some .traverse
  | _ => .none

/-- The measure mode a code names, if any (11.8). -/
def modeOfCode : Nat → Option MeasureMode
  | 0 => .some .immediate
  | 1 => .some .deferred
  | _ => .none

/-- Station kind codes (11.8). -/
def stationKindCode : StationKind → Nat
  | .empty => 0
  | .vickersIndenter => 1
  | .knoopIndenter => 2
  | .objective => 3

/-- The station kind a code names, if any. -/
def stationKindOfCode : Nat → Option StationKind
  | 0 => .some .empty
  | 1 => .some .vickersIndenter
  | 2 => .some .knoopIndenter
  | 3 => .some .objective
  | _ => .none

/-- Condition codes (11.8). -/
def conditionCode : Condition → Nat
  | .sound => 0
  | .loadFault => 1
  | .commitFault => 2

/-- Case-depth status codes (11.8); PENDING is never sent, since a summary is formed with a settled status (R151). -/
def caseStatusCode : CaseStatus → Nat
  | .none => 0
  | .pending => 0
  | .found => 1
  | .surfaceBelow => 2
  | .notReached => 3
  | .noResult => 4

/-- Notice kind codes (11.8). -/
def noticeCode : NoticeKind → Nat
  | .orderStarted => 0x01
  | .orderYielded => 0x02
  | .orderEnded => 0x03
  | .pointsLow => 0x04
  | .resultsWaiting => 0x05
  | .reviewOpen => 0x06
  | .reviewClosed => 0x07
  | .interlock => 0x08
  | .headLock => 0x09
  | .calWritten => 0x0A
  | .calFault => 0x0B
  | .linkOverrun => 0x0C

/-- SET LAMP response code of a lamp's mode (11.8). -/
def lampCode : LampMode → Nat
  | .auto => 1
  | .forced .off => 2
  | .forced .on => 3
  | .forced .slow => 4
  | .forced .fast => 5

/-- The lamp mode a SET LAMP setting asks for: `some none` is UNCHANGED, `none` names no setting (R176). -/
def lampSetting : Nat → Option (Option LampMode)
  | 0 => .some .none
  | 1 => .some (.some .auto)
  | 2 => .some (.some (.forced .off))
  | 3 => .some (.some (.forced .on))
  | 4 => .some (.some (.forced .slow))
  | 5 => .some (.some (.forced .fast))
  | _ => .none

/-- The debounce time a SET INPUTS setting asks for: `some none` is UNCHANGED, `none` names no setting (R168). -/
def debounceSetting : Nat → Option (Option Nat)
  | 0 => .some .none
  | 1 => .some (.some 1)
  | 4 => .some (.some 4)
  | 16 => .some (.some 16)
  | 64 => .some (.some 64)
  | _ => .none

/-- A SET LINK on/off setting: `some none` is UNCHANGED, `none` names no setting (11.8). -/
def onOffSetting : Nat → Option (Option Bool)
  | 0 => .some .none
  | 1 => .some (.some false)
  | 2 => .some (.some true)
  | _ => .none

/-- A SET LINK on/off option in the response (11.8). -/
def onOffCode (b : Bool) : Nat := if b then 2 else 1

/-- A SET LINK group address setting: `some none` is UNCHANGED, `none` names no setting (R187). -/
def groupSetting (g : Nat) : Option (Option Nat) :=
  if g = 0xFF then .some .none else if g = 0 ∨ (32 ≤ g ∧ g ≤ 63) then .some (.some g) else .none

/-- A SET LINK clear counters setting (11.8). -/
def clearSetting : Nat → Option Bool
  | 0 => .some false
  | 1 => .some true
  | _ => .none

/-! ## Request kinds and payloads (R192 to R194) -/

/-- The KIND of a request, for the commands that are requests (11.7). -/
def kindOf : Instr → Option Nat
  | .readState _ => .some 0x01
  | .readNotices _ => .some 0x02
  | .setLink _ _ => .some 0x03
  | .openOrder _ _ => .some 0x04
  | .addPoints _ _ => .some 0x05
  | .cancelOrder _ _ => .some 0x06
  | .holdOrder _ _ => .some 0x07
  | .resumeOrder _ _ => .some 0x08
  | .holdAll _ => .some 0x09
  | .resumeAll _ => .some 0x0A
  | .takeHead _ => .some 0x0B
  | .freeHead _ => .some 0x0C
  | .claimReview _ _ => .some 0x0D
  | .enterDiagonals _ _ _ _ => .some 0x0E
  | .rejectImpression _ _ => .some 0x0F
  | .readResults _ _ _ => .some 0x10
  | .releaseResults _ _ => .some 0x11
  | .readSummary _ _ => .some 0x12
  | .readCalibration _ _ => .some 0x13
  | .writeCalibration _ _ _ => .some 0x14
  | .setLamp _ _ _ _ => .some 0x15
  | .setInputs _ _ _ _ => .some 0x16
  | .coldReset _ => .none
  | .startupLoadComplete _ => .none
  | .commitComplete _ => .none
  | .frameReceived _ _ => .none
  | .receiveGap _ => .none
  | .frameTaken _ => .none
  | .responseSent _ => .none
  | .lineBreak _ => .none
  | .portReset _ => .none
  | .inputChange _ => .none
  | .stabilityTimerExpiry _ => .none
  | .stgDone => .none
  | .stgFault => .none
  | .turDone => .none
  | .stageTimerExpiry => .none
  | .turretTimerExpiry => .none
  | .loadSample _ => .none
  | .actRaised _ => .none
  | .approachTimerExpiry => .none
  | .unloadTimerExpiry => .none
  | .retractTimerExpiry => .none
  | .starvationTimerExpiry => .none
  | .frameStart => .none
  | .frameCompletion => .none
  | .scoreReady => .none
  | .frameTimerExpiry => .none
  | .measurementReport => .none
  | .windowTimerExpiry => .none
  | .lampTimebaseTick => .none
  | .lineMarker _ => .none
  | .pixelTaken _ => .none

/-- The fixed payload length of a request kind; absent for ADD POINTS and for a KIND that names no request (11.7). -/
def fixedLength : Nat → Option Nat
  | 0x01 => .some 0
  | 0x02 => .some 0
  | 0x03 => .some 5
  | 0x04 => .some 40
  | 0x06 => .some 2
  | 0x07 => .some 2
  | 0x08 => .some 2
  | 0x09 => .some 0
  | 0x0A => .some 0
  | 0x0B => .some 0
  | 0x0C => .some 0
  | 0x0D => .some 4
  | 0x0E => .some 12
  | 0x0F => .some 4
  | 0x10 => .some 5
  | 0x11 => .some 4
  | 0x12 => .some 2
  | 0x13 => .some 1
  | 0x14 => .some 22
  | 0x15 => .some 3
  | 0x16 => .some 3
  | _ => .none

/-- KIND is one of the request kinds of 11.7. -/
def isRequestKind (kind : Nat) : Bool := 1 ≤ kind && kind ≤ 0x16

/-- The field of `w` bytes at offset `i` of a payload. -/
def field (bs : List Byte) (i w : Nat) : Nat := natOf ((bs.drop i).take w)

/-- The signed field of `w` bytes at offset `i` of a payload. -/
def signedField (bs : List Byte) (i w : Nat) : Int := signedOf ((bs.drop i).take w)

/-- The payload length equals the length the kind requires; for ADD POINTS 4 plus 16 for each point of the count that the
payload states (R184). -/
def lengthRight (kind : Nat) (bs : List Byte) : Bool :=
  match fixedLength kind with
  | .some n => bs.length = n
  | .none => 4 ≤ bs.length && bs.length = 4 + 16 * field bs 2 1

/-- A point entry from its 16 bytes; the fill bytes are not examined (R194). -/
def pointEntryOf (bs : List Byte) : PointEntry :=
  { tag := field bs 0 2, x := signedField bs 4 4, y := signedField bs 8 4, depth := field bs 12 4 }

/-- `n` point entries, 16 bytes each. -/
def pointEntriesOf : Nat → List Byte → List PointEntry
  | 0, _ => []
  | n + 1, bs => pointEntryOf (bs.take 16) :: pointEntriesOf n (bs.drop 16)

/-- The OPEN ORDER fields of a payload (R194). -/
def openOrderOf (bs : List Byte) : OpenOrderReq :=
  { kind := field bs 0 1, method := field bs 1 1, forceCode := field bs 2 1, indenter := field bs 3 1
    objective := field bs 4 1, mode := field bs 5 1, dwell := field bs 6 2, ramp := field bs 8 2
    window := field bs 10 2, starvation := field bs 12 1, lowWater := field bs 13 1, threshold := field bs 14 2
    lower := field bs 16 4, upper := field bs 20 4, caseLimit := field bs 24 4, rh := field bs 28 2
    rv := field bs 30 2, offCentre := field bs 32 2, bandW := field bs 34 1, contrast := field bs 35 1
    asymmetry := field bs 36 1, frameLimit := field bs 37 1, defaults := field bs 38 2 }

/-- The calibration fields laid out from offset `i` of a payload (R194). -/
def calFieldsOf (bs : List Byte) (i : Nat) : CalFields :=
  { kind := field bs i 1, x := signedField bs (i + 1) 4, y := signedField bs (i + 5) 4, scale := field bs (i + 9) 4
    diagOffset := signedField bs (i + 13) 2, focus := field bs (i + 15) 4, gain := field bs (i + 19) 2 }

/-- The request that a KIND and a payload of the right length spell (R184, R192 to R194). -/
def requestOf (src : Source) (kind : Nat) (bs : List Byte) : Option Instr :=
  match kind with
  | 0x01 => .some (.readState src)
  | 0x02 => .some (.readNotices src)
  | 0x03 => .some (.setLink src
      { longFrames := field bs 0 1, broadcast := field bs 1 1, group := field bs 2 1, overrunClear := field bs 3 1
        clearCounters := field bs 4 1 })
  | 0x04 => .some (.openOrder src (openOrderOf bs))
  | 0x05 => .some (.addPoints src
      { orderId := field bs 0 2, last := field bs 3 1 ≠ 0, points := pointEntriesOf (field bs 2 1) (bs.drop 4) })
  | 0x06 => .some (.cancelOrder src (field bs 0 2))
  | 0x07 => .some (.holdOrder src (field bs 0 2))
  | 0x08 => .some (.resumeOrder src (field bs 0 2))
  | 0x09 => .some (.holdAll src)
  | 0x0A => .some (.resumeAll src)
  | 0x0B => .some (.takeHead src)
  | 0x0C => .some (.freeHead src)
  | 0x0D => .some (.claimReview src (field bs 0 4))
  | 0x0E => .some (.enterDiagonals src (field bs 0 4) (field bs 4 4) (field bs 8 4))
  | 0x0F => .some (.rejectImpression src (field bs 0 4))
  | 0x10 => .some (.readResults src (field bs 0 4) (field bs 4 1))
  | 0x11 => .some (.releaseResults src (field bs 0 4))
  | 0x12 => .some (.readSummary src (field bs 0 2))
  | 0x13 => .some (.readCalibration src (field bs 0 1))
  | 0x14 => .some (.writeCalibration src (field bs 0 1) (calFieldsOf bs 1))
  | 0x15 => .some (.setLamp src (field bs 0 1) (field bs 1 1) (field bs 2 1))
  | 0x16 => .some (.setInputs src (field bs 0 1) (field bs 1 1) (field bs 2 1))
  | _ => .none

/-- The 16 bytes of a point entry (R194). -/
def pointEntryBytes (e : PointEntry) : List Byte :=
  bytesOf 2 e.tag ++ bytesOf 2 0 ++ signedBytes 4 e.x ++ signedBytes 4 e.y ++ bytesOf 4 e.depth

/-- The 40 bytes of OPEN ORDER (R194). -/
def openOrderBytes (r : OpenOrderReq) : List Byte :=
  [bytesOf 1 r.kind, bytesOf 1 r.method, bytesOf 1 r.forceCode, bytesOf 1 r.indenter, bytesOf 1 r.objective,
   bytesOf 1 r.mode, bytesOf 2 r.dwell, bytesOf 2 r.ramp, bytesOf 2 r.window, bytesOf 1 r.starvation,
   bytesOf 1 r.lowWater, bytesOf 2 r.threshold, bytesOf 4 r.lower, bytesOf 4 r.upper, bytesOf 4 r.caseLimit,
   bytesOf 2 r.rh, bytesOf 2 r.rv, bytesOf 2 r.offCentre, bytesOf 1 r.bandW, bytesOf 1 r.contrast,
   bytesOf 1 r.asymmetry, bytesOf 1 r.frameLimit, bytesOf 2 r.defaults].flatten

/-- The 21 bytes of a calibration record's fields, as WRITE CALIBRATION lays them out (R194). -/
def calFieldsBytes (f : CalFields) : List Byte :=
  [bytesOf 1 f.kind, signedBytes 4 f.x, signedBytes 4 f.y, bytesOf 4 f.scale, signedBytes 2 f.diagOffset,
   bytesOf 4 f.focus, bytesOf 2 f.gain].flatten

/-- The payload a request is sent with, for the commands that are requests (R192, R194). -/
def payloadOf : Instr → List Byte
  | .setLink _ r =>
      bytesOf 1 r.longFrames ++ bytesOf 1 r.broadcast ++ bytesOf 1 r.group ++ bytesOf 1 r.overrunClear
        ++ bytesOf 1 r.clearCounters
  | .openOrder _ r => openOrderBytes r
  | .addPoints _ r =>
      bytesOf 2 r.orderId ++ bytesOf 1 r.points.length ++ bytesOf 1 (flagCode r.last) ++ r.points.flatMap pointEntryBytes
  | .cancelOrder _ id => bytesOf 2 id
  | .holdOrder _ id => bytesOf 2 id
  | .resumeOrder _ id => bytesOf 2 id
  | .claimReview _ seq => bytesOf 4 seq
  | .enterDiagonals _ seq d1 d2 => bytesOf 4 seq ++ bytesOf 4 d1 ++ bytesOf 4 d2
  | .rejectImpression _ seq => bytesOf 4 seq
  | .readResults _ first maxN => bytesOf 4 first ++ bytesOf 1 maxN
  | .releaseResults _ through => bytesOf 4 through
  | .readSummary _ id => bytesOf 2 id
  | .readCalibration _ rec => bytesOf 1 rec
  | .writeCalibration _ rec f => bytesOf 1 rec ++ calFieldsBytes f
  | .setLamp _ g a r => bytesOf 1 g ++ bytesOf 1 a ++ bytesOf 1 r
  | .setInputs _ d e c => bytesOf 1 d ++ bytesOf 1 e ++ bytesOf 1 c
  | _ => []

/-- Where a request came from, for the commands that are requests. -/
def sourceOf : Instr → Option Source
  | .readState src => .some src
  | .readNotices src => .some src
  | .setLink src _ => .some src
  | .openOrder src _ => .some src
  | .addPoints src _ => .some src
  | .cancelOrder src _ => .some src
  | .holdOrder src _ => .some src
  | .resumeOrder src _ => .some src
  | .holdAll src => .some src
  | .resumeAll src => .some src
  | .takeHead src => .some src
  | .freeHead src => .some src
  | .claimReview src _ => .some src
  | .enterDiagonals src _ _ _ => .some src
  | .rejectImpression src _ => .some src
  | .readResults src _ _ => .some src
  | .releaseResults src _ => .some src
  | .readSummary src _ => .some src
  | .readCalibration src _ => .some src
  | .writeCalibration src _ _ => .some src
  | .setLamp src _ _ _ => .some src
  | .setInputs src _ _ _ => .some src
  | _ => .none

/-! ## Frames on the link -/

/-- The bytes of a frame before its check: ADDRESS, KIND, LENGTH and payload (R181). -/
def frameCore (address kind : Byte) (payload : List Byte) : List Byte :=
  address :: kind :: (bytesOf 2 payload.length ++ payload)

/-- A whole frame: the two synchronisation bytes, the frame and its check (R179, R181, 11.8). -/
def frameBytes (address kind : Byte) (payload : List Byte) : List Byte :=
  0x5A#8 :: 0xC3#8 :: (frameCore address kind payload ++ checkBytes (frameCore address kind payload))

/-- The frame a response is sent as (R181, R184). -/
def TxFrame.bytes (t : TxFrame) : List Byte := frameBytes t.address t.kind t.payload

/-- The frame a master sends for a request, if the command is one (R192). -/
def requestFrame (i : Instr) : Option (List Byte) :=
  match kindOf i, sourceOf i with
  | .some k, .some src => .some (frameBytes (BitVec.ofNat 8 src.address) (BitVec.ofNat 8 k) (payloadOf i))
  | _, _ => .none

/-- The number of ones of a byte is odd. -/
def oddOnes (b : Byte) : Bool := [0, 1, 2, 3, 4, 5, 6, 7].foldl (fun p i => xor p (b.getLsbD i)) false

/-- A byte as a sound character: even parity and a stop bit at mark (R178). -/
def charOfByte (b : Byte) : LinkChar := { data := b, parity := oddOnes b, stop := true }

/-- A character error (R178): the parity bit does not give even parity, or the stop bit reads space. -/
def charIsError (c : LinkChar) : Bool := xor (oddOnes c.data) c.parity || !c.stop

/-! ## Response bodies (11.8) -/

/-- An optional number on the wire, absent as zero (R194). -/
def orZero (v : Option Nat) : Nat := v.getD 0

/-- An optional depth on the wire, absent as all ones (R194). -/
def orOnes (v : Option Nat) : Nat := v.getD 0xFFFFFFFF

/-- The 56 bytes of a result record (11.8). -/
def recordBytes (r : Record) : List Byte :=
  [bytesOf 4 r.seq, bytesOf 2 r.orderId, bytesOf 2 r.tag, bytesOf 1 (recStateCode r.state),
   bytesOf 1 (reasonCode r.reason), bytesOf 1 (methodCode r.method), bytesOf 1 r.forceCode,
   bytesOf 1 (verdictCode r.verdict), bytesOf 1 r.framesUsed, bytesOf 2 (flagsWord r.flags), signedBytes 4 r.x,
   signedBytes 4 r.y, bytesOf 4 (orOnes r.depth), bytesOf 4 (orZero r.d1), bytesOf 4 (orZero r.d2),
   bytesOf 4 (orZero r.hardness), signedBytes 4 r.peak, bytesOf 2 r.achieved, bytesOf 2 r.generation,
   signedBytes 4 r.dx, signedBytes 4 r.dy].flatten

/-- The 12 bytes of a notice entry (11.8). -/
def noticeBytes (n : Notice) : List Byte :=
  bytesOf 1 (noticeCode n.kind) ++ bytesOf 1 (portCode n.origin) ++ bytesOf 2 n.orderId ++ bytesOf 4 n.seq
    ++ bytesOf 4 n.value

/-- The 72 bytes of a summary (11.8). -/
def summaryBytes (m : Summary) : List Byte :=
  [bytesOf 2 m.orderId, bytesOf 1 (portCode (.some m.origin)), bytesOf 1 (orderKindCode m.kind),
   bytesOf 1 (methodCode m.method), bytesOf 1 m.forceCode, bytesOf 1 (outcomeCode m.outcome),
   bytesOf 1 (abortCode m.abortReason), bytesOf 4 m.counts.taken, bytesOf 4 m.counts.auto, bytesOf 4 m.counts.manual,
   bytesOf 4 m.counts.unmeasured, bytesOf 4 m.counts.skipped, bytesOf 4 m.counts.discarded,
   bytesOf 4 m.counts.inBand, bytesOf 4 m.counts.low, bytesOf 4 m.counts.high, bytesOf 4 (orZero m.minHardness),
   bytesOf 4 (orZero m.maxHardness), bytesOf 4 (orZero m.mean), bytesOf 1 (caseStatusCode m.caseStatus),
   bytesOf 1 (flagCode m.clamped), bytesOf 2 0, bytesOf 4 (orOnes m.caseValue), bytesOf 4 (orZero m.firstSeq),
   bytesOf 4 (orZero m.lastSeq)].flatten

/-! ## Notice values (11.8) -/

/-- The value of ORDER ENDED: the outcome in the least significant byte, the abort reason in the next. -/
def endedValue (o : OrderOutcome) (a : Option AbortReason) : Nat := outcomeCode o + 256 * abortCode a

/-- The value of CAL WRITTEN: record number, then outcome (0 OK, 1 FAILED), then generation. -/
def calWrittenValue (rec : Nat) (failed : Bool) (generation : Nat) : Nat :=
  rec * 2 ^ 24 + flagCode failed * 2 ^ 16 + generation

/-- The value of CAL FAULT: record number in the most significant byte, cause (0 LOAD, 1 COMMIT) in the least. -/
def calFaultValue (rec : Nat) (commit : Bool) : Nat := rec * 2 ^ 24 + flagCode commit

/-! ## Calibration fields (R155, R161) -/

/-- Offsets in range (R155). -/
def offsetInRange (v : Int) : Bool := -2000000 ≤ v && v ≤ 2000000

/-- The fields that belong to record `rec` lie in the ranges of R155, with a valid kind, and with objective fields only for
kind OBJECTIVE; fields that do not belong to it are not examined (R156, R161, R193). -/
def calFieldsInRange (rec : Nat) (f : CalFields) : Bool :=
  if rec = 6 then 1 ≤ f.gain && f.gain ≤ 5000
  else
    offsetInRange f.x && offsetInRange f.y &&
      match stationKindOfCode f.kind with
      | .none => false
      | .some .objective =>
          20000 ≤ f.scale && f.scale ≤ 2000000 && -5000 ≤ f.diagOffset && f.diagOffset ≤ 5000
            && 1 ≤ f.focus && f.focus ≤ 1000000
      | .some _ => f.scale = 0 && f.diagOffset = 0 && f.focus = 0

/-- The fields that belong to record `rec`, the others zero (R193, R194). -/
def calFieldsOwn (rec : Nat) (f : CalFields) : CalFields :=
  if rec = 6 then { CalFields.zero with gain := f.gain } else { f with gain := 0 }

/-- The station record that fields in range spell (R155). -/
def stationOf (f : CalFields) : Station :=
  { kind := (stationKindOfCode f.kind).getD .empty, x := f.x, y := f.y
    objective :=
      if f.kind = 3 then .some { scale := f.scale, diagOffset := f.diagOffset, focus := f.focus } else .none }

/-- The fields of a station record of the working copy (R194). -/
def stationFields (t : Station) : CalFields :=
  match t.objective with
  | .some o =>
    { kind := stationKindCode t.kind, x := t.x, y := t.y, scale := o.scale, diagOffset := o.diagOffset
      focus := o.focus, gain := 0 }
  | .none => { kind := stationKindCode t.kind, x := t.x, y := t.y, scale := 0, diagOffset := 0, focus := 0, gain := 0 }

/-- The check of a record's fields: the frame CRC over the fields laid out as in WRITE CALIBRATION (R156; the layout inside
a slot is DEDUCED, log entry 4). -/
def slotCheck (f : CalFields) : Nat := (crc16 (calFieldsBytes f)).toNat

/-- The slot a commit of record `rec` writes (R156, R163). -/
def slotFor (rec : Nat) (f : CalFields) : NvSlot := { fields := calFieldsOwn rec f, check := slotCheck (calFieldsOwn rec f) }

/-- A slot of record `rec` passes its check (R156). -/
def slotPasses (rec : Nat) (n : NvSlot) : Bool := n.check = slotCheck n.fields && calFieldsInRange rec n.fields

end Sys2Proof.Machine
end

