-- ==== Sys2Proof/Machine/Ops.lean ====
section
/-!
DEFINITION. The named operations over the part's state that more than one step uses: notices, responses, orders, points, the
store's writes and counts, and what the pins and the lamps show.
-/

namespace Sys2Proof.Machine

/-! ## Notices (R189, R190) -/

/-- Add a notice at the back of a port's queue and assert its attention line; a full queue discards it and counts it lost
(R189, R190). -/
def LinkPort.post (n : Notice) (q : LinkPort) : LinkPort :=
  if q.notices.length < Config.noticeEntries then { q with notices := q.notices ++ [n], attention := true }
  else { q with lost := saturatingSucc q.lost }

/-- Post a notice to one port. -/
def postTo (p : Port) (n : Notice) (s : State) : State := s.modPort p (LinkPort.post n)

/-- Post a notice to both ports. -/
def postBoth (n : Notice) (s : State) : State := postTo .B n (postTo .A n s)

/-! ## Responses (R184) -/

/-- The ADDRESS of a response: the station address on port B, the received ADDRESS on port A (R184). -/
def responseAddress (src : Source) (s : State) : Byte :=
  match src.port with
  | .A => BitVec.ofNat 8 src.address
  | .B => BitVec.ofNat 8 s.straps.station

/-- The response to a request of KIND `kind`: KIND plus 0x80, and the status byte before the body (R184). -/
def responseFrame (src : Source) (kind : Nat) (st : Status) (body : List Byte) (s : State) : TxFrame :=
  { address := responseAddress src s, kind := BitVec.ofNat 8 (kind + 0x80)
    payload := bytesOf 1 (statusCode st) ++ body }

/-- Hand a response to the port's transmitter (R178, R184). -/
def sendResponse (src : Source) (kind : Nat) (st : Status) (body : List Byte) (s : State) : State :=
  s.modPort src.port fun q => { q with responses := q.responses ++ [responseFrame src kind st body s] }

/-- The port is no longer handling this request. -/
def doneHandling (cmd : Instr) (p : Port) (s : State) : State :=
  s.modPort p fun q => if q.handling = .some cmd then { q with handling := .none } else q

/-- What a request's owner decides: the state it leaves, the status and the body of the response (R184). -/
structure Answer where
  state  : State
  status : Status
  body   : List Byte

/-- Refuse with nothing changed. -/
def Answer.refuse (st : Status) (s : State) : Answer := { state := s, status := st, body := [] }

/-- Accept with a response of the status alone. -/
def Answer.accept (s : State) : Answer := { state := s, status := .accepted, body := [] }

/-- A request taken by its owner.  While the loaded flag is clear every request but READ STATE is answered NOT_READY and
nothing changes (R157, R184); otherwise the owner decides and the port forms the response (log entries 10 and 11). -/
def serve (cmd : Instr) (src : Source) (decideOn : State → Answer) (s : State) : State :=
  let kind := (kindOf cmd).getD 0
  let a := if s.cal.loaded = false ∧ kind ≠ 0x01 then Answer.refuse .notReady s else decideOn s
  sendResponse src kind a.status a.body (doneHandling cmd src.port a.state)

/-! ## Orders -/

/-- The order of that id in the table. -/
def findOrder (id : Nat) (s : State) : Option Order := s.table.orders.find? (·.id = id)

/-- Change the order of that id. -/
def updOrder (id : Nat) (f : Order → Order) (s : State) : State :=
  s.modTable fun t => { t with orders := t.orders.map fun o => if o.id = id then f o else o }

/-- The order that holds the head. -/
def ownerOf (s : State) : Option Order := s.arb.owner.bind (findOrder · s)

/-- Any hold cause (R7). -/
def Holds.any (h : Holds) : Bool := h.own || h.device || h.interlock

/-- Any pending hold cause (R8). -/
def PendingHolds.any (h : PendingHolds) : Bool := h.own || h.device

/-- A notice about an order. -/
def orderNotice (kind : NoticeKind) (o : Order) (seq value : Nat) : Notice :=
  { kind := kind, orderId := o.id, origin := .some o.origin, seq := seq, value := value }

/-- A notice about no order. -/
def plainNotice (kind : NoticeKind) (value : Nat) : Notice :=
  { kind := kind, orderId := 0, origin := .none, seq := 0, value := value }

/-! ## The inputs as other blocks read them (R166) -/

/-- The door reads closed; UNSETTLED reads open (R166). -/
def doorClosed (s : State) : Bool := s.inputs.door.level = .some .isClosed

/-- The e-stop reads clear; UNSETTLED reads asserted (R166). -/
def estopClear (s : State) : Bool := s.inputs.estop.level = .some .clear

/-- The debounced station code equals a requested station; 6, 7 and UNSETTLED equal none (R166, R173). -/
def stationReads (n : Nat) (s : State) : Bool := s.inputs.station.level = .some n && decide (n < 6)

/-! ## The calibration table as other blocks read it -/

/-- The working copy's record of a station. -/
def stationRecord (n : Nat) (s : State) : Station := s.cal.stations.getD n Station.substitute

/-- The objective fields of a station; zeros where it has none. -/
def objectiveFields (n : Nat) (s : State) : ObjectiveFields :=
  (stationRecord n s).objective.getD { scale := 0, diagOffset := 0, focus := 0 }

/-- The condition of a record. -/
def conditionOf (rec : Nat) (s : State) : Condition := s.cal.conditions.getD rec .sound

/-- The gain in use, µN per count (R69); absent until the load completes and while the force record is in LOAD_FAULT, when the
force reads in counts (R158) (log entry 31). -/
def gainInUse (s : State) : Option Nat :=
  if s.cal.loaded = false ∨ conditionOf 6 s = .loadFault then .none else .some s.cal.gain

/-! ## Points (R29, R34) -/

/-- The return reserve (R29): 1 while the current point is in MOVE_INDENT, TARE or APPROACH. -/
def returnReserve (s : State) : Nat :=
  match s.seq.state with
  | .moveIndent => 1
  | .tare => 1
  | .approach => 1
  | _ => 0

/-- Re-arm the low-water flag where the list exceeds the low-water count (R34). -/
def rearmLowWater (o : Order) : Order := if o.lowWater < o.points.length then { o with lowArmed := true } else o

/-- The conditions of POINTS LOW on an order (R34), but for its holding the head. -/
def pointsLowDue (o : Order) : Bool := o.lowArmed && !o.lastReceived && o.points.length ≤ o.lowWater

/-- Judge POINTS LOW for the head owner (R34). -/
def judgePointsLow (s : State) : State :=
  match ownerOf s with
  | .none => s
  | .some o =>
    if pointsLowDue o then
      postTo o.origin (orderNotice .pointsLow o 0 o.points.length) (updOrder o.id (fun o => { o with lowArmed := false }) s)
    else s

/-- Return the points still in an order's list to the pool and count them discarded, with no record (R25, R27, R67). -/
def discardPoints (o : Order) (s : State) : State :=
  updOrder o.id
    (fun o => { o with points := [], counts := { o.counts with discarded := o.counts.discarded + o.points.length } })
    (s.setPoolFree (s.poolFree + o.points.length))

/-! ## Counts, sums and case depth (R148 to R151) -/

/-- The counts after a final record (R148). -/
def countRecord (r : Record) (c : Counts) : Counts :=
  let c1 : Counts :=
    match r.state with
    | .auto => { c with auto := c.auto + 1 }
    | .manual => { c with manual := c.manual + 1 }
    | .unmeasured => { c with unmeasured := c.unmeasured + 1 }
    | .skipped => { c with skipped := c.skipped + 1 }
    | .review => c
  match r.verdict with
  | .none => c1
  | .inBand => { c1 with inBand := c1.inBand + 1 }
  | .low => { c1 with low := c1.low + 1 }
  | .high => { c1 with high := c1.high + 1 }

/-- The lesser of an optional value and a value. -/
def optMin (a : Option Nat) (b : Nat) : Nat :=
  match a with
  | .none => b
  | .some v => min v b

/-- The greater of an optional value and a value. -/
def optMax (a : Option Nat) (b : Nat) : Nat :=
  match a with
  | .none => b
  | .some v => max v b

/-- The case-depth working values after a measured record of depth `z` and hardness `h` (R150). -/
def caseDepthStep (limit z h : Nat) (o : Order) : Order :=
  if o.crossingFound then o
  else
    match o.prevMeasured with
    | .none =>
      if h < limit then { o with caseStatus := .surfaceBelow, caseValue := .some 0, crossingFound := true }
      else { o with prevMeasured := .some (z, h) }
    | .some (za, ha) =>
      if h < limit then
        { o with caseStatus := .found, caseValue := .some (za + (z - za) * (ha - limit) / (ha - h)), crossingFound := true }
      else { o with prevMeasured := .some (z, h) }

/-- The case-depth evaluation of a measured record: only for a TRAVERSE order with a case limit (R150). -/
def evaluateCaseDepth (r : Record) (h : Nat) (o : Order) : Order :=
  match o.caseLimit, r.depth with
  | .some limit, .some z => caseDepthStep limit z h o
  | _, _ => o

/-- A final record reported to its order: the counts (R148), and for a measured record the sums (R149), the reference
diagonal (R38) and the case depth (R150). -/
def reportRecord (r : Record) (o : Order) : Order :=
  let o1 := { o with counts := countRecord r o.counts }
  match r.hardness with
  | .none => o1
  | .some h =>
    evaluateCaseDepth r h
      { o1 with
        hardnessSum := o1.hardnessSum + h
        minHardness := .some (optMin o1.minHardness h)
        maxHardness := .some (optMax o1.maxHardness h)
        refDiagonal := .some (referenceDiagonal o1.method (orZero r.d1) (orZero r.d2)) }

/-- Number of measured records of an order. -/
def measuredCount (o : Order) : Nat := o.counts.auto + o.counts.manual

/-- The case-depth status and value settled at an order's end (R151). -/
def settleCase (o : Order) : CaseStatus × Option Nat :=
  match o.caseLimit with
  | .none => (.none, .none)
  | .some _ =>
    if o.crossingFound then (o.caseStatus, o.caseValue)
    else if 2 ≤ measuredCount o then (.notReached, o.prevMeasured.map (·.1))
    else (.noResult, .none)

/-- The summary of an order as it ends (R152). -/
def summaryOf (o : Order) (out : OrderOutcome) (why : Option AbortReason) : Summary :=
  { orderId := o.id, origin := o.origin, kind := o.kind, method := o.method, forceCode := o.forceCode, outcome := out
    abortReason := why, counts := o.counts, minHardness := o.minHardness, maxHardness := o.maxHardness
    mean := if measuredCount o = 0 then .none else .some (roundHalfUp o.hardnessSum (measuredCount o))
    caseStatus := (settleCase o).1, caseValue := (settleCase o).2, firstSeq := o.firstSeq, lastSeq := o.lastSeq
    clamped := o.clamped }

/-! ## The result store (R139 to R146) -/

/-- The free room of the store (R139): 0 once the sequence numbers run low. -/
def freeRoom (s : State) : Nat :=
  if Config.seqLowWater < s.store.nextSeq then 0 else Config.storeRecords - s.store.records.length

/-- A port's waiting count (R145). -/
def ResultStore.waiting (t : ResultStore) : Port → Nat
  | .A => t.waitingA
  | .B => t.waitingB

/-- Set a port's waiting count. -/
def ResultStore.setWaiting (t : ResultStore) (p : Port) (n : Nat) : ResultStore :=
  match p with
  | .A => { t with waitingA := n }
  | .B => { t with waitingB := n }

/-- A port's RESULTS WAITING armed flag (R145). -/
def ResultStore.armed (t : ResultStore) : Port → Bool
  | .A => t.armedA
  | .B => t.armedB

/-- Set a port's armed flag. -/
def ResultStore.setArmed (t : ResultStore) (p : Port) (b : Bool) : ResultStore :=
  match p with
  | .A => { t with armedA := b }
  | .B => { t with armedB := b }

/-- Step 1 of a write: the record takes the next sequence number and stands after every record held (R139, R140). -/
def appendRecord (r : Record) (s : State) : State :=
  s.modStore fun t => { t with records := t.records ++ [{ r with seq := t.nextSeq }], nextSeq := t.nextSeq + 1 }

/-- An order's first and last result seq after a write (R140). -/
def noteSeq (seq : Nat) (o : Order) : Order :=
  { o with lastSeq := .some seq, firstSeq := .some (o.firstSeq.getD seq) }

/-- RESULTS WAITING for a port, its flag then clear (R145, R146). -/
def postResultsWaiting (o : Order) (seq : Nat) (s : State) : State :=
  (postTo o.origin (orderNotice .resultsWaiting o seq (s.store.waiting o.origin)) s).modStore (·.setArmed o.origin false)

/-- Step 2 of a write: the origin port's waiting count rises, and RESULTS WAITING is judged against the writing order's
threshold (R140, R145). -/
def countWaiting (o : Order) (seq : Nat) (s : State) : State :=
  let s1 := s.modStore fun t => t.setWaiting o.origin (t.waiting o.origin + 1)
  if s1.store.armed o.origin && o.threshold ≤ s1.store.waiting o.origin then postResultsWaiting o seq s1 else s1

/-- Steps 1 to 3 of a write of a record of order `o` (R140). -/
def writeRecord (o : Order) (r : Record) (s : State) : State :=
  let seq := s.store.nextSeq
  let s1 := countWaiting o seq (updOrder o.id (noteSeq seq) (appendRecord r s))
  if r.state = .review then s1 else updOrder o.id (reportRecord { r with seq := seq }) s1

/-- The record of a point as the sequencer holds it, in a state and with a reason, unmeasured (R136). -/
def recordOf (o : Order) (c : CurPoint) (st : RecState) (why : Reason) (s : State) : Record :=
  { seq := 0, orderId := o.id, origin := o.origin, tag := c.tag, state := st, reason := why, method := o.method
    forceCode := o.forceCode, x := c.x, y := c.y, depth := c.depth, d1 := .none, d2 := .none, hardness := .none
    verdict := .none
    flags := { asymmetric := false, aspect := false, offCentre := false, overrange := false
               deviation := c.deviation, softFocus := c.softFocus }
    peak := c.peak, achieved := c.achieved, dx := 0, dy := 0, generation := s.cal.generation, framesUsed := c.framesUsed }

/-- A point as it comes from a point list: not indented, no force values (R46). -/
def CurPoint.ofPoint (p : Point) : CurPoint :=
  { tag := p.tag, x := p.x, y := p.y, depth := p.depth, indented := false, peak := 0, achieved := 0, deviation := false
    mark := .none, framesUsed := 0, softFocus := false, handed := false }

/-- A point as it comes from the impression list: indented, its force values handed over (R46, R82). -/
def CurPoint.ofImpression (i : Impression) : CurPoint :=
  { tag := i.tag, x := i.x, y := i.y, depth := i.depth, indented := true, peak := i.peak, achieved := i.achieved
    deviation := i.deviation, mark := i.mark, framesUsed := 0, softFocus := false, handed := true }

/-- The impression a point becomes at the end of UNLOAD (R41). -/
def Impression.ofPoint (c : CurPoint) : Impression :=
  { tag := c.tag, x := c.x, y := c.y, depth := c.depth, peak := c.peak, achieved := c.achieved, deviation := c.deviation
    mark := c.mark }

/-- The point of the list that a point of the sequencer was (R39). -/
def CurPoint.toPoint (c : CurPoint) : Point := { tag := c.tag, x := c.x, y := c.y, depth := c.depth }

/-- The sequencer gives its current point up. -/
def dropCurrent (s : State) : State := s.modSeq fun q => { q with cur := .none }

/-- Write the record of the current point, unmeasured, and give the point up (R46). -/
def recordCurrent (o : Order) (st : RecState) (why : Reason) (s : State) : State :=
  match s.seq.cur with
  | .none => s
  | .some c => dropCurrent (writeRecord o (recordOf o c st why s) s)

/-- Write the listed impressions of order `o` UNMEASURED with a reason, front to back, whatever marks they carry (R27, R44). -/
def recordImpressions (o : Order) (why : Reason) : List Impression → State → State
  | [], s => s
  | i :: rest, s =>
    recordImpressions o why rest
      (writeRecord o (recordOf o (CurPoint.ofImpression i) .unmeasured why s) s)

/-- Record every listed impression and empty the list (R27, R44, R67). -/
def flushImpressions (o : Order) (why : Reason) (s : State) : State :=
  (recordImpressions o why s.seq.impressions s).modSeq fun q => { q with impressions := [] }

/-! ## What the outside sees (R45, R84, R174, R175, R178, R190) -/

/-- The actuator command line is on approach in APPROACH, RAMP and DWELL, and on retract in every other state and during an
interlock stop (R45, R62). -/
def actuatorApproach (s : State) : Bool :=
  !s.seq.stopFlag &&
    match s.seq.state with
    | .approach => true
    | .ramp => true
    | .dwell => true
    | _ => false

/-- DEB is asserted while port B transmits a response (R178). -/
def debAsserted (s : State) : Bool := !s.portB.responses.isEmpty

/-- A pattern's output at a phase of the lamp timebase: SLOW is on for the first 500 ms of the period, FAST for every other
125 ms (R174; the period begins with on: DEDUCED, log entry 5). -/
def patternOutput (phase : Nat) : Pattern → Bool
  | .off => false
  | .on => true
  | .slow => phase % 8 < 4
  | .fast => phase % 2 = 0

/-- The indication of GREEN in AUTO mode (R175). -/
def autoGreen (s : State) : Pattern := if s.cal.loaded && estopClear s then .on else .off

/-- The indication of AMBER in AUTO mode (R175). -/
def autoAmber (s : State) : Pattern :=
  if s.seq.state = .paused then .fast
  else if s.seq.state = .reviewWait then .slow
  else if s.arb.owner.isSome then .on
  else .off

/-- The indication of RED in AUTO mode (R175). -/
def autoRed (s : State) : Pattern :=
  if s.arb.owner.isSome && !doorClosed s then .fast
  else if s.cal.conditions.any (· ≠ .sound) then .slow
  else if !estopClear s then .on
  else .off

/-- The pattern a lamp shows: its own when FORCED, else the derived one (R174). -/
def shownPattern (m : LampMode) (derived : Pattern) : Pattern :=
  match m with
  | .auto => derived
  | .forced p => p

/-- The level of LAMP_G, LAMP_A and LAMP_R (R174, R175). -/
def lampOutputs (s : State) : Bool × Bool × Bool :=
  (patternOutput s.lamps.phase (shownPattern s.lamps.green (autoGreen s)),
   patternOutput s.lamps.phase (shownPattern s.lamps.amber (autoAmber s)),
   patternOutput s.lamps.phase (shownPattern s.lamps.red (autoRed s)))

end Sys2Proof.Machine
end

