-- ==== Sys2Proof/Machine/Sequence.lean ====
section
/-!
DEFINITION. The shared operations of the cycle sequencer and the head arbiter: entering a state (R45, R49, R53, R54, R61, R90),
the end of an order and the release and grant of the head (R9, R12 to R16), the point boundary (R35, R37, R47, R48), the review
desk's opening and closing (R125, R131), the abort path (R66, R67), retracts and interlock stops (R61, R62), and the capture
unit's start and stop of a view (R90, R98).
-/

namespace Sys2Proof.Machine

/-! ## Entering a sequencer state -/

/-- The set-point may be non-zero only in RAMP and DWELL (R73). -/
def SeqState.forcing : SeqState → Bool
  | .ramp => true
  | .dwell => true
  | _ => false

/-- The sequencer enters a state; on leaving RAMP or DWELL for any other the set-point becomes zero (R73). -/
def enterState (q : SeqState) (s : State) : State :=
  (s.modSeq fun x => { x with state := q }).modForce fun f => if q.forcing then f else { f with setPoint := 0 }

/-- Send a stop to the stage driver for an outstanding stage move (R52, R66). -/
def stopStage (s : State) : State :=
  if s.seq.stageOutstanding then s.modPins fun p => { p with stage := .stop } else s

/-- Stop the stage and turret timers (R52). -/
def stopMoveTimers (s : State) : State := s.modTimers fun t => { t with stage := .none, turret := .none }

/-- Issue the stage move and, where the station code does not yet read the requested station, the turret index (R49)
(log entry 29). -/
def issueMove (station : Nat) (s : State) : State :=
  match s.seq.cur with
  | .none => s
  | .some c =>
    let r := stationRecord station s
    let s1 := (s.modPins fun p => { p with stage := .move (c.x + r.x) (c.y + r.y) }).modSeq fun q =>
      { q with stageOutstanding := true, stagePart := false, timers := { q.timers with stage := .some Config.stageMs } }
    if stationReads station s then s1.modSeq fun q => { q with turretPart := true }
    else s1.modSeq fun q =>
      { q with
        turretRequest := station, turretOutstanding := true, turretPart := false
        timers := { q.timers with turret := .some Config.turretMs } }

/-- Enter MOVE_INDENT for the current point (R49). -/
def enterMoveIndent (o : Order) (s : State) : State := issueMove o.indenter (enterState .moveIndent s)

/-- Enter MOVE_VIEW for the impression held (R49). -/
def enterMoveView (o : Order) (s : State) : State := issueMove o.objective (enterState .moveView s)

/-- Enter TARE: the accumulator is emptied (R53, R71). -/
def enterTare (s : State) : State :=
  (enterState .tare s).modForce fun f => { f with tareSum := 0, tareCount := 0 }

/-- Enter APPROACH (R54). -/
def enterApproach (s : State) : State :=
  (enterState .approach s).modTimers fun t => { t with approach := .some Config.approachMs }

/-- Enter UNLOAD (R56). -/
def enterUnload (s : State) : State :=
  (enterState .unload s).modTimers fun t => { t with unload := .some Config.unloadMs }

/-- Enter RETRACT for a purpose, with its 5 s (R61). -/
def enterRetract (purpose : RetractPurpose) (s : State) : State :=
  ((enterState .retract s).modSeq fun q => { q with purpose := .some purpose }).modTimers
    fun t => { t with retract := .some Config.retractMs }

/-- Enter PAUSED (R64). -/
def enterPaused (s : State) : State := enterState .paused s

/-- Enter AWAIT_POINTS, the starvation timer at the order's wait (R28, R63). -/
def enterAwaitPoints (o : Order) (s : State) : State :=
  (enterState .awaitPoints s).modTimers fun t => { t with starvation := .some (o.starvation * 1000) }

/-- Enter STORE_WAIT (R36, R63). -/
def enterStoreWait (s : State) : State := enterState .storeWait s

/-! ## The capture unit's views -/

/-- A bank returned to FREE, its score absent (R85), its closed flag and in-line flag clear (log entry 16). -/
def Bank.release (b : Bank) : Bank := { b with role := .free, score := .none, inLine := false, closed := false }

/-- Start a view on entry to SETTLE (R90). -/
def startView (o : Order) (s : State) : State :=
  s.modCap fun c =>
    { c with
      params := .some { bandW := o.bandW, rh := o.rh, frameLimit := o.frameLimit
                        threshold := (objectiveFields o.objective s).focus }
      framesScored := 0, phase := .settle, expose := true, frameTimer := .some Config.frameMs }

/-- Enter SETTLE (R58, R90). -/
def enterSettle (o : Order) (s : State) : State := startView o (enterState .settle s)

/-- Stop a view (R98); with no view started there is nothing to stop. -/
def CaptureUnit.stop (c : CaptureUnit) : CaptureUnit :=
  if c.phase = .none then c
  else
    { c with
      expose := false, frameTimer := .none, scoring := [], bank0 := c.bank0.release, bank1 := c.bank1.release
      framesScored := 0, phase := .none, params := .none }

/-- The sequencer stops the view: capture stops, the measurement is abandoned, and the frames of the stopped view do not reach
any record (R98, R122). -/
def stopView (s : State) : State :=
  ((s.modCap CaptureUnit.stop).setEngine .none).modSeq fun q =>
    { q with cur := q.cur.map fun c => { c with framesUsed := 0, softFocus := false } }

/-! ## The end of an order, release and grant -/

/-- An order ends (R9): its state, outcome and reason are set, its causes and pending cancel cleared, its summary formed, and
ORDER ENDED and then RESULTS WAITING posted to its origin port (R146, R152). -/
def endOrder (id : Nat) (out : OrderOutcome) (why : Option AbortReason) (s : State) : State :=
  match findOrder id s with
  | .none => s
  | .some o =>
    let s1 := updOrder id
      (fun o =>
        { o with
          status := .ended, outcome := .some out, abortReason := why, holds := Holds.none
          pendingHolds := PendingHolds.none, cancelPending := false, summary := .some (summaryOf o out why) }) s
    postResultsWaiting o (orZero o.lastSeq)
      (postTo o.origin (orderNotice .orderEnded o (orZero o.lastSeq) (endedValue out why)) s1)

/-- The head is released (R16): no owner, the sequencer IDLE, and the round phase INDENT for the next grant (R48)
(log entry 14). -/
def releaseHead (s : State) : State :=
  ((enterState .idle s).modSeq fun q => { q with cur := .none, impressions := [], round := .indent, purpose := .none
                                                 stopFlag := false }).modArb
    fun a => { a with owner := .none }

/-- An order is eligible for a grant (R12). -/
def eligible (s : State) (o : Order) : Bool :=
  o.status = .opened && !o.holds.any && !o.points.isEmpty && !s.arb.deviceHold && doorClosed s && estopClear s
    && (s.arb.lock = .none || s.arb.lock = .some o.origin) && s.cal.loaded && conditionOf 6 s ≠ .loadFault

/-- The order of the earliest open rank. -/
def earliest : List Order → Option Order
  | [] => .none
  | o :: rest =>
    match earliest rest with
    | .none => .some o
    | .some p => if p.rank < o.rank then .some p else .some o

/-- The arbiter's choice among the eligible orders (R14). -/
def chooseOrder (s : State) : Option Order :=
  let el := s.table.orders.filter (eligible s)
  let other := el.filter (·.origin = s.arb.lastGranted.other)
  if other.isEmpty then earliest (el.filter (·.origin = s.arb.lastGranted)) else earliest other

/-- Consider a grant (R13, R15): with no owner, the chosen order becomes the owner and RUNNING, ORDER STARTED is posted, and
POINTS LOW is judged (R34).  The flag says that a grant was made, after which the owner's point boundary follows
(log entry 13). -/
def considerGrant (s : State) : State × Bool :=
  match s.arb.owner with
  | .some _ => (s, false)
  | .none =>
    match chooseOrder s with
    | .none => (s, false)
    | .some o =>
      let s1 := updOrder o.id (fun o => { o with status := .running }) s
      let s2 := s1.modArb fun a => { a with owner := .some o.id, lastGranted := o.origin }
      (judgePointsLow (postTo o.origin (orderNotice .orderStarted o 0 0) s2), true)

/-- The head-owning order ends, the head is released and a grant considered (R9, R16). -/
def endOwner (id : Nat) (out : OrderOutcome) (why : Option AbortReason) (s : State) : State × Bool :=
  considerGrant (releaseHead (endOrder id out why s))

/-- A cancel completes (R27): the listed impressions are recorded, the points discarded, the order ends CANCELLED and the
head is released. -/
def completeCancel (o : Order) (s : State) : State × Bool :=
  endOwner o.id .cancelled .none (discardPoints o (flushImpressions o .cancelled s))

/-! ## The point boundary (R35, R37, R47, R48) -/

/-- Pending causes move into the hold causes, and with any cause the order is HELD (R8, R48 step 2). -/
def applyPending (o : Order) : Order :=
  let h : Holds := { own := o.holds.own || o.pendingHolds.own, device := o.holds.device || o.pendingHolds.device
                     interlock := o.holds.interlock }
  { o with holds := h, pendingHolds := PendingHolds.none, status := if h.any then .held else o.status }

/-- The reason a mark gives a record (R43, R57). -/
def Mark.reason : Mark → Reason
  | .forceLost => .forceLost
  | .interrupted => .interrupted

/-- The front impression leaves the list (R42): a marked one is recorded UNMEASURED with its mark, which is a boundary (R43);
any other becomes the current point and is viewed. -/
def takeImpression (o : Order) (s : State) : State × Bool :=
  match s.seq.impressions with
  | [] => (s, false)
  | i :: rest =>
    let s1 := s.modSeq fun q => { q with impressions := rest, cur := .some (CurPoint.ofImpression i) }
    match i.mark with
    | .some m => (recordCurrent o .unmeasured m.reason s1, true)
    | .none => (enterMoveView o s1, false)

/-- The spacing check (R37): exact, and made only where the order has both a reference diagonal and a last indent position. -/
def spacingPasses (o : Order) (p : Point) : Bool :=
  match o.refDiagonal, o.lastIndent with
  | .some d, .some (lx, ly) =>
    25 * (d * d : Nat) ≤ 4 * ((p.x - lx) * (p.x - lx) + (p.y - ly) * (p.y - ly))
  | _, _ => true

/-- The front point is taken (R35), POINTS LOW judged (R34) and the spacing check applied (R37): a point that fails is recorded
SKIPPED/SPACING, which is a boundary; one that passes goes on to MOVE_INDENT. -/
def takePoint (o : Order) (s : State) : State × Bool :=
  match o.points with
  | [] => (s, false)
  | p :: rest =>
    let s1 := updOrder o.id (fun o => { o with points := rest, counts := { o.counts with taken := o.counts.taken + 1 } }) s
    let s2 := (s1.setPoolFree (s.poolFree + 1)).modSeq fun q => { q with cur := .some (CurPoint.ofPoint p) }
    let s3 := judgePointsLow s2
    if spacingPasses o p then (enterMoveIndent o s3, false) else (recordCurrent o .skipped .spacing s3, true)

/-- The indent phase of a deferred round ends with impressions listed (R41, R48 step 5). -/
def indentPhaseOver (o : Order) (s : State) : Bool :=
  Config.impressionEntries ≤ s.seq.impressions.length || o.points.isEmpty || freeRoom s ≤ s.seq.impressions.length

/-- Steps 6 to 9 of a boundary (R48). -/
def boundaryTake (o : Order) (s : State) : State × Bool :=
  if o.points.isEmpty then
    if o.lastReceived then endOwner o.id .completed .none s else (enterAwaitPoints o s, false)
  else if freeRoom s ≤ s.seq.impressions.length then (enterStoreWait s, false)
  else takePoint o s

/-- Steps 3 to 9 of a boundary (R48). -/
def boundaryRun (o : Order) (s : State) : State × Bool :=
  match o.mode with
  | .immediate => boundaryTake o s
  | .deferred =>
    if s.seq.impressions.isEmpty then boundaryTake o (s.modSeq fun q => { q with round := .indent })
    else if s.seq.round = .measure then takeImpression o s
    else if indentPhaseOver o s then takeImpression o (s.modSeq fun q => { q with round := .measure })
    else boundaryTake o s

/-- Step 2 of a boundary found the order HELD: a deferred round with impressions listed goes to its measure phase, and the
sequencer enters PAUSED (R48). -/
def boundaryPause (o : Order) (s : State) : State :=
  enterPaused
    (if o.mode = .deferred ∧ s.seq.impressions ≠ [] then s.modSeq fun q => { q with round := .measure } else s)

/-- One pass over the boundary steps (R48).  The flag says that another boundary follows at once: a record was written that is
itself a boundary, or the head passed to another order. -/
def boundaryStep (s : State) : State × Bool :=
  match ownerOf s with
  | .none => (s, false)
  | .some o =>
    if o.cancelPending then completeCancel o s
    else
      let o1 := applyPending o
      let s1 := updOrder o.id applyPending s
      if o1.status = .held then (boundaryPause o1 s1, false) else boundaryRun o1 s1

/-- Passes over the boundary steps until none follows; the number bounds the passes. -/
def boundaryLoop : Nat → State → State
  | 0, s => s
  | n + 1, s =>
    match boundaryStep s with
    | (s1, true) => boundaryLoop n s1
    | (s1, false) => s1

/-- A bound on the passes: each pass that another follows uses up a listed point, a listed impression or a running order
(log entry 28). -/
def boundaryBound (s : State) : Nat :=
  (s.table.orders.map (·.points.length)).sum + s.seq.impressions.length + s.table.orders.length + 1

/-- The head-owning order reaches a point boundary (R47, R48). -/
def boundary (s : State) : State := boundaryLoop (boundaryBound s) s

/-- After a grant the new owner is at a boundary (R15, R47). -/
def afterGrant (r : State × Bool) : State := if r.2 then boundary r.1 else r.1

/-- The arbiter considers a grant, and a granted order goes through its boundary (R13, R15). -/
def grant (s : State) : State := afterGrant (considerGrant s)

/-! ## The review desk (R125, R131) -/

/-- A review opens over the current point (R125): its record is written in REVIEW, the window timer starts, REVIEW OPEN is
posted to both ports, and the sequencer enters REVIEW_WAIT. -/
def openReview (o : Order) (why : Reason) (s : State) : State :=
  let seq := s.store.nextSeq
  let s1 := recordCurrent o .review why s
  let s2 := s1.setDesk { review := .some { seq := seq, orderId := o.id, claimant := .none }
                         window := .some (o.window * 1000) }
  enterState .reviewWait (postBoth (orderNotice .reviewOpen o seq (reasonCode why)) s2)

/-- The record of a seq in the store. -/
def findRecord (seq : Nat) (s : State) : Option Record := s.store.records.find? (·.seq = seq)

/-- The review desk clears the open review and its claim, and stops the window timer (R131 steps 1 and 3). -/
def clearDesk (s : State) : State := s.setDesk { review := .none, window := .none }

/-- REVIEW CLOSED to both ports (R131 step 4). -/
def postReviewClosed (r : Review) (out : ReviewOutcome) (s : State) : State :=
  postBoth { kind := .reviewClosed, orderId := r.orderId, origin := (findOrder r.orderId s).map (·.origin)
             seq := r.seq, value := reviewOutcomeCode out } s

/-- A final close of the open review, steps 1 to 4 (R131, R141): the record is changed in place and reported to its order, the
review cleared, and REVIEW CLOSED posted. -/
def closeReview (out : ReviewOutcome) (change : Record → Record) (s : State) : State :=
  match s.desk.review with
  | .none => s
  | .some r =>
    let s1 := s.modStore fun t =>
      { t with records := t.records.map fun x => if x.seq = r.seq then change x else x }
    let s2 :=
      match findRecord r.seq s with
      | .none => s1
      | .some x => updOrder r.orderId (reportRecord (change x)) s1
    postReviewClosed r out (clearDesk s2)

/-- The record of a review that closes UNMEASURED with a reason (R126, R130, R133). -/
def Record.unmeasured (why : Reason) (x : Record) : Record := { x with state := .unmeasured, reason := why }

/-- The impression a superseded review gives back (R134). -/
def CurPoint.ofRecord (x : Record) : CurPoint :=
  { tag := x.tag, x := x.x, y := x.y, depth := x.depth, indented := true, peak := x.peak, achieved := x.achieved
    deviation := x.flags.deviation, mark := .none, framesUsed := 0, softFocus := false, handed := true }

/-- A superseded close (R134, R141): the record leaves the store and its port's waiting count, the impression returns as the
current point, REVIEW CLOSED is posted, and the sequencer enters MOVE_VIEW. -/
def supersedeReview (o : Order) (s : State) : State :=
  match s.desk.review with
  | .none => s
  | .some r =>
    match findRecord r.seq s with
    | .none => s
    | .some x =>
      let s1 := s.modStore fun t =>
        { t.setWaiting x.origin (t.waiting x.origin - 1) with records := t.records.filter (·.seq ≠ r.seq) }
      let s2 := postReviewClosed r .superseded (clearDesk s1)
      enterMoveView o (s2.modSeq fun q => { q with cur := .some (CurPoint.ofRecord x) })

/-- A failure reported by the capture unit or the measurement engine (R59): a review opens where the order's window is not zero
and no cancel is pending; otherwise the record is written UNMEASURED and the writing is a boundary. -/
def handleFailure (why : Reason) (s : State) : State :=
  match ownerOf s with
  | .none => s
  | .some o =>
    if o.window ≠ 0 ∧ o.cancelPending = false then openReview o why s
    else boundary (recordCurrent o .unmeasured why s)

/-! ## The abort path (R66, R67) -/

/-- The force values a point carries into its abort record (R67, R82): those handed over, else the monitor's where it has made
contact, else zero; no frames of a view (R99). -/
def abortPoint (f : ForceMonitor) (c : CurPoint) : CurPoint :=
  let c1 := if c.indented && !c.handed then
      { c with peak := f.peak, achieved := f.dwellCount / 100, deviation := f.deviation } else c
  { c1 with framesUsed := 0, softFocus := false }

/-- The abort records (R67): the current point, the listed impressions, the points discarded; the order ends ABORTED and the
head is released. -/
def abortRecords (why : AbortReason) (s : State) : State :=
  match ownerOf s with
  | .none => s
  | .some o =>
    let s0 := s.modTimers fun t => { t with retract := .none }
    let s1 := s0.modSeq fun q => { q with cur := q.cur.map (abortPoint s.force) }
    let st : RecState := if (s.seq.cur.map (·.indented)).getD false then .unmeasured else .skipped
    let s2 := flushImpressions o .aborted (recordCurrent o st .aborted s1)
    afterGrant (endOwner o.id .aborted (.some why) (discardPoints o s2))

/-- The order holding the head takes the abort path (R66).  `spent` says that the retract time is counted as spent, so that the
abort records follow at once. -/
def abortPath (why : AbortReason) (spent : Bool) (s : State) : State :=
  if (ownerOf s).isNone then s
  else
    let s1 := s.modTimers fun t =>
      { t with stage := .none, turret := .none, approach := .none, unload := .none, starvation := .none }
    let s2 := stopView (stopStage (s1.modSeq fun q => { q with stopFlag := false }))
    let s3 := if s.seq.state = .reviewWait then closeReview .aborted (Record.unmeasured .aborted) s2 else s2
    let s4 := enterRetract (.abort why) s3
    if spent then abortRecords why s4 else s4

/-! ## Resuming (R8, R60, R62, R65) -/

/-- The hold causes of the HELD head owner have become empty: it is RUNNING, and the sequencer leaves PAUSED, or an open review
is superseded (R8, R60, R65).  In any other state the sequencer goes on as it was. -/
def resumeOwner (o : Order) (s : State) : State :=
  let s1 := updOrder o.id (fun o => { o with status := .running }) s
  match s.seq.state with
  | .paused =>
    match s.seq.cur with
    | .some _ => enterMoveView o s1
    | .none => boundary s1
  | .reviewWait => supersedeReview o s1
  | _ => s1

/-! ## Retract and interlock stop (R61, R62) -/

/-- Lift-off: the latest force is below the contact threshold of the head owner's force code (R81). -/
def liftedOff (s : State) : Bool :=
  match ownerOf s with
  | .none => true
  | .some o => s.force.lastForce < contactThreshold o.forceCode

/-- The conditions on which a retract or an interlock stop is complete (R61, R62). -/
def headAtRest (s : State) : Bool :=
  s.pins.actRaised && liftedOff s && !s.seq.stageOutstanding && !s.seq.turretOutstanding

/-- The retract completes and the sequencer acts by its purpose (R61). -/
def finishRetract (s : State) : State :=
  let s1 := (s.modTimers fun t => { t with retract := .none }).modSeq fun q => { q with purpose := .none }
  match ownerOf s, s.seq.purpose with
  | .some o, .some .cancel => boundary (recordCurrent o .skipped .cancelled s1)
  | .some o, .some .noContact => boundary (recordCurrent o .skipped .noContact s1)
  | .some _, .some (.abort why) => abortRecords why s1
  | _, _ => s1

/-- The point interrupted before contact returns to the front of its list (R39), and the low-water flag is judged (R34). -/
def returnPoint (o : Order) (s : State) : State :=
  match s.seq.cur with
  | .none => s
  | .some c =>
    dropCurrent
      ((updOrder o.id
        (fun o => rearmLowWater { o with points := c.toPoint :: o.points
                                         counts := { o.counts with taken := o.counts.taken - 1 } }) s).setPoolFree
        (s.poolFree - 1))

/-- The interlock stop completes and the current point is disposed of (R62). -/
def finishStop (s : State) : State :=
  let s1 := (s.modTimers fun t => { t with retract := .none }).modSeq fun q => { q with stopFlag := false }
  match ownerOf s with
  | .none => s1
  | .some o =>
    if returnReserve s = 1 then
      if o.cancelPending then boundary (recordCurrent o .skipped .cancelled s1)
      else if o.status = .held then enterPaused (returnPoint o s1)
      else boundary (returnPoint o s1)
    else if o.cancelPending then boundary (recordCurrent o .unmeasured .cancelled s1)
    else if o.status = .held then enterPaused s1
    else enterMoveView o s1

/-- The force monitor hands the point's force values over at the end of UNLOAD (R56, R82). -/
def handOver (f : ForceMonitor) (c : CurPoint) : CurPoint :=
  { c with peak := f.peak, achieved := f.dwellCount / 100, deviation := f.deviation, handed := true }

/-- The end of UNLOAD: the force values are handed over and the point is disposed of (R56, R57). -/
def finishUnload (s : State) : State :=
  let s1 := (s.modTimers fun t => { t with unload := .none }).modSeq fun q => { q with cur := q.cur.map (handOver s.force) }
  match ownerOf s, s1.seq.cur with
  | .some o, .some c =>
    if o.cancelPending then boundary (recordCurrent o .unmeasured .cancelled s1)
    else
      match o.mode with
      | .deferred =>
        boundary (s1.modSeq fun q => { q with cur := .none, impressions := q.impressions ++ [Impression.ofPoint c] })
      | .immediate =>
        match c.mark with
        | .some m => boundary (recordCurrent o .unmeasured m.reason s1)
        | .none => if o.status = .held then enterPaused s1 else enterMoveView o s1
  | _, _ => s1

/-- Judge what a sample, a change of ACT_RAISED or the end of a motion may complete: an unload, a retract or an interlock stop
(R56, R61, R62).  `motion` says that a motion's end is judged, which an unload does not wait for (log entry 15). -/
def judgeRest (motion : Bool) (s : State) : State :=
  if s.seq.stopFlag then if headAtRest s then finishStop s else s
  else
    match s.seq.state with
    | .retract => if headAtRest s then finishRetract s else s
    | .unload => if !motion && s.pins.actRaised && liftedOff s then finishUnload s else s
    | _ => s

/-! ## The move phase (R51, R52) -/

/-- The sequencer is in a move phase that no interlock stop has cut short. -/
def inMove (s : State) : Bool := !s.seq.stopFlag && (s.seq.state = .moveIndent || s.seq.state = .moveView)

/-- A move phase ends when both its parts are done (R52): MOVE_INDENT passes to TARE and MOVE_VIEW to SETTLE. -/
def judgeMove (s : State) : State :=
  if inMove s && s.seq.stagePart && s.seq.turretPart then
    if s.seq.state = .moveIndent then enterTare s
    else
      match ownerOf s with
      | .none => s
      | .some o => enterSettle o s
  else s

/-- The station that the move phase asks for (R49). -/
def requestedStation (o : Order) (s : State) : Nat := if s.seq.state = .moveIndent then o.indenter else o.objective

/-- The turret part of a move is done where TUR_DONE has been reported and the station code reads the requested station; its
timer then stops and the end of the phase is judged (R51) (log entry 27). -/
def judgeTurret (s : State) : State :=
  match ownerOf s with
  | .none => s
  | .some o =>
    if inMove s && !s.seq.turretPart && !s.seq.turretOutstanding && stationReads (requestedStation o s) s then
      judgeMove (s.modSeq fun q => { q with turretPart := true, timers := { q.timers with turret := .none } })
    else s

/-! ## Holds (R8, R21, R23) -/

/-- The sequencer waits at a boundary, in AWAIT_POINTS or STORE_WAIT (R8). -/
def waitingAtBoundary (s : State) : Bool := s.seq.state = .awaitPoints || s.seq.state = .storeWait

/-- Stop the starvation timer. -/
def stopStarvation (s : State) : State := s.modTimers fun t => { t with starvation := .none }

/-- The sequencer leaves AWAIT_POINTS or STORE_WAIT for PAUSED; the starvation timer stops (R63). -/
def pauseWaiting (s : State) : State := enterPaused (stopStarvation s)

/-- A hold cause reaches the head owner (R8, R21, R23): a HELD order gains it, a RUNNING order that waits at a boundary gains it
and is HELD at once, and any other RUNNING order has it pending. -/
def holdOwner (o : Order) (effective : Holds → Holds) (pend : PendingHolds → PendingHolds) (s : State) : State :=
  if o.status = .held then updOrder o.id (fun o => { o with holds := effective o.holds }) s
  else if waitingAtBoundary s then
    pauseWaiting (updOrder o.id (fun o => { o with holds := effective o.holds, status := .held }) s)
  else updOrder o.id (fun o => { o with pendingHolds := pend o.pendingHolds }) s

/-- HOLD ALL's effect (R23): the device hold flag is set and DEVICE given to the head owner; with the flag already set nothing
further changes. -/
def holdAllEffect (s : State) : State :=
  if s.arb.deviceHold then s
  else
    let s1 := s.modArb fun a => { a with deviceHold := true }
    match ownerOf s with
    | .none => s1
    | .some o =>
      if o.holds.device || o.pendingHolds.device then s1
      else holdOwner o (fun h => { h with device := true }) (fun h => { h with device := true }) s1

/-- Remove DEVICE from an order's causes (R24). -/
def dropDevice (o : Order) : Order :=
  { o with holds := { o.holds with device := false }, pendingHolds := { o.pendingHolds with device := false } }

/-- RESUME ALL's effect (R24): the flag is cleared, DEVICE removed from every order, the head owner resumed where its causes
have become empty, and a grant considered. -/
def resumeAllEffect (s : State) : State :=
  let s1 := (s.modArb fun a => { a with deviceHold := false }).modTable fun t => { t with orders := t.orders.map dropDevice }
  let s2 :=
    match ownerOf s1 with
    | .none => s1
    | .some o => if o.status = .held ∧ o.holds.any = false then resumeOwner o s1 else s1
  grant s2

/-! ## Lamps (R176) -/

/-- A lamp mode after a setting; UNCHANGED keeps it. -/
def newMode (m : LampMode) (setting : Option LampMode) : LampMode := setting.getD m

/-- SET LAMP's effect (R176), absent where a setting is refused. -/
def setLampEffect (g a r : Nat) (s : State) : Option State :=
  match lampSetting g, lampSetting a, lampSetting r with
  | .some sg, .some sa, .some sr =>
    .some (s.modLamps fun l => { l with green := newMode l.green sg, amber := newMode l.amber sa, red := newMode l.red sr })
  | _, _, _ => .none

end Sys2Proof.Machine
end

