-- ==== Sys2Proof/Machine/Orders.lean ====
section
/-!
DEFINITION. The requests of the order table and the head arbiter: OPEN ORDER (R2 to R6), ADD POINTS (R31 to R34), CANCEL, HOLD
and RESUME ORDER (R21, R22, R25 to R27), HOLD ALL and RESUME ALL (R23, R24), TAKE HEAD and FREE HEAD (R17 to R19), READ
SUMMARY (R10, R153), and the starvation yield (R28).
-/

namespace Sys2Proof.Machine

/-! ## OPEN ORDER -/

/-- A number clamped into a range (R4). -/
def clampTo (lo hi v : Nat) : Nat := if v < lo then lo else if hi < v then hi else v

/-- The review window clamped: 0 is review off, 1 to 9 are raised to 10 (R4). -/
def clampWindow (v : Nat) : Nat := if v = 0 then 0 else clampTo 10 600 v

/-- The band width clamped, and an odd one lowered to the even value below it (R4). -/
def clampBand (v : Nat) : Nat := clampTo 8 64 v / 2 * 2

/-- A limit: 0 is absent, and one above 99,999 is lowered to it (R4). -/
def limitOf (v : Nat) : Option Nat := if v = 0 then .none else .some (min v Config.hardnessMax)

/-- The bit of the default mask (R193, 11.8). -/
def defaulted (r : OpenOrderReq) (bit : Nat) : Bool := r.defaults.testBit bit

/-- A parameter taken at its default where its bit is set, else from its field (R193). -/
def paramOr (r : OpenOrderReq) (bit dflt v : Nat) : Nat := if defaulted r bit then dflt else v

/-- The numeric parameters of OPEN ORDER. -/
structure OrderParams where
  dwell      : Nat
  ramp       : Nat
  window     : Nat
  starvation : Nat
  lowWater   : Nat
  threshold  : Nat
  bandW      : Nat
  rh         : Nat
  rv         : Nat
  contrast   : Nat
  asymmetry  : Nat
  offCentre  : Nat
  frameLimit : Nat
deriving DecidableEq, Repr

/-- The parameters as asked for: from the fields, or at their defaults where the mask asks (R193, 1.1). -/
def askedParams (r : OpenOrderReq) : OrderParams :=
  { dwell := paramOr r 0 150 r.dwell, ramp := paramOr r 1 50 r.ramp, window := paramOr r 2 120 r.window
    starvation := paramOr r 3 10 r.starvation, lowWater := paramOr r 4 8 r.lowWater
    threshold := paramOr r 5 1 r.threshold, bandW := paramOr r 6 32 r.bandW, rh := paramOr r 7 400 r.rh
    rv := paramOr r 8 320 r.rv, contrast := paramOr r 9 40 r.contrast, asymmetry := paramOr r 10 50 r.asymmetry
    offCentre := paramOr r 11 100 r.offCentre, frameLimit := paramOr r 12 6 r.frameLimit }

/-- The parameters clamped into the ranges of 1.1 (R4). -/
def clampParams (p : OrderParams) : OrderParams :=
  { dwell := clampTo 20 600 p.dwell, ramp := clampTo 20 80 p.ramp, window := clampWindow p.window
    starvation := clampTo 1 60 p.starvation, lowWater := clampTo 0 64 p.lowWater
    threshold := clampTo 1 256 p.threshold, bandW := clampBand p.bandW, rh := clampTo 64 576 p.rh
    rv := clampTo 64 448 p.rv, contrast := clampTo 1 255 p.contrast, asymmetry := clampTo 0 200 p.asymmetry
    offCentre := clampTo 0 500 p.offCentre, frameLimit := clampTo 1 16 p.frameLimit }

/-- Clamping or rounding altered a value (R4). -/
def wasClamped (r : OpenOrderReq) : Bool :=
  clampParams (askedParams r) ≠ askedParams r || Config.hardnessMax < r.lower || Config.hardnessMax < r.upper
    || Config.hardnessMax < r.caseLimit

/-- The indenter kind a method asks for (R3 step 7). -/
def indenterFor : Method → StationKind
  | .vickers => .vickersIndenter
  | .knoop => .knoopIndenter

/-- The lower limit exceeds the upper one, both present (R3 step 4). -/
def limitsCross (lower upper : Option Nat) : Bool :=
  match lower, upper with
  | .some l, .some u => u < l
  | _, _ => false

/-- The checks of R3 in their order; absent where the request is accepted. -/
def openOrderCheck (r : OpenOrderReq) (s : State) : Option Status :=
  match orderKindOfCode r.kind, methodOfCode r.method, modeOfCode r.mode with
  | .some kind, .some method, .some _ =>
    if 11 < r.forceCode then .some .badValue
    else if r.caseLimit ≠ 0 ∧ kind ≠ .traverse then .some .badValue
    else if limitsCross (limitOf r.lower) (limitOf r.upper) then .some .badValue
    else if 5 < r.indenter ∨ 5 < r.objective then .some .badStation
    else if (stationRecord r.indenter s).kind = .empty ∨ (stationRecord r.objective s).kind = .empty then .some .badStation
    else if (stationRecord r.indenter s).kind ≠ indenterFor method ∨ (stationRecord r.objective s).kind ≠ .objective then
      .some .badStation
    else if Config.orderSlots ≤ s.table.orders.length ∧ s.table.orders.all (·.status ≠ .ended) then .some .full
    else .none
  | _, _, _ => .some .badValue

/-- The id after an id (R2). -/
def idAfter (n : Nat) : Nat := if n < Config.orderIdMax then n + 1 else 1

/-- The first candidate from an id on that no order in the table has; the number bounds the candidates tried (R2). -/
def searchId (ids : List Nat) : Nat → Nat → Nat
  | 0, c => c
  | n + 1, c => if ids.contains c then searchId ids n (idAfter c) else c

/-- The slots an accepted order is placed among (R5): with no slot free, the ENDED order of the earliest open rank gives its
slot up. -/
def slotsFor (t : OrderTable) : List Order :=
  if t.orders.length < Config.orderSlots then t.orders
  else
    match earliest (t.orders.filter (·.status = .ended)) with
    | .none => t.orders
    | .some o => t.orders.filter (·.id ≠ o.id)

/-- The open rank after every order in the table (R2). -/
def nextRank (orders : List Order) : Nat := (orders.map (·.rank)).foldl max 0 + 1

/-- The new order as it begins (R6). -/
def newOrder (src : Source) (r : OpenOrderReq) (id rank : Nat) : Order :=
  let p := clampParams (askedParams r)
  { id := id, origin := src.port, rank := rank
    kind := (orderKindOfCode r.kind).getD .single, method := (methodOfCode r.method).getD .vickers
    forceCode := r.forceCode, indenter := r.indenter, objective := r.objective
    mode := (modeOfCode r.mode).getD .immediate
    dwell := p.dwell, ramp := p.ramp, window := p.window, starvation := p.starvation, lowWater := p.lowWater
    threshold := p.threshold, lower := limitOf r.lower, upper := limitOf r.upper, caseLimit := limitOf r.caseLimit
    bandW := p.bandW, rh := p.rh, rv := p.rv, contrast := p.contrast, asymmetry := p.asymmetry
    offCentre := p.offCentre, frameLimit := p.frameLimit
    status := .opened, holds := Holds.none, pendingHolds := PendingHolds.none, outcome := .none, abortReason := .none
    cancelPending := false, clamped := wasClamped r, lastReceived := false, lastDepth := .none, points := []
    lowArmed := true, refDiagonal := .none, lastIndent := .none, firstSeq := .none, lastSeq := .none
    counts := Counts.zero, hardnessSum := 0, minHardness := .none, maxHardness := .none, prevMeasured := .none
    crossingFound := false, caseStatus := if r.caseLimit = 0 then .none else .pending, caseValue := .none
    summary := .none }

/-- OPEN ORDER decided by the order table (R2 to R6). -/
def decideOpenOrder (src : Source) (r : OpenOrderReq) (s : State) : Answer :=
  match openOrderCheck r s with
  | .some st => Answer.refuse st s
  | .none =>
    let slots := slotsFor s.table
    let id := searchId (slots.map (·.id)) 9 s.table.nextId
    let o := newOrder src r id (nextRank slots)
    { state := s.modTable fun _ => { nextId := idAfter id, orders := slots ++ [o] }
      status := if o.clamped then .acceptedClamped else .accepted
      body := bytesOf 2 id }

/-- OPEN ORDER (R3). -/
def execOpenOrder (src : Source) (r : OpenOrderReq) (s : State) : Host.Outcome State Fault Refusal :=
  .next (serve (.openOrder src r) src (decideOpenOrder src r) s)

/-! ## ADD POINTS -/

/-- Depths strictly increase from a depth on (R31 step 5). -/
def depthsIncrease : Option Nat → List Nat → Bool
  | _, [] => true
  | .none, d :: rest => depthsIncrease (.some d) rest
  | .some p, d :: rest => p < d && depthsIncrease (.some d) rest

/-- A coordinate within stage travel (R31 step 6). -/
def inTravel (v : Int) : Bool := -Config.travel ≤ v && v ≤ Config.travel

/-- Both targets of a point lie within travel (R31 step 6). -/
def targetsInTravel (ind obj : Station) (e : PointEntry) : Bool :=
  inTravel (e.x + ind.x) && inTravel (e.y + ind.y) && inTravel (e.x + obj.x) && inTravel (e.y + obj.y)

/-- Step 4 of R31 on an order of a kind. -/
def pointsValid (o : Order) (ps : List PointEntry) : Bool :=
  match o.kind with
  | .single => ps.length = 1
  | .pattern => true
  | .traverse => ps.all fun e => decide (e.depth ≤ Config.depthMax)

/-- Steps 3 to 7 of R31 on the order named. -/
def addPointsCheck (o : Order) (r : AddPointsReq) (s : State) : Option Status :=
  if o.lastReceived then .some .badState
  else if ¬ pointsValid o r.points then .some .badValue
  else if o.kind = .traverse ∧ ¬ depthsIncrease o.lastDepth (r.points.map (·.depth)) then .some .depthOrder
  else if ¬ r.points.all (targetsInTravel (stationRecord o.indenter s) (stationRecord o.objective s)) then
    .some .outOfTravel
  else if s.poolFree - returnReserve s < r.points.length then .some .full
  else .none

/-- The point stored for an entry: it has a depth only in a TRAVERSE order (R31). -/
def pointOfEntry (k : OrderKind) (e : PointEntry) : Point :=
  { tag := e.tag, x := e.x, y := e.y, depth := if k = .traverse then .some e.depth else .none }

/-- The order after the append (R32, R33, R34); the low-water flag is re-armed before the grant or the take that the append may
lead to (DESIGN CHOICE, log entry 32). -/
def appendPoints (r : AddPointsReq) (o : Order) : Order :=
  rearmLowWater
    { o with
      points := o.points ++ r.points.map (pointOfEntry o.kind)
      lastDepth := if o.kind = .traverse then (r.points.getLast?.map (·.depth)).or o.lastDepth else o.lastDepth
      lastReceived := r.last || o.kind = .single }

/-- What the append leads to (R32, R33): an OPEN order with an empty list and the flag set ends COMPLETED, another OPEN order
may be granted the head, and a head owner in AWAIT_POINTS goes through its boundary. -/
def afterAppend (id : Nat) (n : Nat) (s : State) : State :=
  match findOrder id s with
  | .none => s
  | .some o =>
    if o.status = .opened then
      if o.lastReceived && o.points.isEmpty then endOrder id .completed .none s
      else if n = 0 then s
      else grant s
    else if s.arb.owner = .some id ∧ s.seq.state = .awaitPoints ∧ (n ≠ 0 ∨ o.lastReceived) then
      boundary (stopStarvation s)
    else s

/-- The order a request names, as HOLD ORDER and its like check it: NO_ORDER where it is not in the table or ENDED, NOT_OWNER
from the port that is not its origin (R21, R31). -/
def liveOrder (src : Source) (id : Nat) (s : State) : Except Status Order :=
  match findOrder id s with
  | .none => .error .noOrder
  | .some o =>
    if o.status = .ended then .error .noOrder
    else if o.origin ≠ src.port then .error .notOwner
    else .ok o

/-- ADD POINTS decided by the order table (R31 to R34); the response carries the free entries right after the append (DESIGN CHOICE,
log entry 33). -/
def decideAddPoints (src : Source) (r : AddPointsReq) (s : State) : Answer :=
  match liveOrder src r.orderId s with
  | .error st => Answer.refuse st s
  | .ok o =>
    match addPointsCheck o r s with
    | .some st => Answer.refuse st s
    | .none =>
      let free := s.poolFree - r.points.length
      { state := afterAppend o.id r.points.length ((updOrder o.id (appendPoints r) s).setPoolFree free)
        status := .accepted
        body := bytesOf 2 (o.points.length + r.points.length) ++ bytesOf 2 free }

/-- ADD POINTS (R31). -/
def execAddPoints (src : Source) (r : AddPointsReq) (s : State) : Host.Outcome State Fault Refusal :=
  .next (serve (.addPoints src r) src (decideAddPoints src r) s)

/-! ## CANCEL ORDER -/

/-- A cancel that completes at once, with what follows the release of the head (R27). -/
def cancelNow (o : Order) (s : State) : State := afterGrant (completeCancel o s)

/-- Set cancel pending (R25). -/
def markCancel (o : Order) (s : State) : State := updOrder o.id (fun o => { o with cancelPending := true }) s

/-- The cancel of the head-owning order acts on the work in hand (R26). -/
def cancelOwner (o : Order) (s : State) : State :=
  let s1 := markCancel o s
  if s.seq.stopFlag then s1
  else
    match s.seq.state with
    | .moveIndent => enterRetract .cancel (stopMoveTimers (stopStage s1))
    | .tare => enterRetract .cancel s1
    | .approach => enterRetract .cancel (s1.modTimers fun t => { t with approach := .none })
    | .ramp => enterUnload s1
    | .dwell => enterUnload s1
    | .unload => s1
    | .moveView => s1
    | .settle => s1
    | .focus => s1
    | .measure => s1
    | .reviewWait => cancelNow o (closeReview .cancelled (Record.unmeasured .cancelled) s1)
    | .awaitPoints => cancelNow o (stopStarvation s1)
    | .storeWait => cancelNow o s1
    | .paused => cancelNow o (recordCurrent o .unmeasured .cancelled s1)
    | .retract => s1
    | .idle => s1

/-- The sequencer is in RETRACT on the abort path (R25). -/
def abortingRetract (s : State) : Bool :=
  s.seq.state = .retract &&
    match s.seq.purpose with
    | .some (.abort _) => true
    | _ => false

/-- CANCEL ORDER's effect on an order not ENDED (R25). -/
def cancelEffect (o : Order) (s : State) : State :=
  if o.status = .opened then endOrder o.id .cancelled .none (discardPoints o s)
  else if o.cancelPending || abortingRetract s then s
  else cancelOwner o s

/-- CANCEL ORDER decided by the order table (R25). -/
def decideCancel (src : Source) (id : Nat) (s : State) : Answer :=
  match liveOrder src id s with
  | .error st => Answer.refuse st s
  | .ok o => Answer.accept (cancelEffect o s)

/-- CANCEL ORDER (R25 to R27). -/
def execCancelOrder (src : Source) (id : Nat) (s : State) : Host.Outcome State Fault Refusal :=
  .next (serve (.cancelOrder src id) src (decideCancel src id) s)

/-! ## HOLD ORDER and RESUME ORDER -/

/-- HOLD ORDER's effect on an order not ENDED (R21); with OWN already there, pending or effective, nothing changes. -/
def holdEffect (o : Order) (s : State) : State :=
  if o.holds.own || o.pendingHolds.own then s
  else if o.status = .opened then updOrder o.id (fun o => { o with holds := { o.holds with own := true } }) s
  else holdOwner o (fun h => { h with own := true }) (fun h => { h with own := true }) s

/-- HOLD ORDER decided by the order table (R21). -/
def decideHold (src : Source) (id : Nat) (s : State) : Answer :=
  match liveOrder src id s with
  | .error st => Answer.refuse st s
  | .ok o => Answer.accept (holdEffect o s)

/-- HOLD ORDER (R21). -/
def execHoldOrder (src : Source) (id : Nat) (s : State) : Host.Outcome State Fault Refusal :=
  .next (serve (.holdOrder src id) src (decideHold src id) s)

/-- Remove OWN and INTERLOCK from an order's causes (R22). -/
def dropOwn (o : Order) : Order :=
  { o with holds := { o.holds with own := false, interlock := false }
           pendingHolds := { o.pendingHolds with own := false } }

/-- RESUME ORDER's effect on an order not ENDED (R22). -/
def resumeEffect (o : Order) (s : State) : State :=
  if !(o.holds.own || o.holds.interlock || o.pendingHolds.own) then s
  else
    let s1 := updOrder o.id dropOwn s
    if (dropOwn o).holds.any then s1
    else if o.status = .held then resumeOwner (dropOwn o) s1
    else if o.status = .opened then grant s1
    else s1

/-- RESUME ORDER decided by the order table (R22). -/
def decideResume (src : Source) (id : Nat) (s : State) : Answer :=
  match liveOrder src id s with
  | .error st => Answer.refuse st s
  | .ok o => if doorClosed s then Answer.accept (resumeEffect o s) else Answer.refuse .badState s

/-- RESUME ORDER (R22). -/
def execResumeOrder (src : Source) (id : Nat) (s : State) : Host.Outcome State Fault Refusal :=
  .next (serve (.resumeOrder src id) src (decideResume src id) s)

/-! ## HOLD ALL and RESUME ALL -/

/-- HOLD ALL addressed to the part alone (R23). -/
def execHoldAll (src : Source) (s : State) : Host.Outcome State Fault Refusal :=
  .next (serve (.holdAll src) src (fun s => Answer.accept (holdAllEffect s)) s)

/-- RESUME ALL addressed to the part alone (R24). -/
def execResumeAll (src : Source) (s : State) : Host.Outcome State Fault Refusal :=
  .next (serve (.resumeAll src) src (fun s => Answer.accept (resumeAllEffect s)) s)

/-! ## The head lock -/

/-- The lock passes to a holder, or to none: HEAD LOCK to both ports, and a grant is considered (R17, R18, R20). -/
def setLock (holder : Option Port) (s : State) : State :=
  grant (postBoth (plainNotice .headLock (portCode holder)) (s.modArb fun a => { a with lock := holder }))

/-- TAKE HEAD decided by the head arbiter (R17). -/
def decideTakeHead (src : Source) (s : State) : Answer :=
  match s.arb.lock with
  | .none => Answer.accept (setLock (.some src.port) s)
  | .some p => if p = src.port then Answer.accept s else Answer.refuse .locked s

/-- TAKE HEAD (R17). -/
def execTakeHead (src : Source) (s : State) : Host.Outcome State Fault Refusal :=
  .next (serve (.takeHead src) src (decideTakeHead src) s)

/-- FREE HEAD decided by the head arbiter (R18). -/
def decideFreeHead (src : Source) (s : State) : Answer :=
  match s.arb.lock with
  | .none => Answer.accept s
  | .some p => if p = src.port then Answer.accept (setLock .none s) else Answer.refuse .locked s

/-- FREE HEAD (R18). -/
def execFreeHead (src : Source) (s : State) : Host.Outcome State Fault Refusal :=
  .next (serve (.freeHead src) src (decideFreeHead src) s)

/-! ## READ SUMMARY and the yield -/

/-- READ SUMMARY decided by the order table (R10, R153): the slot is freed once the response has been formed. -/
def decideReadSummary (src : Source) (id : Nat) (s : State) : Answer :=
  match findOrder id s with
  | .none => Answer.refuse .noOrder s
  | .some o =>
    if o.origin ≠ src.port then Answer.refuse .notOwner s
    else
      match o.status, o.summary with
      | .ended, .some m =>
        { state := s.modTable fun t => { t with orders := t.orders.filter (·.id ≠ id) }
          status := .accepted, body := summaryBytes m }
      | _, _ => Answer.refuse .badState s

/-- READ SUMMARY (R10). -/
def execReadSummary (src : Source) (id : Nat) (s : State) : Host.Outcome State Fault Refusal :=
  .next (serve (.readSummary src id) src (decideReadSummary src id) s)

/-- The head-owning order yields (R28): OPEN again, its pending causes cleared, ORDER YIELDED posted, the head released. -/
def yieldOwner (o : Order) (s : State) : State :=
  let s1 := updOrder o.id (fun o => { o with status := .opened, pendingHolds := PendingHolds.none }) (stopStarvation s)
  grant (releaseHead (postTo o.origin (orderNotice .orderYielded o 0 0) s1))

/-- STARVATION TIMER EXPIRY (R28): only a running starvation timer can expire. -/
def execStarvationTimerExpiry (s : State) : Host.Outcome State Fault Refusal :=
  .next <|
    match s.seq.timers.starvation, ownerOf s with
    | .some _, .some o => if s.seq.state = .awaitPoints then yieldOwner o s else s
    | _, _ => s

end Sys2Proof.Machine
end

