-- ==== Sys2Proof/Machine/Links.lean ====
section
/-!
DEFINITION. The command links: receiving frames (R178 to R183), taking and answering them (R184, R185), line breaks and port
resets (R186), and the port's own requests READ STATE (R188), READ NOTICES (R191) and SET LINK (R187).
-/

namespace Sys2Proof.Machine

/-! ## Receiving (R179 to R183) -/

/-- Change a port's counters. -/
def LinkPort.count (f : LinkCounters → LinkCounters) (q : LinkPort) : LinkPort := { q with counters := f q.counters }

/-- The receiver returns to HUNT, the bytes taken so far discarded (R182). -/
def LinkPort.toHunt (q : LinkPort) : LinkPort := { q with rx := Receiver.hunt }

/-- Port `p` accepts an ADDRESS (R180): port A every one, port B its station address, 0 under broadcast accept, and its group
address while that is not 0. -/
def accepts (p : Port) (station : Nat) (o : LinkOptions) (address : Byte) : Bool :=
  match p with
  | .A => true
  | .B => address.toNat = station || (address.toNat = 0 && o.broadcast) || (address.toNat = o.group && o.group ≠ 0)

/-- A frame of port B accepted under address 0 or its group address is shared (R180). -/
def isShared (p : Port) (station : Nat) (o : LinkOptions) (address : Byte) : Bool :=
  match p with
  | .A => false
  | .B => accepts .B station o address && address.toNat ≠ station

/-- A complete frame goes to the receive buffers (R183): with both full it is dropped and counted, and with overrun-clear the
older buffered frame is dropped and counted too, and LINK OVERRUN posted (log entry 24). -/
def LinkPort.enqueue (f : RxFrame) (q : LinkPort) : LinkPort :=
  if q.buffers.length < Config.receiveBuffers then { q with buffers := q.buffers ++ [f] }
  else
    let q1 := q.count fun c => { c with overrun := saturatingSucc c.overrun }
    if q.options.overrunClear then
      let q2 := { q1 with buffers := q1.buffers.drop 1 }.count fun c => { c with overrun := saturatingSucc c.overrun }
      q2.post (plainNotice .linkOverrun q2.counters.overrun)
    else q1

/-- The frame of a receiver that has taken its check: judged by CRC (R181). -/
def LinkPort.judgeFrame (r : Receiver) (q : LinkPort) : LinkPort :=
  if r.skipping then q.toHunt
  else if crc16 (r.header ++ r.payload) = BitVec.ofNat 16 (natOf r.check) then
    q.toHunt.enqueue { address := r.header.getD 0 0, kind := r.header.getD 1 0, shared := r.shared, payload := r.payload }
  else q.toHunt.count fun c => { c with crc := saturatingSucc c.crc }

/-- The LENGTH of the header taken. -/
def Receiver.length (r : Receiver) : Nat := natOf ((r.header.drop 2).take 2)

/-- The whole header has been taken (R179). -/
def LinkPort.headerDone (r : Receiver) (q : LinkPort) : LinkPort :=
  if !r.skipping && Config.payloadLimit q.options.longFrames < r.length then
    q.toHunt.count fun c => { c with length := saturatingSucc c.length }
  else { q with rx := { r with state := if r.length = 0 then .check else .payload } }

/-- The receiver takes one sound character by its receive state (R179). -/
def LinkPort.takeByte (p : Port) (station : Nat) (b : Byte) (q : LinkPort) : LinkPort :=
  match q.rx.state with
  | .hunt => if b = 0x5A#8 then { q with rx := { Receiver.hunt with state := .sync2 } } else q
  | .sync2 =>
    if b = 0xC3#8 then { q with rx := { Receiver.hunt with state := .header } }
    else if b = 0x5A#8 then q
    else q.toHunt
  | .header =>
    let r := { q.rx with header := q.rx.header ++ [b] }
    if r.header.length = 1 then
      { q with rx := { r with skipping := !accepts p station q.options b, shared := isShared p station q.options b } }
    else if r.header.length < 4 then { q with rx := r }
    else q.headerDone r
  | .payload =>
    let r := { q.rx with taken := q.rx.taken + 1
                         payload := if q.rx.skipping then [] else q.rx.payload ++ [b] }
    if r.taken < r.length then { q with rx := r } else { q with rx := { r with state := .check } }
  | .check =>
    let r := { q.rx with check := q.rx.check ++ [b] }
    if r.check.length < 2 then { q with rx := r } else q.judgeFrame r

/-- A character error (R179, R182): inside a frame it ends the frame and is counted as framing. -/
def LinkPort.charError (q : LinkPort) : LinkPort :=
  match q.rx.state with
  | .hunt => q
  | .sync2 => q.toHunt
  | .header => q.toHunt.count fun c => { c with framing := saturatingSucc c.framing }
  | .payload => q.toHunt.count fun c => { c with framing := saturatingSucc c.framing }
  | .check => q.toHunt.count fun c => { c with framing := saturatingSucc c.framing }

/-- The receiver takes one character. -/
def LinkPort.takeChar (p : Port) (station : Nat) (q : LinkPort) (c : LinkChar) : LinkPort :=
  if charIsError c then q.charError else q.takeByte p station c.data

/-- FRAME RECEIVED (R179 to R183): the characters arrive in their order; none is taken while the line is at space (R186)
(log entry 30). -/
def execFrameReceived (p : Port) (chars : List LinkChar) (s : State) : Host.Outcome State Fault Refusal :=
  .next <| s.modPort p fun q => if q.inBreak then q else chars.foldl (LinkPort.takeChar p s.straps.station) q

/-- A gap of more than 20 character times (R179, R182). -/
def LinkPort.gap (q : LinkPort) : LinkPort :=
  match q.rx.state with
  | .hunt => q
  | .sync2 => q.toHunt
  | .header => q.toHunt.count fun c => { c with gap := saturatingSucc c.gap }
  | .payload => q.toHunt.count fun c => { c with gap := saturatingSucc c.gap }
  | .check => q.toHunt.count fun c => { c with gap := saturatingSucc c.gap }

/-- RECEIVE GAP (R182). -/
def execReceiveGap (p : Port) (s : State) : Host.Outcome State Fault Refusal := .next (s.modPort p LinkPort.gap)

/-! ## Taking and answering frames (R183 to R185) -/

/-- The port may take a frame: it handles no other, no response of its own is in transmission, and no line break is in progress
(R183). -/
def LinkPort.mayTake (q : LinkPort) : Bool := q.handling.isNone && q.responses.isEmpty && !q.inBreak

/-- A shared frame that is acted on (R185), absent where it is not. -/
def sharedEffect (f : RxFrame) (s : State) : Option State :=
  if s.cal.loaded = false ∨ lengthRight f.kind.toNat f.payload = false then .none
  else if f.kind = 0x09#8 then .some (holdAllEffect s)
  else if f.kind = 0x0A#8 then .some (resumeAllEffect s)
  else if f.kind = 0x15#8 then setLampEffect (field f.payload 0 1) (field f.payload 1 1) (field f.payload 2 1) s
  else .none

/-- A shared frame taken for handling: no response, acted on or counted as ignored (R185). -/
def takeShared (p : Port) (f : RxFrame) (s : State) : State :=
  match sharedEffect f s with
  | .some s1 => s1
  | .none => s.modPort p (LinkPort.count fun c => { c with ignored := saturatingSucc c.ignored })

/-- An addressed frame taken for handling (R184): screened for its kind, NOT_READY and its length, then passed to its owner. -/
def takeAddressed (p : Port) (f : RxFrame) (s : State) : State :=
  let src : Source := { port := p, address := f.address.toNat }
  let kind := f.kind.toNat
  if ¬ isRequestKind kind then sendResponse src kind .unknownKind [] s
  else if s.cal.loaded = false ∧ kind ≠ 0x01 then sendResponse src kind .notReady [] s
  else if ¬ lengthRight kind f.payload then sendResponse src kind .badLength [] s
  else s.modPort p fun q => { q with handling := requestOf src kind f.payload }

/-- FRAME TAKEN (R184, R185): a free port takes the frame that has been buffered longest. -/
def execFrameTaken (p : Port) (s : State) : Host.Outcome State Fault Refusal :=
  .next <|
    match (s.port p).buffers with
    | [] => s
    | f :: rest =>
      if (s.port p).mayTake then
        let s1 := s.modPort p fun q => { q with buffers := rest }
        if f.shared then takeShared p f s1 else takeAddressed p f s1
      else s

/-- RESPONSE SENT (R178): the transmission of the port's response ends. -/
def execResponseSent (p : Port) (s : State) : Host.Outcome State Fault Refusal :=
  .next (s.modPort p fun q => { q with responses := q.responses.drop 1 })

/-! ## Line break and port reset (R186) -/

/-- LINE BREAK (R186): the receive line has been at space for 50 ms.  The start of the break is a character error to the
receiver, counted where it falls inside a frame (log entry 23). -/
def execLineBreak (p : Port) (s : State) : Host.Outcome State Fault Refusal :=
  .next (s.modPort p fun q => { q.charError with inBreak := true })

/-- Steps 1 to 3 of a port reset (R177, R186). -/
def LinkPort.restart (p : Port) (q : LinkPort) : LinkPort :=
  { q with
    rx := Receiver.hunt, buffers := [], responses := [], inBreak := false, options := LinkOptions.default p
    notices := [], lost := 0, attention := false }

/-- The claim of the open review is dropped where port `p` holds it (R135, R186 step 5). -/
def dropClaim (p : Port) (s : State) : State :=
  match s.desk.review with
  | .none => s
  | .some r => if r.claimant = .some p then s.setDesk { s.desk with review := .some { r with claimant := .none } } else s

/-- The head lock is freed where port `p` holds it (R20, R186 step 6). -/
def dropLock (p : Port) (s : State) : State := if s.arb.lock = .some p then setLock .none s else s

/-- The six steps of a port reset in their order (R186) (log entry 12). -/
def resetPort (p : Port) (s : State) : State :=
  dropLock p (dropClaim p ((s.modPort p (LinkPort.restart p)).modStore (·.setArmed p true)))

/-- PORT RESET (R186): the line returns to mark after a break; without a break in progress nothing happens. -/
def execPortReset (p : Port) (s : State) : Host.Outcome State Fault Refusal :=
  .next (if (s.port p).inBreak then resetPort p s else s)

/-! ## READ STATE (R188) -/

/-- The ignored counter as READ STATE sends it: 0 on port A (R188). -/
def ignoredSent (p : Port) (c : LinkCounters) : Nat :=
  match p with
  | .A => 0
  | .B => c.ignored

/-- The score of the bank that is BEST or READING, or 0 (R100). -/
def bestScore (c : CaptureUnit) : Nat :=
  if c.bank0.role = .best ∨ c.bank0.role = .reading then orZero c.bank0.score
  else if c.bank1.role = .best ∨ c.bank1.role = .reading then orZero c.bank1.score
  else 0

/-- The 46 bytes of the READ STATE response (R188, 11.8). -/
def stateBytes (p : Port) (s : State) : List Byte :=
  [bytesOf 1 (seqStateCode s.seq.state), bytesOf 1 (portCode s.arb.lock), bytesOf 2 (orZero s.arb.owner),
   bytesOf 1 (flagCode s.arb.deviceHold), bytesOf 1 (flagCode (!doorClosed s)), bytesOf 1 (flagCode (!estopClear s)),
   bytesOf 1 (s.inputs.station.level.getD 0xFF), signedBytes 4 s.force.lastForce, bytesOf 2 s.force.dwellCount,
   bytesOf 2 s.store.records.length, bytesOf 2 s.poolFree, bytesOf 1 s.seq.impressions.length,
   bytesOf 1 (flagCode s.cal.nvBusy), bytesOf 1 (flagCode s.cal.loaded), bytesOf 1 0, bytesOf 2 s.cap.frameErrors,
   bytesOf 2 s.cap.dropped, bytesOf 2 0, bytesOf 4 (bestScore s.cap), bytesOf 2 (s.port p).counters.framing,
   bytesOf 2 (s.port p).counters.gap, bytesOf 2 (s.port p).counters.length, bytesOf 2 (s.port p).counters.crc,
   bytesOf 2 (s.port p).counters.overrun, bytesOf 2 (ignoredSent p (s.port p).counters),
   bytesOf 2 (s.port p).lost].flatten

/-- READ STATE answered by the port (R188). -/
def decideReadState (src : Source) (s : State) : Answer :=
  { state := s, status := .accepted, body := stateBytes src.port s }

/-- READ STATE (R188). -/
def execReadState (src : Source) (s : State) : Host.Outcome State Fault Refusal :=
  .next (serve (.readState src) src (decideReadState src) s)

/-! ## READ NOTICES (R191) -/

/-- The port's queue after READ NOTICES: the entries returned are removed, the lost count is 0, and the attention line is
released with the last entry (R190, R191). -/
def LinkPort.popNotices (q : LinkPort) : LinkPort :=
  { q with notices := q.notices.drop Config.noticesPerRead, lost := 0
           attention := q.attention && !(q.notices.drop Config.noticesPerRead).isEmpty }

/-- READ NOTICES answered by the port (R191). -/
def decideReadNotices (src : Source) (s : State) : Answer :=
  let q := s.port src.port
  let out := q.notices.take Config.noticesPerRead
  { state := s.modPort src.port LinkPort.popNotices, status := .accepted
    body := bytesOf 1 out.length ++ bytesOf 2 q.lost ++ out.flatMap noticeBytes }

/-- READ NOTICES (R191). -/
def execReadNotices (src : Source) (s : State) : Host.Outcome State Fault Refusal :=
  .next (serve (.readNotices src) src (decideReadNotices src) s)

/-! ## SET LINK (R187) -/

/-- The options after SET LINK, absent where a setting is refused; on port A broadcast accept and group address must be
UNCHANGED (R187). -/
def linkOptionsAfter (p : Port) (r : SetLinkReq) (o : LinkOptions) : Option LinkOptions :=
  match onOffSetting r.longFrames, onOffSetting r.broadcast, groupSetting r.group, onOffSetting r.overrunClear with
  | .some lf, .some bc, .some gr, .some oc =>
    if p = .A ∧ (bc.isSome ∨ gr.isSome) then .none
    else .some { longFrames := lf.getD o.longFrames, broadcast := bc.getD o.broadcast, group := gr.getD o.group
                 overrunClear := oc.getD o.overrunClear }
  | _, _, _, _ => .none

/-- The options in the SET LINK response; on port A broadcast accept and group address are sent as 0 (11.8). -/
def linkOptionsBytes (p : Port) (o : LinkOptions) : List Byte :=
  match p with
  | .A => bytesOf 1 (onOffCode o.longFrames) ++ bytesOf 1 0 ++ bytesOf 1 0 ++ bytesOf 1 (onOffCode o.overrunClear)
  | .B => bytesOf 1 (onOffCode o.longFrames) ++ bytesOf 1 (onOffCode o.broadcast) ++ bytesOf 1 o.group
            ++ bytesOf 1 (onOffCode o.overrunClear)

/-- SET LINK decided by the port (R187). -/
def decideSetLink (src : Source) (r : SetLinkReq) (s : State) : Answer :=
  match linkOptionsAfter src.port r (s.port src.port).options, clearSetting r.clearCounters with
  | .some o, .some clr =>
    { state := s.modPort src.port fun q =>
        { q with options := o, counters := if clr then LinkCounters.zero else q.counters }
      status := .accepted, body := linkOptionsBytes src.port o }
  | _, _ => Answer.refuse .badValue s

/-- SET LINK (R187). -/
def execSetLink (src : Source) (r : SetLinkReq) (s : State) : Host.Outcome State Fault Refusal :=
  .next (serve (.setLink src r) src (decideSetLink src r) s)

end Sys2Proof.Machine
end

