-- ==== Sys2Proof/Machine/Results.lean ====
section
/-!
DEFINITION. The requests of the result store and of the review desk: READ RESULTS (R142), RELEASE RESULTS (R143), CLAIM REVIEW
(R127), ENTER DIAGONALS (R128, R129), REJECT IMPRESSION (R130), and the expiry of the review window (R126).
-/

namespace Sys2Proof.Machine

/-! ## READ RESULTS and RELEASE RESULTS -/

/-- How many records a READ RESULTS may return: a max n of 0, or above the record limit, is read as the limit (R142). -/
def readLimit (longFrames : Bool) (maxN : Nat) : Nat :=
  if maxN = 0 ∨ Config.recordLimit longFrames < maxN then Config.recordLimit longFrames else maxN

/-- The records a READ RESULTS returns (R142). -/
def readRecords (longFrames : Bool) (first maxN : Nat) (records : List Record) : List Record :=
  (records.filter fun r => decide (first ≤ r.seq)).take (readLimit longFrames maxN)

/-- The next-from value (R142). -/
def nextFrom (first nextSeq : Nat) (out : List Record) : Nat :=
  match out.getLast? with
  | .some r => r.seq + 1
  | .none => max first nextSeq

/-- READ RESULTS decided by the result store (R142). -/
def decideReadResults (src : Source) (first maxN : Nat) (s : State) : Answer :=
  let out := readRecords (s.port src.port).options.longFrames first maxN s.store.records
  let nxt := nextFrom first s.store.nextSeq out
  { state := s, status := .accepted
    body := bytesOf 1 out.length ++ bytesOf 4 nxt ++ bytesOf 1 (flagCode (s.store.records.any fun r => decide (nxt ≤ r.seq)))
      ++ out.flatMap recordBytes }

/-- READ RESULTS (R142). -/
def execReadResults (src : Source) (first maxN : Nat) (s : State) : Host.Outcome State Fault Refusal :=
  .next (serve (.readResults src first maxN) src (decideReadResults src first maxN) s)

/-- A record that RELEASE RESULTS removes (R143). -/
def released (p : Port) (through : Nat) (r : Record) : Bool :=
  r.origin = p && decide (r.seq ≤ through) && r.state ≠ .review

/-- The store after a release: the records removed, the port's waiting count lowered by their number, its flag set (R143,
R145). -/
def releaseFrom (p : Port) (through : Nat) (t : ResultStore) : ResultStore :=
  (({ t with records := t.records.filter fun r => !released p through r }).setWaiting p
    (t.waiting p - t.records.countP (released p through))).setArmed p true

/-- RELEASE RESULTS decided by the result store (R143); freed room wakes STORE_WAIT (R36, R63). -/
def decideReleaseResults (src : Source) (through : Nat) (s : State) : Answer :=
  let n := s.store.records.countP (released src.port through)
  let s1 := s.modStore (releaseFrom src.port through)
  { state := if n ≠ 0 ∧ s.seq.state = .storeWait then boundary s1 else s1
    status := .accepted
    body := bytesOf 2 n ++ bytesOf 2 (s1.store.waiting src.port) ++ bytesOf 2 s1.store.records.length }

/-- RELEASE RESULTS (R143). -/
def execReleaseResults (src : Source) (through : Nat) (s : State) : Host.Outcome State Fault Refusal :=
  .next (serve (.releaseResults src through) src (decideReleaseResults src through) s)

/-! ## The review desk -/

/-- The open review of a seq (R127, R128). -/
def reviewOf (seq : Nat) (s : State) : Option Review := s.desk.review.filter (·.seq = seq)

/-- CLAIM REVIEW decided by the review desk (R127). -/
def decideClaim (src : Source) (seq : Nat) (s : State) : Answer :=
  match reviewOf seq s with
  | .none => Answer.refuse .closed s
  | .some r =>
    match r.claimant with
    | .none => Answer.accept (s.setDesk { s.desk with review := .some { r with claimant := .some src.port } })
    | .some p => if p = src.port then Answer.accept s else Answer.refuse .taken s

/-- CLAIM REVIEW (R127). -/
def execClaimReview (src : Source) (seq : Nat) (s : State) : Host.Outcome State Fault Refusal :=
  .next (serve (.claimReview src seq) src (decideClaim src seq) s)

/-- Step 5 of a close that is a boundary (R131): the sequencer leaves REVIEW_WAIT through the boundary steps. -/
def afterClose (s : State) : State := if s.seq.state = .reviewWait then boundary s else s

/-- Steps 1 to 3 of R128: absent where the claimant asks. -/
def claimCheck (src : Source) (seq : Nat) (s : State) : Option Status :=
  match reviewOf seq s with
  | .none => .some .closed
  | .some r =>
    match r.claimant with
    | .none => .some .badState
    | .some p => if p = src.port then .none else .some .taken

/-- The record of a review that closes MANUAL on an entered pair (R129). -/
def manualRecord (o : Order) (d1 d2 : Nat) (x : Record) : Record :=
  let e := evaluatePair o.method (nominalForce o.forceCode) o.asymmetry o.lower o.upper d1 d2
  { x with
    state := .manual, d1 := .some d1, d2 := .some d2, hardness := .some e.hardness, verdict := e.verdict
    flags := { x.flags with asymmetric := e.asymmetric, aspect := e.aspect, overrange := e.overrange } }

/-- A diagonal in range (R128 step 4). -/
def diagonalInRange (d : Nat) : Bool := 1 ≤ d && d ≤ Config.diagonalMax

/-- ENTER DIAGONALS decided by the review desk (R128, R129, R131). -/
def decideEnter (src : Source) (seq d1 d2 : Nat) (s : State) : Answer :=
  match claimCheck src seq s with
  | .some st => Answer.refuse st s
  | .none =>
    if ¬ (diagonalInRange d1 ∧ diagonalInRange d2) then Answer.refuse .badValue s
    else
      match ownerOf s with
      | .none => Answer.accept s
      | .some o => Answer.accept (afterClose (closeReview .manual (manualRecord o d1 d2) s))

/-- ENTER DIAGONALS (R129). -/
def execEnterDiagonals (src : Source) (seq d1 d2 : Nat) (s : State) : Host.Outcome State Fault Refusal :=
  .next (serve (.enterDiagonals src seq d1 d2) src (decideEnter src seq d1 d2) s)

/-- REJECT IMPRESSION decided by the review desk (R128, R130, R131). -/
def decideReject (src : Source) (seq : Nat) (s : State) : Answer :=
  match claimCheck src seq s with
  | .some st => Answer.refuse st s
  | .none => Answer.accept (afterClose (closeReview .rejected (Record.unmeasured .rejected) s))

/-- REJECT IMPRESSION (R130). -/
def execRejectImpression (src : Source) (seq : Nat) (s : State) : Host.Outcome State Fault Refusal :=
  .next (serve (.rejectImpression src seq) src (decideReject src seq) s)

/-- WINDOW TIMER EXPIRY (R126): only the window timer of an open review can expire. -/
def execWindowTimerExpiry (s : State) : Host.Outcome State Fault Refusal :=
  .next <|
    match s.desk.window, s.desk.review with
    | .some _, .some _ => afterClose (closeReview .expired (Record.unmeasured .reviewExpired) s)
    | _, _ => s

end Sys2Proof.Machine
end

