-- ==== Sys2Proof/Machine/Calibration.lean ====
section
/-!
DEFINITION. Cold reset (00_scope.md 3.5), the calibration table's start-up load (R157, R158), READ CALIBRATION (R159), WRITE
CALIBRATION (R160 to R162) and the commit (R163).
-/

namespace Sys2Proof.Machine

/-! ## Cold reset and the start-up load -/

/-- COLD RESET (3.5, R157): every block starts from its initial state and the load begins.  The nonvolatile copy survives, the
lines that drive the part keep their levels, and the commands that wait outside the part still wait. -/
def execColdReset (pins : ResetPins) (s : State) : Host.Outcome State Fault Refusal :=
  .next { State.afterColdReset pins s.cal.nv s.pins.actRaised s.pins.frameHigh s.pins.lineHigh with pending := s.pending }

/-- The active slot of a record (R156). -/
def NvRecord.activeSlot (r : NvRecord) : NvSlot := if r.active1 then r.slot1 else r.slot0

/-- The nonvolatile record of a number. -/
def nvRecord (rec : Nat) (t : CalTable) : NvRecord := t.nv.getD rec NvRecord.blank

/-- The active slot of a record reads back and passes its check (R156, R157); `unreadable` lists the records whose active slot
does not read back as it was stored. -/
def loadPasses (unreadable : List Nat) (t : CalTable) (rec : Nat) : Bool :=
  !unreadable.contains rec && slotPasses rec (nvRecord rec t).activeSlot

/-- The working values of a station record as the load leaves them (R157, R158). -/
def loadStation (unreadable : List Nat) (t : CalTable) (rec : Nat) : Station :=
  if loadPasses unreadable t rec then stationOf (nvRecord rec t).activeSlot.fields else Station.substitute

/-- The gain as the load leaves it (R157, R158). -/
def loadGain (unreadable : List Nat) (t : CalTable) : Nat :=
  if loadPasses unreadable t 6 then (nvRecord 6 t).activeSlot.fields.gain else 1

/-- The condition of a record as the load finds it (R157). -/
def loadCondition (unreadable : List Nat) (t : CalTable) (rec : Nat) : Condition :=
  if loadPasses unreadable t rec then .sound else .loadFault

/-- The table as the load completes: the working copy and the conditions filled in record order, the loaded flag set (R157). -/
def loadTable (unreadable : List Nat) (t : CalTable) : CalTable :=
  { t with
    stations := (List.range 6).map (loadStation unreadable t)
    gain := loadGain unreadable t
    conditions := (List.range 7).map (loadCondition unreadable t)
    loaded := true }

/-- CAL FAULT to both ports (R157, R163). -/
def postCalFault (rec : Nat) (commit : Bool) (s : State) : State :=
  postBoth (plainNotice .calFault (calFaultValue rec commit)) s

/-- CAL FAULT, cause LOAD, for each of the listed records in LOAD_FAULT, in their order (R157). -/
def postLoadFaults : List Nat → State → State
  | [], s => s
  | rec :: rest, s => postLoadFaults rest (if conditionOf rec s = .loadFault then postCalFault rec false s else s)

/-- START-UP LOAD COMPLETE (R157): only a load in progress can complete. -/
def execStartupLoadComplete (unreadable : List Nat) (s : State) : Host.Outcome State Fault Refusal :=
  .next (if s.cal.loaded then s else postLoadFaults (List.range 7) (s.modCal (loadTable unreadable)))

/-! ## The commit -/

/-- The inactive slot as it reads back at the end of a commit (R163). -/
def committedSlot (c : Commit) : ReadBack → NvSlot
  | .asWritten => slotFor c.record c.fields
  | .differs slot => slot

/-- Store a slot in the inactive half of a nonvolatile record, and mark it active where it passes (R156, R163). -/
def NvRecord.commit (n : NvSlot) (passes : Bool) (r : NvRecord) : NvRecord :=
  if r.active1 then { r with slot0 := n, active1 := !passes } else { r with slot1 := n, active1 := passes }

/-- The table at the end of a commit, steps 1 included (R163): NV busy and the commit in progress clear, and on failure the
record in COMMIT_FAULT. -/
def commitTable (c : Commit) (n : NvSlot) (t : CalTable) : CalTable :=
  { t with
    nv := t.nv.set c.record ((nvRecord c.record t).commit n (slotPasses c.record n))
    conditions := if slotPasses c.record n then t.conditions else t.conditions.set c.record .commitFault
    nvBusy := false, commit := .none }

/-- COMMIT COMPLETE (R163): only a commit in progress can complete. -/
def execCommitComplete (readBack : ReadBack) (s : State) : Host.Outcome State Fault Refusal :=
  .next <|
    match s.cal.commit with
    | .none => s
    | .some c =>
      let failed := !slotPasses c.record (committedSlot c readBack)
      let s1 := s.modCal (commitTable c (committedSlot c readBack))
      let s2 := postTo c.writer (plainNotice .calWritten (calWrittenValue c.record failed c.generation)) s1
      if failed then postCalFault c.record true s2 else s2

/-! ## READ CALIBRATION -/

/-- The working values of a record as fields (R159, R194). -/
def workingFields (rec : Nat) (s : State) : CalFields :=
  if rec = 6 then { CalFields.zero with gain := s.cal.gain } else stationFields (stationRecord rec s)

/-- READ CALIBRATION decided by the calibration table (R159). -/
def decideReadCalibration (rec : Nat) (s : State) : Answer :=
  if 6 < rec then Answer.refuse .badValue s
  else
    { state := s, status := .accepted
      body := bytesOf 1 rec ++ calFieldsBytes (workingFields rec s) ++ bytesOf 1 (conditionCode (conditionOf rec s))
        ++ bytesOf 2 s.cal.generation ++ bytesOf 1 (flagCode s.cal.nvBusy) }

/-- READ CALIBRATION (R159). -/
def execReadCalibration (src : Source) (rec : Nat) (s : State) : Host.Outcome State Fault Refusal :=
  .next (serve (.readCalibration src rec) src (decideReadCalibration rec) s)

/-! ## WRITE CALIBRATION -/

/-- An order that is not ENDED names the station (R160 step 3). -/
def stationInUse (rec : Nat) (s : State) : Bool :=
  s.table.orders.any fun o => o.status ≠ .ended && (o.indenter = rec || o.objective = rec)

/-- The checks of R160 in their order; absent where the request is accepted. -/
def writeCalibrationCheck (rec : Nat) (f : CalFields) (s : State) : Option Status :=
  if 6 < rec then .some .badValue
  else if s.cal.nvBusy then .some .busy
  else if rec ≠ 6 ∧ stationInUse rec s then .some .inUse
  else if rec = 6 ∧ s.arb.owner.isSome then .some .inUse
  else if ¬ calFieldsInRange rec f then .some .badValue
  else .none

/-- The generation number after a write (R162). -/
def nextGeneration (n : Nat) : Nat := if n < Config.generationMax then n + 1 else 1

/-- The working values replaced (R162 step 1). -/
def replaceRecord (rec : Nat) (f : CalFields) (t : CalTable) : CalTable :=
  if rec = 6 then { t with gain := f.gain } else { t with stations := t.stations.set rec (stationOf f) }

/-- Steps 1 to 5 of an accepted write (R162). -/
def writeTable (rec : Nat) (f : CalFields) (writer : Port) (t : CalTable) : CalTable :=
  { replaceRecord rec f t with
    generation := nextGeneration t.generation
    conditions := t.conditions.set rec .sound
    nvBusy := true
    commit := .some { record := rec, writer := writer, generation := nextGeneration t.generation
                      fields := calFieldsOwn rec f } }

/-- WRITE CALIBRATION decided by the calibration table (R160 to R162); the end of the force record's LOAD_FAULT lets a grant
be considered. -/
def decideWriteCalibration (src : Source) (rec : Nat) (f : CalFields) (s : State) : Answer :=
  match writeCalibrationCheck rec f s with
  | .some st => Answer.refuse st s
  | .none =>
    let s1 := s.modCal (writeTable rec f src.port)
    { state := if rec = 6 ∧ conditionOf 6 s = .loadFault then grant s1 else s1
      status := .accepted
      body := bytesOf 2 (nextGeneration s.cal.generation) }

/-- WRITE CALIBRATION (R160). -/
def execWriteCalibration (src : Source) (rec : Nat) (f : CalFields) (s : State) : Host.Outcome State Fault Refusal :=
  .next (serve (.writeCalibration src rec f) src (decideWriteCalibration src rec f) s)

end Sys2Proof.Machine
end

