-- ==== Sys2Proof/Machine/Interlocks.lean ====
section
/-!
DEFINITION. The interlock inputs and the lamps: a change of the lines and the expiry of a stability timer (R166, R167), what an
accepted change of the door (R169, R170), the e-stop (R171) and the station code (R51, R173) leads to, SET INPUTS (R168), SET
LAMP (R176) and the lamp timebase (R174).
-/

namespace Sys2Proof.Machine

/-! ## Changes of the lines -/

/-- An input judges its raw level at a change of its lines (R167). -/
def Debounced.judge {α : Type} [DecidableEq α] (raw : α) (d : Debounced α) : Debounced α :=
  if d.level = .some raw then { d with candidate := .none, timer := .none }
  else if d.candidate = .some raw then d
  else { d with candidate := .some raw, timer := .some d.time }

/-- INPUT CHANGE (R167). -/
def execInputChange (c : LineChange) (s : State) : Host.Outcome State Fault Refusal :=
  .next <|
    match c with
    | .door high => s.modInputs fun i => { i with door := i.door.judge (DoorLevel.ofLine high) }
    | .estop high => s.modInputs fun i => { i with estop := i.estop.judge (EstopLevel.ofLine high) }
    | .station code => s.modInputs fun i => { i with station := i.station.judge code }

/-- The candidate becomes the debounced level and the timer stops (R167). -/
def Debounced.accept {α : Type} (d : Debounced α) : Debounced α :=
  { d with level := d.candidate, candidate := .none, timer := .none }

/-- The level a running stability timer's expiry accepts, absent where no timer runs. -/
def Debounced.due {α : Type} (d : Debounced α) : Option α :=
  match d.timer with
  | .none => .none
  | .some _ => d.candidate

/-- The events of an INTERLOCK notice (R172). -/
inductive InterlockEvent where
  | doorOpened
  | doorClosed
  | estopAsserted
  | estopCleared
deriving DecidableEq, Repr

/-- The value of an INTERLOCK notice (R172). -/
def interlockValue : InterlockEvent → Nat
  | .doorOpened => 1
  | .doorClosed => 2
  | .estopAsserted => 3
  | .estopCleared => 4

/-- INTERLOCK to both ports, naming the head owner or 0 (R172). -/
def postInterlock (e : InterlockEvent) (s : State) : State :=
  match ownerOf s with
  | .some o => postBoth (orderNotice .interlock o 0 (interlockValue e)) s
  | .none => postBoth (plainNotice .interlock (interlockValue e)) s

/-! ## The door -/

/-- The head owner gains INTERLOCK where it lacks it, and is HELD (R169 step 3). -/
def gainInterlock (s : State) : State :=
  match ownerOf s with
  | .none => s
  | .some o => updOrder o.id (fun o => { o with holds := { o.holds with interlock := true }, status := .held }) s

/-- The sequencer begins an interlock stop (R62): the stop flag is set, the work of its state stopped, and the retract timer
started. -/
def beginStop (s : State) : State :=
  ((stopMoveTimers (stopStage s)).modSeq fun q => { q with stopFlag := true }).modTimers
    fun t => { t with approach := .none, retract := .some Config.retractMs }

/-- The current point is marked INTERRUPTED and the sequencer enters UNLOAD (R55). -/
def interruptPoint (s : State) : State :=
  enterUnload (s.modSeq fun q => { q with cur := q.cur.map fun c => { c with mark := .some .interrupted } })

/-- The sequencer acts on a door opening by its state (R169); during an interlock stop the stop goes on (R62). -/
def doorAction (s : State) : State :=
  if s.seq.stopFlag then s
  else
    match s.seq.state with
    | .idle => s
    | .awaitPoints => pauseWaiting s
    | .storeWait => pauseWaiting s
    | .moveIndent => beginStop s
    | .tare => beginStop s
    | .approach => beginStop s
    | .ramp => interruptPoint s
    | .dwell => interruptPoint s
    | .unload => s
    | .moveView => beginStop s
    | .settle => beginStop (stopView s)
    | .focus => beginStop (stopView s)
    | .measure => beginStop (stopView s)
    | .reviewWait => s
    | .retract => s
    | .paused => s

/-- The door's debounced level changes to OPEN (R169). -/
def doorOpened (s : State) : State := doorAction (gainInterlock (postInterlock .doorOpened s))

/-- The door's debounced level changes to CLOSED (R170). -/
def doorShut (s : State) : State := grant (postInterlock .doorClosed s)

/-! ## The e-stop -/

/-- The e-stop's debounced level changes to ASSERTED (R171): the head owner takes the abort path, but for a retract that already
aborts. -/
def estopPressed (s : State) : State :=
  if abortingRetract s then postInterlock .estopAsserted s else abortPath .estop false (postInterlock .estopAsserted s)

/-- The e-stop's debounced level changes to CLEAR (R171). -/
def estopFreed (s : State) : State := grant (postInterlock .estopCleared s)

/-! ## An accepted level -/

/-- The first level after cold reset is accepted without notice or effect, but counts for the grant rule (R166). -/
def afterDoor (was : Option DoorLevel) (now : DoorLevel) (s : State) : State :=
  match was, now with
  | .none, .isOpen => s
  | .none, .isClosed => grant s
  | .some _, .isOpen => doorOpened s
  | .some _, .isClosed => doorShut s

/-- The same for the e-stop (R166, R171). -/
def afterEstop (was : Option EstopLevel) (now : EstopLevel) (s : State) : State :=
  match was, now with
  | .none, .asserted => s
  | .none, .clear => grant s
  | .some _, .asserted => estopPressed s
  | .some _, .clear => estopFreed s

/-- STABILITY TIMER EXPIRY (R167): only a running timer can expire. -/
def execStabilityTimerExpiry (i : InputName) (s : State) : Host.Outcome State Fault Refusal :=
  .next <|
    match i with
    | .door =>
      match s.inputs.door.due with
      | .none => s
      | .some now => afterDoor s.inputs.door.level now (s.modInputs fun i => { i with door := i.door.accept })
    | .estop =>
      match s.inputs.estop.due with
      | .none => s
      | .some now => afterEstop s.inputs.estop.level now (s.modInputs fun i => { i with estop := i.estop.accept })
    | .station =>
      match s.inputs.station.due with
      | .none => s
      | .some _ => judgeTurret (s.modInputs fun i => { i with station := i.station.accept })

/-! ## SET INPUTS -/

/-- The inputs after SET INPUTS, absent where a setting is refused (R168). -/
def inputsAfter (door estop station : Nat) (i : Inputs) : Option Inputs :=
  match debounceSetting door, debounceSetting estop, debounceSetting station with
  | .some d, .some e, .some c =>
    .some
      { door := { i.door with time := d.getD i.door.time }
        estop := { i.estop with time := e.getD i.estop.time }
        station := { i.station with time := c.getD i.station.time } }
  | _, _, _ => .none

/-- SET INPUTS decided by the interlock inputs (R168). -/
def decideSetInputs (door estop station : Nat) (s : State) : Answer :=
  match inputsAfter door estop station s.inputs with
  | .none => Answer.refuse .badValue s
  | .some i =>
    { state := s.modInputs fun _ => i, status := .accepted
      body := bytesOf 1 i.door.time ++ bytesOf 1 i.estop.time ++ bytesOf 1 i.station.time }

/-- SET INPUTS (R168). -/
def execSetInputs (src : Source) (door estop station : Nat) (s : State) : Host.Outcome State Fault Refusal :=
  .next (serve (.setInputs src door estop station) src (decideSetInputs door estop station) s)

/-! ## Lamps -/

/-- SET LAMP decided by the lamp drivers (R176). -/
def decideSetLamp (green amber red : Nat) (s : State) : Answer :=
  match setLampEffect green amber red s with
  | .none => Answer.refuse .badValue s
  | .some s1 =>
    { state := s1, status := .accepted
      body := bytesOf 1 (lampCode s1.lamps.green) ++ bytesOf 1 (lampCode s1.lamps.amber)
        ++ bytesOf 1 (lampCode s1.lamps.red) }

/-- SET LAMP addressed to the part alone (R176). -/
def execSetLamp (src : Source) (green amber red : Nat) (s : State) : Host.Outcome State Fault Refusal :=
  .next (serve (.setLamp src green amber red) src (decideSetLamp green amber red) s)

/-- LAMP TIMEBASE TICK (R174): the timebase moves on by 125 ms, the FAST half period, eight of which make one SLOW period
(DEDUCED, log entry 5). -/
def execLampTimebaseTick (s : State) : Host.Outcome State Fault Refusal :=
  .next (s.modLamps fun l => { l with phase := (l.phase + 1) % 8 })

end Sys2Proof.Machine
end

