-- ==== Sys2Proof/Machine/Cycle.lean ====
section
/-!
DEFINITION. The events of the indent cycle: the stage and turret reports and their timers (R50 to R52), the load samples (R68 to
R82), ACT_RAISED (R56, R61, R62), and the approach, unload and retract timers (R54, R56, R61, R62).
-/

namespace Sys2Proof.Machine

/-! ## Stage and turret -/

/-- No stage move is outstanding any more. -/
def stageDone (s : State) : State := s.modSeq fun q => { q with stageOutstanding := false }

/-- No turret index is outstanding any more. -/
def turretDone (s : State) : State := s.modSeq fun q => { q with turretOutstanding := false }

/-- STG_DONE (R50): ends the stage part of a move phase and stops the stage timer; elsewhere it may complete a retract or an
interlock stop (log entry 9). -/
def execStgDone (s : State) : Host.Outcome State Fault Refusal :=
  .next <|
    if !s.seq.stageOutstanding then s
    else if inMove s then
      judgeMove ((stageDone s).modSeq fun q => { q with stagePart := true, timers := { q.timers with stage := .none } })
    else judgeRest true (stageDone s)

/-- STG_FAULT (R50): on an outstanding stage move the order aborts, but for a retract that already aborts. -/
def execStgFault (s : State) : Host.Outcome State Fault Refusal :=
  .next <|
    if !s.seq.stageOutstanding then s
    else if abortingRetract s then stageDone s
    else abortPath .motionFault false (stageDone s)

/-- TUR_DONE (R51): the turret part of a move phase is done where the station code reads the requested station; elsewhere it may
complete a retract or an interlock stop. -/
def execTurDone (s : State) : Host.Outcome State Fault Refusal :=
  .next <|
    if !s.seq.turretOutstanding then s
    else if inMove s then judgeTurret (turretDone s)
    else judgeRest true (turretDone s)

/-- STAGE TIMER EXPIRY (R50): the faulted move is no longer outstanding. -/
def execStageTimerExpiry (s : State) : Host.Outcome State Fault Refusal :=
  .next <|
    match s.seq.timers.stage with
    | .none => s
    | .some _ => abortPath .motionFault false (stageDone s)

/-- TURRET TIMER EXPIRY (R51). -/
def execTurretTimerExpiry (s : State) : Host.Outcome State Fault Refusal :=
  .next <|
    match s.seq.timers.turret with
    | .none => s
    | .some _ => abortPath .turretFault false s

/-! ## Load samples -/

/-- The last force sample that a raw count gives: mN by the gain (R68), or counts above tare where no gain is in use (R69, R158)
(log entry 31). -/
def sampleForce (count tare : Int) : Option Nat → Int
  | .some gain => roundAway ((count - tare) * gain) 1000
  | .none => count - tare

/-- A sample of TARE joins the accumulator; the sixteenth sets the tare (R71). -/
def tareSample (count : Int) (s : State) : State :=
  let f := s.force
  if f.tareCount + 1 < Config.tareSamples then
    s.modForce fun f => { f with tareSum := f.tareSum + count, tareCount := f.tareCount + 1 }
  else
    enterApproach <| s.modForce fun f =>
      { f with tareSum := f.tareSum + count, tareCount := f.tareCount + 1
               tare := (f.tareSum + count) / (Config.tareSamples : Int) }

/-- RAMP begins (R74). -/
def enterRamp (contact : Nat) (s : State) : State :=
  (enterState .ramp s).modForce fun f =>
    { f with rampStep := 0, setPoint := contact, dwellCount := 0, outOfBand := 0, peak := 0, deviation := false }

/-- Contact (R54, R72): the approach timer stops, the point is an impression, and RAMP begins. -/
def contactMade (o : Order) (s : State) : State :=
  match s.seq.cur with
  | .none => s
  | .some c =>
    let s1 := s.modSeq fun q =>
      { q with cur := .some { c with indented := true }, timers := { q.timers with approach := .none } }
    enterRamp (contactThreshold o.forceCode) (updOrder o.id (fun o => { o with lastIndent := .some (c.x, c.y) }) s1)

/-- A sample of APPROACH (R72). -/
def approachSample (o : Order) (s : State) : State :=
  if (contactThreshold o.forceCode : Int) ≤ s.force.lastForce then contactMade o s else s

/-- Peak force and deviation (R76). -/
def ForceMonitor.notePeak (code : Nat) (f : ForceMonitor) : ForceMonitor :=
  { f with
    peak := if f.peak < f.lastForce then f.lastForce else f.peak
    deviation := f.deviation || decide ((nominalForce code + forceBand code : Nat) < f.lastForce) }

/-- The ramp samples of an order, Nr (R74). -/
def rampSamples (o : Order) : Nat := o.ramp * 100

/-- The set-point at a ramp step (R74). -/
def rampSetPoint (code nr k : Nat) : Nat :=
  contactThreshold code + (nominalForce code - contactThreshold code) * k / nr

/-- A sample of RAMP (R74, R76): at the last step DWELL begins, the set-point at the nominal force (R75). -/
def rampSample (o : Order) (s : State) : State :=
  let k := s.force.rampStep + 1
  let s1 := s.modForce fun f =>
    ForceMonitor.notePeak o.forceCode
      { f with rampStep := k, setPoint := rampSetPoint o.forceCode (rampSamples o) k }
  if k < rampSamples o then s1
  else (enterState .dwell s1).modForce fun f => { f with setPoint := nominalForce o.forceCode }

/-- The dwell target of an order (R75). -/
def dwellTarget (o : Order) : Nat := o.dwell * 100

/-- Force-lost (R78): the point is marked and UNLOAD begins. -/
def forceLost (s : State) : State :=
  enterUnload (s.modSeq fun q => { q with cur := q.cur.map fun c => { c with mark := .some .forceLost } })

/-- The force lies in the band of a code (R70). -/
def inBand (code : Nat) (force : Int) : Bool :=
  (nominalForce code : Int) - forceBand code ≤ force && force ≤ (nominalForce code : Int) + forceBand code

/-- The dwell gate (R77 to R79). -/
def dwellGate (o : Order) (s : State) : State :=
  if s.force.lastForce < forceLostLevel o.forceCode then
    forceLost (s.modForce fun f => { f with outOfBand := f.outOfBand + 1 })
  else if inBand o.forceCode s.force.lastForce then
    let s1 := s.modForce fun f => { f with dwellCount := f.dwellCount + 1 }
    if s1.force.dwellCount = dwellTarget o then enterUnload s1 else s1
  else
    let s1 := s.modForce fun f => { f with outOfBand := f.outOfBand + 1 }
    if s1.force.outOfBand = Config.outOfBandLimit then forceLost s1 else s1

/-- A sample of DWELL (R76, R77). -/
def dwellSample (o : Order) (s : State) : State := dwellGate o (s.modForce (ForceMonitor.notePeak o.forceCode))

/-- A sample judged by the sequencer state in which it arrived (R68). -/
def judgeSample (count : Int) (s : State) : State :=
  if s.seq.stopFlag then judgeRest false s
  else
    match s.seq.state, ownerOf s with
    | .tare, .some _ => tareSample count s
    | .approach, .some o => approachSample o s
    | .ramp, .some o => rampSample o s
    | .dwell, .some o => dwellSample o s
    | .unload, .some _ => judgeRest false s
    | .retract, .some _ => judgeRest false s
    | _, _ => s

/-- The set-point in force is sent on FORCE_SET (R68). -/
def sendSetPoint (s : State) : State := s.modPins fun p => { p with forceSet := s.force.setPoint }

/-- LOAD SAMPLE (R68). -/
def execLoadSample (count : Int) (s : State) : Host.Outcome State Fault Refusal :=
  .next (sendSetPoint (judgeSample count
    (s.modForce fun f => { f with lastForce := sampleForce count f.tare (gainInUse s) })))

/-! ## The actuator and its timers -/

/-- ACT_RAISED (R56, R61, R62): a change of the line may complete an unload, a retract or an interlock stop. -/
def execActRaised (level : Bool) (s : State) : Host.Outcome State Fault Refusal :=
  .next (if s.pins.actRaised = level then s else judgeRest false (s.modPins fun p => { p with actRaised := level }))

/-- APPROACH TIMER EXPIRY (R54): only the timer of an approach in progress can expire. -/
def execApproachTimerExpiry (s : State) : Host.Outcome State Fault Refusal :=
  .next <|
    match s.seq.timers.approach with
    | .none => s
    | .some _ =>
      if s.seq.state = .approach ∧ s.seq.stopFlag = false then
        enterRetract .noContact (s.modTimers fun t => { t with approach := .none })
      else s

/-- UNLOAD TIMER EXPIRY (R56): the abort path, the retract time counted as spent. -/
def execUnloadTimerExpiry (s : State) : Host.Outcome State Fault Refusal :=
  .next <|
    match s.seq.timers.unload with
    | .none => s
    | .some _ => abortPath .motionFault true s

/-- The reason on which an expired retract aborts (R61, R62). -/
def retractFault (s : State) : AbortReason := if s.seq.turretOutstanding then .turretFault else .motionFault

/-- The abort reason that a RETRACT with purpose ABORT holds (R66). -/
def abortReasonHeld (s : State) : Option AbortReason :=
  match s.seq.state, s.seq.purpose with
  | .retract, .some (.abort why) => .some why
  | _, _ => .none

/-- RETRACT TIMER EXPIRY (R61, R62): a retract that aborts goes on to the abort records, any other retract and an interlock stop
take the abort path with the retract time spent. -/
def execRetractTimerExpiry (s : State) : Host.Outcome State Fault Refusal :=
  .next <|
    match s.seq.timers.retract with
    | .none => s
    | .some _ =>
      match abortReasonHeld s with
      | .some why => abortRecords why s
      | .none => abortPath (retractFault s) true s

end Sys2Proof.Machine
end

