-- ==== Sys2Proof/Machine/Imaging.lean ====
section
/-!
DEFINITION. The events of the camera port and of the measurement: frame starts (R87), lines and pixels (R86, R88, R89), frame
completions (R89, R91, R92), scores (R92 to R95), the frame timer (R96), and the measurement's report (R97, R101, R102).
-/

namespace Sys2Proof.Machine

/-! ## The banks -/

/-- The bank of that name. -/
def CaptureUnit.bank (c : CaptureUnit) : BankId → Bank
  | .zero => c.bank0
  | .one => c.bank1

/-- Change one bank. -/
def CaptureUnit.modBank (b : BankId) (f : Bank → Bank) (c : CaptureUnit) : CaptureUnit :=
  match b with
  | .zero => { c with bank0 := f c.bank0 }
  | .one => { c with bank1 := f c.bank1 }

/-- The first bank, bank 0 before bank 1, of which a test holds. -/
def CaptureUnit.findBank (test : Bank → Bool) (c : CaptureUnit) : Option BankId :=
  if test c.bank0 then .some .zero else if test c.bank1 then .some .one else .none

/-- A bank is FILLING and open (5.1). -/
def Bank.isOpen (b : Bank) : Bool := b.role = .filling && !b.closed

/-- The bank that is taking pixels in. -/
def CaptureUnit.openBank (c : CaptureUnit) : Option BankId := c.findBank Bank.isOpen

/-- Frames are taken in: the view phase is SETTLE or FOCUS (R87). -/
def ViewPhase.taking : ViewPhase → Bool
  | .none => false
  | .settle => true
  | .focus => true
  | .handed => false

/-- A FREE bank becomes FILLING and open, its profiles zero, its score absent and its progress reset (R87). -/
def Bank.begin (_ : Bank) : Bank := { Bank.reset with role := .filling }

/-- A frame start by view phase and banks (R87). -/
def CaptureUnit.startFrame (c : CaptureUnit) : CaptureUnit :=
  if c.phase.taking then
    match c.findBank (·.role = .free) with
    | .some b => c.modBank b Bank.begin
    | .none => { c with dropped := saturatingSucc c.dropped }
  else c

/-- FRAME START (R86, R87): a rise of FRAME (log entry 17). -/
def execFrameStart (s : State) : Host.Outcome State Fault Refusal :=
  .next (if s.pins.frameHigh then s
    else (s.modPins fun p => { p with frameHigh := true }).modCap CaptureUnit.startFrame)

/-! ## Lines and pixels -/

/-- A frame error in a bank (R89): the bank is FREE and the count rises. -/
def CaptureUnit.frameError (b : BankId) (c : CaptureUnit) : CaptureUnit :=
  { c.modBank b Bank.release with frameErrors := saturatingSucc c.frameErrors }

/-- A rise of LINE within the open frame (R86, R89). -/
def CaptureUnit.lineRise (b : BankId) (c : CaptureUnit) : CaptureUnit :=
  if Config.rows ≤ (c.bank b).lines then c.frameError b
  else c.modBank b fun k => { k with inLine := true, pixels := 0 }

/-- A fall of LINE within the open frame (R89). -/
def CaptureUnit.lineFall (b : BankId) (c : CaptureUnit) : CaptureUnit :=
  if !(c.bank b).inLine then c
  else if (c.bank b).pixels < Config.columns then c.frameError b
  else c.modBank b fun k => { k with inLine := false, lines := k.lines + 1, pixels := 0 }

/-- The capture unit at a change of LINE while FRAME is high. -/
def CaptureUnit.line (rise : Bool) (c : CaptureUnit) : CaptureUnit :=
  match c.openBank with
  | .none => c
  | .some b => if rise then c.lineRise b else c.lineFall b

/-- LINE MARKER (R86, R89): a rise or fall of LINE; while FRAME is low it is ignored. -/
def execLineMarker (rise : Bool) (s : State) : Host.Outcome State Fault Refusal :=
  .next <|
    if s.pins.lineHigh = rise then s
    else
      let s1 := s.modPins fun p => { p with lineHigh := rise }
      if s.pins.frameHigh then s1.modCap (CaptureUnit.line rise) else s1

/-- Row or column `i` lies in the band of width `w` about the centre `m` (R88). -/
def inBandAt (m w i : Nat) : Bool := m - w / 2 ≤ i && i < m + w / 2

/-- Add to one sample of a profile. -/
def addSample (i p : Nat) (P : List Nat) : List Nat := P.modify i (· + p)

/-- A pixel of value `p` summed into a bank at the row and column its progress gives (R88). -/
def Bank.takePixel (w p : Nat) (k : Bank) : Bank :=
  { k with
    hProfile := if inBandAt (Config.rows / 2) w k.lines then addSample k.pixels p k.hProfile else k.hProfile
    vProfile := if inBandAt (Config.columns / 2) w k.pixels then addSample k.lines p k.vProfile else k.vProfile
    pixels := k.pixels + 1 }

/-- The band width of the view (R90). -/
def CaptureUnit.bandWidth (c : CaptureUnit) : Nat := (c.params.map (·.bandW)).getD 0

/-- A pixel taken while FRAME and LINE are high (R88, R89): a 1,281st of its line is a frame error. -/
def CaptureUnit.pixel (p : Nat) (c : CaptureUnit) : CaptureUnit :=
  match c.openBank with
  | .none => c
  | .some b =>
    if !(c.bank b).inLine then c
    else if Config.columns ≤ (c.bank b).pixels then c.frameError b
    else c.modBank b (Bank.takePixel c.bandWidth p)

/-- PIXEL TAKEN (R86, R88): outside a frame or a line a pixel is ignored. -/
def execPixelTaken (value : Nat) (s : State) : Host.Outcome State Fault Refusal :=
  .next (if s.pins.frameHigh && s.pins.lineHigh then s.modCap (CaptureUnit.pixel value) else s)

/-! ## Frame completion -/

/-- A frame is whole as FRAME falls (R89): LINE is low, and 1,024 whole lines have been taken. -/
def Bank.isWhole (lineHigh : Bool) (k : Bank) : Bool := !lineHigh && !k.inLine && k.lines = Config.rows

/-- The capture unit at the fall of FRAME on an open bank (R89, R91, R92): a frame that is not whole is a frame error; a whole one
restarts the frame timer, and is the settle frame or goes to scoring. -/
def CaptureUnit.endFrame (lineHigh : Bool) (b : BankId) (c : CaptureUnit) : CaptureUnit :=
  if !(c.bank b).isWhole lineHigh then c.frameError b
  else
    match c.phase with
    | .settle => { c.modBank b Bank.release with phase := .focus, frameTimer := .some Config.frameMs }
    | .focus =>
      { c.modBank b (fun k => { k with closed := true }) with
        scoring := c.scoring ++ [b], frameTimer := .some Config.frameMs }
    | .none => c
    | .handed => c

/-- The sequencer follows the view phase from SETTLE to FOCUS (R58, R91). -/
def followFocus (s : State) : State :=
  if s.seq.state = .settle ∧ s.cap.phase = .focus then enterState .focus s else s

/-- FRAME COMPLETION (R86, R89): a fall of FRAME. -/
def execFrameCompletion (s : State) : Host.Outcome State Fault Refusal :=
  .next <|
    if !s.pins.frameHigh then s
    else
      let s1 := s.modPins fun p => { p with frameHigh := false }
      match s.cap.openBank with
      | .none => s1
      | .some b => followFocus (s1.modCap (CaptureUnit.endFrame s.pins.lineHigh b))

/-! ## Scores and the end of focus -/

/-- The other bank. -/
def BankId.other : BankId → BankId
  | .zero => .one
  | .one => .zero

/-- The role of a scored bank is decided against BEST (R93); its closed flag clears as it leaves FILLING (log entry 16). -/
def CaptureUnit.decideRole (b : BankId) (score : Nat) (c : CaptureUnit) : CaptureUnit :=
  if (c.bank b.other).role = .best then
    if orZero (c.bank b.other).score < score then
      (c.modBank b fun k => { k with role := .best, score := .some score, closed := false }).modBank b.other Bank.release
    else c.modBank b Bank.release
  else c.modBank b fun k => { k with role := .best, score := .some score, closed := false }

/-- The score of a closed bank is entered and frames scored rises (R92), and the roles are decided (R93). -/
def CaptureUnit.enterScore (b : BankId) (v : ViewParams) (c : CaptureUnit) : CaptureUnit :=
  { c.decideRole b (focusScore v.bandW v.rh (c.bank b).hProfile) with
    framesScored := c.framesScored + 1, scoring := c.scoring.drop 1 }

/-- Any FILLING bank returns to FREE. -/
def Bank.dropFilling (k : Bank) : Bank := if k.role = .filling then k.release else k

/-- FOCUS ends (R94, R95): EXPOSE is released, any other FILLING bank is FREE and the frame timer stops. -/
def CaptureUnit.endFocus (c : CaptureUnit) : CaptureUnit :=
  { c with expose := false, frameTimer := .none, scoring := [], bank0 := c.bank0.dropFilling, bank1 := c.bank1.dropFilling }

/-- The bank that is BEST. -/
def CaptureUnit.bestBank (c : CaptureUnit) : Option BankId := c.findBank (·.role = .best)

/-- The BEST bank is handed over (R94, R95). -/
def CaptureUnit.handOver (b : BankId) (c : CaptureUnit) : CaptureUnit :=
  { c.endFocus.modBank b (fun k => { k with role := .reading }) with phase := .handed }

/-- A view ends with no bank kept (R95, R96): every bank FILLING or BEST is FREE and the view phase is NONE. -/
def CaptureUnit.failView (c : CaptureUnit) : CaptureUnit :=
  { c.endFocus with bank0 := c.bank0.release, bank1 := c.bank1.release, phase := .none, params := .none }

/-- What the engine takes at the start of a measurement (R101). -/
def engineInputs (o : Order) (s : State) : EngineInputs :=
  { bandW := o.bandW, rh := o.rh, rv := o.rv, contrast := o.contrast, asymmetry := o.asymmetry, offCentre := o.offCentre
    method := o.method, forceCode := o.forceCode, lower := o.lower, upper := o.upper, nominal := nominalForce o.forceCode
    scale := (objectiveFields o.objective s).scale, diagOffset := (objectiveFields o.objective s).diagOffset
    generation := s.cal.generation }

/-- Frames used and SOFT_FOCUS of the view pass to the current point (R46, R99). -/
def noteFrames (n : Nat) (soft : Bool) (s : State) : State :=
  s.modSeq fun q => { q with cur := q.cur.map fun c => { c with framesUsed := n, softFocus := soft } }

/-- A chosen bank is reported (R58, R94, R95): the bank is handed over, and the sequencer enters MEASURE, where the engine begins
(R101). -/
def chooseBank (b : BankId) (soft : Bool) (o : Order) (s : State) : State :=
  (enterState .measure (noteFrames s.cap.framesScored soft (s.modCap (CaptureUnit.handOver b)))).setEngine
    (.some { inputs := engineInputs o s, work := EngineWork.start })

/-- A capture failure is reported (R59, R95, R96), with frames used equal to frames scored. -/
def captureFailure (why : Reason) (s : State) : State :=
  handleFailure why (noteFrames s.cap.framesScored false (s.modCap CaptureUnit.failView))

/-- The end of FOCUS is judged after a score (R94, R95). -/
def judgeFocus (v : ViewParams) (o : Order) (s : State) : State :=
  match s.cap.bestBank with
  | .none => s
  | .some b =>
    if v.threshold ≤ orZero (s.cap.bank b).score then chooseBank b false o s
    else if s.cap.framesScored < v.frameLimit then s
    else if v.threshold / 2 ≤ orZero (s.cap.bank b).score then chooseBank b true o s
    else captureFailure .focusFail s

/-- A view is in progress: the sequencer is in SETTLE or FOCUS, and no interlock stop has cut it short (R62). -/
def inView (s : State) : Bool := !s.seq.stopFlag && (s.seq.state = .settle || s.seq.state = .focus)

/-- SCORE READY (R92 to R95): the bank whose frame completed first, of the view in progress. -/
def execScoreReady (s : State) : Host.Outcome State Fault Refusal :=
  .next <|
    match s.cap.scoring, s.cap.params, ownerOf s with
    | b :: _, .some v, .some o => if inView s then judgeFocus v o (s.modCap (CaptureUnit.enterScore b v)) else s
    | _, _, _ => s

/-- FRAME TIMER EXPIRY (R96): only the timer of a view in progress can expire. -/
def execFrameTimerExpiry (s : State) : Host.Outcome State Fault Refusal :=
  .next <|
    match s.cap.frameTimer with
    | .none => s
    | .some _ => if inView s then captureFailure .noImage s else s

/-! ## The measurement's report -/

/-- The record of a measured impression (R58, R120, R136). -/
def measuredRecord (o : Order) (c : CurPoint) (m : Measured) (s : State) : Record :=
  let r := recordOf o c .auto .none s
  { r with
    d1 := .some m.d1, d2 := .some m.d2, hardness := .some m.hardness, verdict := m.verdict
    flags := { r.flags with asymmetric := m.asymmetric, aspect := m.aspect, offCentre := m.offCentre
                            overrange := m.overrange }
    dx := m.dx, dy := m.dy, generation := m.generation }

/-- The bank that is READING. -/
def CaptureUnit.readingBank (c : CaptureUnit) : Option BankId := c.findBank (·.role = .reading)

/-- The READING bank becomes FREE and the view phase NONE (R97). -/
def CaptureUnit.freeReading (c : CaptureUnit) : CaptureUnit :=
  match c.readingBank with
  | .none => { c with phase := .none, params := .none }
  | .some b => { c.modBank b Bank.release with phase := .none, params := .none }

/-- The sequencer acts on the engine's report (R58, R59): an AUTO record, which is a boundary, or a measurement failure. -/
def takeReport (o : Order) (r : Except Reason Measured) (s : State) : State :=
  match r, s.seq.cur with
  | .error why, _ => handleFailure why s
  | .ok m, .some c => boundary (dropCurrent (writeRecord o (measuredRecord o c m s) s))
  | .ok _, .none => s

/-- MEASUREMENT REPORT (R97, R102): only a measurement in progress in MEASURE can report (log entry 25). -/
def execMeasurementReport (s : State) : Host.Outcome State Fault Refusal :=
  .next <|
    match s.engine, s.cap.readingBank, ownerOf s with
    | .some m, .some b, .some o =>
      if s.seq.state = .measure ∧ s.seq.stopFlag = false then
        takeReport o (measureReport m (s.cap.bank b).hProfile (s.cap.bank b).vProfile)
          ((s.modCap CaptureUnit.freeReading).setEngine .none)
      else s
    | _, _, _ => s

end Sys2Proof.Machine
end

