-- ==== Sys2Proof/Machine/Dispatch.lean ====
section
/-!
DEFINITION. The effect of each command: one arm per constructor of `Instr`, each one direct call of its meaning.
-/

namespace Sys2Proof.Machine

def exec (i : Instr) (s : State) : Host.Outcome State Fault Refusal :=
  match i with
  | .coldReset pins => Sys2Proof.Machine.execColdReset pins s
  | .startupLoadComplete unreadable => Sys2Proof.Machine.execStartupLoadComplete unreadable s
  | .commitComplete readBack => Sys2Proof.Machine.execCommitComplete readBack s
  | .frameReceived p chars => Sys2Proof.Machine.execFrameReceived p chars s
  | .receiveGap p => Sys2Proof.Machine.execReceiveGap p s
  | .frameTaken p => Sys2Proof.Machine.execFrameTaken p s
  | .responseSent p => Sys2Proof.Machine.execResponseSent p s
  | .lineBreak p => Sys2Proof.Machine.execLineBreak p s
  | .portReset p => Sys2Proof.Machine.execPortReset p s
  | .readState src => Sys2Proof.Machine.execReadState src s
  | .readNotices src => Sys2Proof.Machine.execReadNotices src s
  | .setLink src r => Sys2Proof.Machine.execSetLink src r s
  | .openOrder src r => Sys2Proof.Machine.execOpenOrder src r s
  | .addPoints src r => Sys2Proof.Machine.execAddPoints src r s
  | .cancelOrder src id => Sys2Proof.Machine.execCancelOrder src id s
  | .holdOrder src id => Sys2Proof.Machine.execHoldOrder src id s
  | .resumeOrder src id => Sys2Proof.Machine.execResumeOrder src id s
  | .holdAll src => Sys2Proof.Machine.execHoldAll src s
  | .resumeAll src => Sys2Proof.Machine.execResumeAll src s
  | .takeHead src => Sys2Proof.Machine.execTakeHead src s
  | .freeHead src => Sys2Proof.Machine.execFreeHead src s
  | .claimReview src seq => Sys2Proof.Machine.execClaimReview src seq s
  | .enterDiagonals src seq d1 d2 => Sys2Proof.Machine.execEnterDiagonals src seq d1 d2 s
  | .rejectImpression src seq => Sys2Proof.Machine.execRejectImpression src seq s
  | .readResults src first maxN => Sys2Proof.Machine.execReadResults src first maxN s
  | .releaseResults src through => Sys2Proof.Machine.execReleaseResults src through s
  | .readSummary src id => Sys2Proof.Machine.execReadSummary src id s
  | .readCalibration src rec => Sys2Proof.Machine.execReadCalibration src rec s
  | .writeCalibration src rec f => Sys2Proof.Machine.execWriteCalibration src rec f s
  | .setLamp src green amber red => Sys2Proof.Machine.execSetLamp src green amber red s
  | .setInputs src door estop station => Sys2Proof.Machine.execSetInputs src door estop station s
  | .inputChange c => Sys2Proof.Machine.execInputChange c s
  | .stabilityTimerExpiry input => Sys2Proof.Machine.execStabilityTimerExpiry input s
  | .stgDone => Sys2Proof.Machine.execStgDone s
  | .stgFault => Sys2Proof.Machine.execStgFault s
  | .turDone => Sys2Proof.Machine.execTurDone s
  | .stageTimerExpiry => Sys2Proof.Machine.execStageTimerExpiry s
  | .turretTimerExpiry => Sys2Proof.Machine.execTurretTimerExpiry s
  | .loadSample count => Sys2Proof.Machine.execLoadSample count s
  | .actRaised level => Sys2Proof.Machine.execActRaised level s
  | .approachTimerExpiry => Sys2Proof.Machine.execApproachTimerExpiry s
  | .unloadTimerExpiry => Sys2Proof.Machine.execUnloadTimerExpiry s
  | .retractTimerExpiry => Sys2Proof.Machine.execRetractTimerExpiry s
  | .starvationTimerExpiry => Sys2Proof.Machine.execStarvationTimerExpiry s
  | .frameStart => Sys2Proof.Machine.execFrameStart s
  | .frameCompletion => Sys2Proof.Machine.execFrameCompletion s
  | .scoreReady => Sys2Proof.Machine.execScoreReady s
  | .frameTimerExpiry => Sys2Proof.Machine.execFrameTimerExpiry s
  | .measurementReport => Sys2Proof.Machine.execMeasurementReport s
  | .windowTimerExpiry => Sys2Proof.Machine.execWindowTimerExpiry s
  | .lampTimebaseTick => Sys2Proof.Machine.execLampTimebaseTick s
  | .lineMarker rise => Sys2Proof.Machine.execLineMarker rise s
  | .pixelTaken value => Sys2Proof.Machine.execPixelTaken value s

end Sys2Proof.Machine
end

