-- ==== Sys2Proof/Machine/Step.lean ====
section
/-!
DEFINITION. One step of the part: the command at the front of the queue is taken and runs on the state with the queue's rest.
-/

namespace Sys2Proof.Machine

/-- One step.  With no command waiting the part idles (DESIGN CHOICE, log entry 6). -/
def step (s : State) : Host.Outcome State Fault Refusal :=
  match s.pending with
  | [] => .next s
  | c :: rest => exec c { s with pending := rest }

/-- The state with the command that a word spells at the front of its queue; no word spells one, since no row of the opcode table
has bits (log entry 7). -/
def State.withFetchWord (s : State) (nbits w : Nat) : State :=
  match decodeTableWord nbits w with
  | .none => s
  | .some c => { s with pending := c :: s.pending }

end Sys2Proof.Machine
end

