-- ==== Sys2Proof/Safety.lean ====
section
/-!
DEFINITION. What counts as a safe state of the part, in the terms the claims use: invariants of the notice queues, the ports,
the store, the order table and the head, the point pool, the records and counts, the set-point, the inputs, the calibration table and
the capture unit, and the interlock of the indenter with the door and the e-stop; beside them what a command may change, how it is
answered, and what the end of an order leaves.
-/

namespace Sys2Proof.Machine

/-! ## Ports -/

/-- A queue holds at most 32 notices, and its attention line is asserted exactly while it is non-empty (R190). -/
abbrev LinkPort.NoticesOk (q : LinkPort) : Prop :=
  q.notices.length ≤ Config.noticeEntries ∧ q.attention = !q.notices.isEmpty

/-- The rule of R190 at both ports. -/
abbrev State.NoticesOk (s : State) : Prop := s.portA.NoticesOk ∧ s.portB.NoticesOk

/-- A port has two receive buffers, and its counters stop at 65,535 (R177, R182, R189). -/
abbrev LinkPort.BoundsOk (q : LinkPort) : Prop :=
  q.buffers.length ≤ Config.receiveBuffers ∧ q.lost ≤ Config.counterMax
    ∧ q.counters.framing ≤ Config.counterMax ∧ q.counters.gap ≤ Config.counterMax
    ∧ q.counters.length ≤ Config.counterMax ∧ q.counters.crc ≤ Config.counterMax
    ∧ q.counters.overrun ≤ Config.counterMax ∧ q.counters.ignored ≤ Config.counterMax

/-- The bounds of both ports. -/
abbrev State.LinksOk (s : State) : Prop := s.portA.BoundsOk ∧ s.portB.BoundsOk

/-! ## The result store -/

/-- Sequence numbers strictly increase in store order and lie below the next one (R140), and each waiting count is the number
of records of its port (R145). -/
abbrev State.StoreOk (s : State) : Prop :=
  (s.store.records.map (·.seq)).Pairwise (· < ·)
    ∧ (∀ r ∈ s.store.records, r.seq < s.store.nextSeq)
    ∧ s.store.waitingA = s.store.records.countP (·.origin = .A)
    ∧ s.store.waitingB = s.store.records.countP (·.origin = .B)

/-- The number of points in hand beside the listed impressions. -/
def inHand (s : State) : Nat := if s.seq.cur.isSome then 1 else 0

/-- The store count, the impression count and one for a current point never exceed 1,024 (R36). -/
abbrev State.RoomOk (s : State) : Prop :=
  s.store.records.length + s.seq.impressions.length + inHand s ≤ Config.storeRecords

/-! ## The order table and the head -/

/-- The states in which a door opening starts an interlock stop (R62). -/
def SeqState.stoppable : SeqState → Bool
  | .moveIndent => true
  | .tare => true
  | .approach => true
  | .moveView => true
  | .settle => true
  | .focus => true
  | .measure => true
  | _ => false

/-- At most eight orders, their ids distinct; an order is RUNNING or HELD exactly when it holds the head (R11), and HELD exactly
when it has a hold cause (R7); with no owner the sequencer is IDLE and holds nothing (R11, R45); the stop flag stands only in the
states of R62. -/
abbrev State.HeadOk (s : State) : Prop :=
  s.table.orders.length ≤ Config.orderSlots
    ∧ (s.table.orders.map (·.id)).Nodup
    ∧ (s.arb.owner = .none ∨ (ownerOf s).isSome = true)
    ∧ (∀ o ∈ s.table.orders, (o.status = .running ∨ o.status = .held) ↔ s.arb.owner = .some o.id)
    ∧ (∀ o ∈ s.table.orders, s.arb.owner = .some o.id → (o.status = .held ↔ o.holds.any = true))
    ∧ (s.arb.owner = .none ↔ s.seq.state = .idle)
    ∧ (s.arb.owner = .none → s.seq.cur = .none ∧ s.seq.impressions = [] ∧ s.seq.stopFlag = false)
    ∧ (s.seq.stopFlag = true → s.seq.state.stoppable = true)

/-- The points in all point lists. -/
def listedPoints (s : State) : Nat := (s.table.orders.map (·.points.length)).sum

/-- The free entries plus the listed points number 512, the return reserve is covered (R29), and an ENDED order lists no point
(R30) and has its summary (R9); over a table and head in order. -/
abbrev State.PoolOk (s : State) : Prop :=
  s.HeadOk ∧ s.poolFree + listedPoints s = Config.poolEntries ∧ returnReserve s ≤ s.poolFree
    ∧ ∀ o ∈ s.table.orders, o.status = .ended → o.points = [] ∧ o.summary.isSome = true

/-! ## The point in hand and the open review -/

/-- The states in which the sequencer works on a current point (R46, R49 to R59). -/
def SeqState.holdsPoint : SeqState → Bool
  | .moveIndent => true
  | .tare => true
  | .approach => true
  | .ramp => true
  | .dwell => true
  | .unload => true
  | .moveView => true
  | .settle => true
  | .focus => true
  | .measure => true
  | _ => false

/-- The states in which the sequencer has no current point (R46, R63, R125). -/
def SeqState.holdsNone : SeqState → Bool
  | .idle => true
  | .awaitPoints => true
  | .storeWait => true
  | .reviewWait => true
  | _ => false

/-- The retract has a purpose other than ABORT (R61). -/
def RetractPurpose.keepsPoint : RetractPurpose → Bool
  | .cancel => true
  | .noContact => true
  | .abort _ => false

/-- There is a current point in the states that work on one and none in the states that wait; a retract, and only a retract, has a
purpose, and one that is not an abort has a current point (R46, R61). -/
abbrev State.PointOk (s : State) : Prop :=
  s.HeadOk
    ∧ (s.seq.state.holdsPoint = true → s.seq.cur.isSome = true)
    ∧ (s.seq.state.holdsNone = true → s.seq.cur = .none)
    ∧ (s.seq.purpose.isSome = true ↔ s.seq.state = .retract)
    ∧ (s.seq.purpose.any RetractPurpose.keepsPoint = true → s.seq.cur.isSome = true)

/-- A review is open exactly in REVIEW_WAIT, with its window running; its record, and no other, is in state REVIEW, and its order
holds the head (R124, R125, R131). -/
abbrev State.ReviewOk (s : State) : Prop :=
  s.PointOk ∧ s.StoreOk
    ∧ (s.desk.review.isSome = true ↔ s.seq.state = .reviewWait)
    ∧ s.desk.window.isSome = s.desk.review.isSome
    ∧ (∀ r ∈ s.store.records, r.state = .review ↔ s.desk.review.map (·.seq) = .some r.seq)
    ∧ (∀ v ∈ s.desk.review, s.arb.owner = .some v.orderId ∧ v.seq ∈ s.store.records.map (·.seq))

/-! ## Records and counts -/

/-- The failures of a view or a measurement (R59). -/
def failureReasons : List Reason := [.noImage, .focusFail, .notFound, .edgeLost, .tooSmall]

/-- The reasons that a record of a state may carry (R137). -/
def RecState.reasons : RecState → List Reason
  | .auto => [.none]
  | .manual => failureReasons
  | .unmeasured => [.forceLost, .interrupted, .rejected, .reviewExpired, .cancelled, .aborted] ++ failureReasons
  | .skipped => [.spacing, .noContact, .cancelled, .aborted]
  | .review => failureReasons

/-- State and reason of every record are one of the pairs of R137; over a review in order. -/
abbrev State.RecordsOk (s : State) : Prop := s.ReviewOk ∧ ∀ r ∈ s.store.records, r.reason ∈ r.state.reasons

/-- The points of an order in hand (R148): of the head owner the current point, the listed impressions and the record in REVIEW. -/
def pointsInHand (o : Order) (s : State) : Nat :=
  if s.arb.owner = .some o.id then inHand s + s.seq.impressions.length + (if s.desk.review.isSome then 1 else 0) else 0

/-- The taken count of every order is the number of its final records and of its points in hand (R148); over a review in order, with no
impression listed while points are awaited (R28) or for an order in IMMEDIATE mode (R40). -/
abbrev State.CountsOk (s : State) : Prop :=
  s.ReviewOk ∧ (s.seq.state = .awaitPoints → s.seq.impressions = [])
    ∧ ∀ o ∈ s.table.orders,
        (s.arb.owner = .some o.id → o.mode = .immediate → s.seq.impressions = [])
          ∧ o.counts.taken
              = o.counts.auto + o.counts.manual + o.counts.unmeasured + o.counts.skipped + pointsInHand o s

/-! ## Force, inputs, calibration and capture -/

/-- The set-point is zero outside RAMP and DWELL (R73). -/
abbrev State.ForceOk (s : State) : Prop := s.seq.state.forcing = false → s.force.setPoint = 0

/-- The set-point is zero outside RAMP and DWELL and never exceeds the nominal force of the head owner's force code (R73); over a head in
order and orders whose force codes are those of R70. -/
abbrev State.SetPointOk (s : State) : Prop :=
  s.HeadOk ∧ s.ForceOk ∧ (∀ o ∈ s.table.orders, o.forceCode ≤ 11)
    ∧ ∀ o ∈ s.table.orders, s.arb.owner = .some o.id → s.force.setPoint ≤ nominalForce o.forceCode

/-- A debounced input: a candidate differs from the level, the timer runs exactly while there is a candidate, and the time is one
of the four (R166, R167). -/
abbrev Debounced.Ok {α : Type} [DecidableEq α] (d : Debounced α) : Prop :=
  (d.candidate = .none ∨ d.candidate ≠ d.level) ∧ d.timer.isSome = d.candidate.isSome ∧ d.time ∈ [1, 4, 16, 64]

/-- The three inputs in order. -/
abbrev State.InputsOk (s : State) : Prop := s.inputs.door.Ok ∧ s.inputs.estop.Ok ∧ s.inputs.station.Ok

/-- The commit in progress is absent exactly while NV busy is clear, and there are six station records, seven conditions and
seven nonvolatile records (R155, R156). -/
abbrev State.CalOk (s : State) : Prop :=
  s.cal.nvBusy = s.cal.commit.isSome ∧ s.cal.generation ≤ Config.generationMax ∧ s.cal.stations.length = 6
    ∧ s.cal.conditions.length = 7 ∧ s.cal.nv.length = 7

/-- A bank has 1,280 horizontal and 1,024 vertical samples, and its progress stays within a frame (R85, R89). -/
abbrev Bank.Ok (k : Bank) : Prop :=
  k.hProfile.length = Config.columns ∧ k.vProfile.length = Config.rows ∧ k.lines ≤ Config.rows
    ∧ k.pixels ≤ Config.columns ∧ (k.inLine = true → k.lines < Config.rows)

/-- The banks in order, and the capture unit's counts stopped at 65,535 (R85). -/
abbrev State.CaptureOk (s : State) : Prop :=
  s.cap.bank0.Ok ∧ s.cap.bank1.Ok ∧ s.cap.frameErrors ≤ Config.counterMax ∧ s.cap.dropped ≤ Config.counterMax

/-! ## The interlocks -/

/-- The sequencer's state is one in which an open door leaves it (R169). -/
def SeqState.doorSafe : SeqState → Bool
  | .idle => true
  | .unload => true
  | .reviewWait => true
  | .retract => true
  | .paused => true
  | _ => false

/-- While the door reads open, the head owner is HELD with INTERLOCK and the sequencer is stopping or in a state an open door
leaves it in (R169); while the e-stop reads asserted, an order that holds the head is in RETRACT with purpose ABORT (R171). -/
abbrev State.InterlockOk (s : State) : Prop :=
  s.HeadOk
    ∧ (doorClosed s = true ∨ s.arb.owner = .none
        ∨ ((s.seq.stopFlag = true ∨ s.seq.state.doorSafe = true)
            ∧ ∀ o ∈ s.table.orders, s.arb.owner = .some o.id → o.status = .held ∧ o.holds.interlock = true))
    ∧ (estopClear s = true ∨ s.arb.owner = .none ∨ abortingRetract s = true)

/-- The indenter is driven towards the specimen only with the door reading closed and the e-stop reading clear. -/
abbrev State.ApproachSafe (s : State) : Prop :=
  actuatorApproach s = true → doorClosed s = true ∧ estopClear s = true

/-! ## What a command may change, and how it is answered -/

/-- `s` once its port has answered `cmd` with a status and a body: the request is no longer in hand and the response, addressed
from the station address on port B and from the request on port A, waits for the transmitter (R184). -/
def answered (cmd : Instr) (src : Source) (st : Status) (body : List Byte) (s : State) : State :=
  s.modPort src.port fun q =>
    { q with
      handling := if q.handling = .some cmd then .none else q.handling
      responses := q.responses ++
        [{ address := if src.port = .B then BitVec.ofNat 8 s.straps.station else BitVec.ofNat 8 src.address
           kind := BitVec.ofNat 8 ((kindOf cmd).getD 0 + 0x80), payload := BitVec.ofNat 8 (statusCode st) :: body }] }

/-- `s` with the blocks that an order's start, end or boundary may change taken from `t`. -/
def State.withCycle (s t : State) : State :=
  { s with
    portA := t.portA, portB := t.portB, table := t.table, arb := t.arb, poolFree := t.poolFree, seq := t.seq
    force := t.force, store := t.store, pins := t.pins }

/-- `s` with the blocks that the end of a view may change taken from `t` too. -/
def State.withView (s t : State) : State := { s.withCycle t with cap := t.cap, engine := t.engine, desk := t.desk }

/-- `s` with one port taken from `t`. -/
def State.withPort (p : Port) (s t : State) : State := s.modPort p fun _ => t.port p

/-- What may differ between `s` and the state `t` that a command answers: every block not taken from `t` is as it was. -/
def frameOf (i : Instr) (s t : State) : Prop :=
  match i with
  | .coldReset _ =>
      t.pending = s.pending ∧ t.cal.nv = s.cal.nv ∧ t.pins.actRaised = s.pins.actRaised
        ∧ t.pins.frameHigh = s.pins.frameHigh ∧ t.pins.lineHigh = s.pins.lineHigh
  | .startupLoadComplete _ => t = { s with cal := t.cal, portA := t.portA, portB := t.portB }
  | .commitComplete _ => t = { s with cal := t.cal, portA := t.portA, portB := t.portB }
  | .frameReceived p _ => t = s.withPort p t
  | .receiveGap p => t = s.withPort p t
  | .frameTaken _ => t = { s.withCycle t with desk := t.desk, lamps := t.lamps }
  | .responseSent p => t = s.withPort p t
  | .lineBreak p => t = s.withPort p t
  | .portReset _ => t = { s.withCycle t with desk := t.desk }
  | .readState src => t = s.withPort src.port t
  | .readNotices src => t = s.withPort src.port t
  | .setLink src _ => t = s.withPort src.port t
  | .openOrder src _ => t = { s.withPort src.port t with table := t.table }
  | .addPoints _ _ => t = s.withCycle t
  | .cancelOrder _ _ => t = { s.withCycle t with desk := t.desk }
  | .holdOrder src _ => t = { s.withPort src.port t with table := t.table, seq := t.seq, force := t.force }
  | .resumeOrder _ _ => t = { s.withCycle t with desk := t.desk }
  | .holdAll src => t = { s.withPort src.port t with table := t.table, arb := t.arb, seq := t.seq, force := t.force }
  | .resumeAll _ => t = { s.withCycle t with desk := t.desk }
  | .takeHead _ => t = s.withCycle t
  | .freeHead _ => t = s.withCycle t
  | .claimReview src _ => t = { s.withPort src.port t with desk := t.desk }
  | .enterDiagonals _ _ _ _ => t = { s.withCycle t with desk := t.desk }
  | .rejectImpression _ _ => t = { s.withCycle t with desk := t.desk }
  | .readResults src _ _ => t = s.withPort src.port t
  | .releaseResults _ _ => t = s.withCycle t
  | .readSummary src _ => t = { s.withPort src.port t with table := t.table }
  | .readCalibration src _ => t = s.withPort src.port t
  | .writeCalibration _ _ _ => t = { s.withCycle t with cal := t.cal }
  | .setLamp src _ _ _ => t = { s.withPort src.port t with lamps := t.lamps }
  | .setInputs src _ _ _ => t = { s.withPort src.port t with inputs := t.inputs }
  | .inputChange _ => t = { s with inputs := t.inputs }
  | .stabilityTimerExpiry _ => t = { s.withView t with inputs := t.inputs }
  | .stgDone => t = { s.withCycle t with cap := t.cap }
  | .stgFault => t = s.withView t
  | .turDone => t = { s.withCycle t with cap := t.cap }
  | .stageTimerExpiry => t = s.withView t
  | .turretTimerExpiry => t = s.withView t
  | .loadSample _ => t = s.withCycle t
  | .actRaised _ => t = s.withCycle t
  | .approachTimerExpiry => t = { s with seq := t.seq, force := t.force }
  | .unloadTimerExpiry => t = s.withView t
  | .retractTimerExpiry => t = s.withView t
  | .starvationTimerExpiry => t = s.withCycle t
  | .frameStart => t = { s with cap := t.cap, pins := t.pins }
  | .frameCompletion => t = { s with cap := t.cap, pins := t.pins, seq := t.seq, force := t.force }
  | .scoreReady => t = s.withView t
  | .frameTimerExpiry => t = s.withView t
  | .measurementReport => t = s.withView t
  | .windowTimerExpiry => t = { s.withCycle t with desk := t.desk }
  | .lampTimebaseTick => t = { s with lamps := t.lamps }
  | .lineMarker _ => t = { s with cap := t.cap, pins := t.pins }
  | .pixelTaken _ => t = { s with cap := t.cap }

/-! ## The end of an order -/

/-- The summary of an order that ends with an outcome and an abort reason (R151, R152). -/
def endSummary (o : Order) (out : OrderOutcome) (why : Option AbortReason) : Summary :=
  let n := o.counts.auto + o.counts.manual
  { orderId := o.id, origin := o.origin, kind := o.kind, method := o.method, forceCode := o.forceCode, outcome := out
    abortReason := why, counts := o.counts, minHardness := o.minHardness, maxHardness := o.maxHardness
    mean := if n = 0 then .none else .some ((o.hardnessSum + n / 2) / n)
    caseStatus :=
      if o.caseLimit = .none then .none
      else if o.crossingFound then o.caseStatus
      else if n < 2 then .noResult else .notReached
    caseValue :=
      if o.caseLimit = .none then .none
      else if o.crossingFound then o.caseValue
      else if n < 2 then .none else o.prevMeasured.map (·.1)
    firstSeq := o.firstSeq, lastSeq := o.lastSeq, clamped := o.clamped }

/-- An order once it has ended (R9): the records written last are counted and numbered from `first` on, its points are counted
discarded, its causes and pending cancel are cleared, and its summary is formed. -/
def endedOrder (o : Order) (out : OrderOutcome) (why : Option AbortReason) (written : List Record) (first : Nat) : Order :=
  let y : Order :=
    { o with
      points := []
      counts := { o.counts with
        unmeasured := o.counts.unmeasured + written.countP (·.state = .unmeasured)
        skipped := o.counts.skipped + written.countP (·.state = .skipped)
        discarded := o.counts.discarded + o.points.length }
      firstSeq := if written = [] then o.firstSeq else .some (o.firstSeq.getD first)
      lastSeq := if written = [] then o.lastSeq else .some (first + written.length - 1) }
  { y with
    status := .ended, outcome := .some out, abortReason := why, holds := ⟨false, false, false⟩
    pendingHolds := ⟨false, false⟩, cancelPending := false, summary := .some (endSummary y out why) }

/-- `t` is `s` once the head owner `o` has ended and released the head (R9, R16, R27, R67): the records `written` stand in the store
under consecutive sequence numbers, the listed points are back in the pool, the head is free and the sequencer idle, and the origin
port has ORDER ENDED and then RESULTS WAITING, behind a RESULTS WAITING of the records where its flag was armed. -/
def headEnded (o : Order) (out : OrderOutcome) (why : Option AbortReason) (written : List Record) (s t : State) : Prop :=
  let first := s.store.nextSeq
  let y := endedOrder o out why written first
  let about (k : NoticeKind) (v : Nat) : Notice :=
    { kind := k, orderId := o.id, origin := .some o.origin, seq := y.lastSeq.getD 0, value := v }
  let old := s.port o.origin
  t = s.withCycle t
    ∧ t.table = { s.table with orders := s.table.orders.map fun x => if x.id = o.id then y else x }
    ∧ t.arb = { s.arb with owner := .none } ∧ t.poolFree = s.poolFree + o.points.length ∧ t.pins = s.pins
    ∧ t.seq = { s.seq with state := .idle, cur := .none, impressions := [], round := .indent, purpose := .none, stopFlag := false }
    ∧ t.force = { s.force with setPoint := 0 }
    ∧ t.store.records = s.store.records ++ written.mapIdx (fun i r => { r with seq := first + i })
    ∧ t.store.nextSeq = first + written.length
    ∧ t.store.waiting o.origin = s.store.waiting o.origin + written.length ∧ t.store.armed o.origin = false
    ∧ t.store.waiting o.origin.other = s.store.waiting o.origin.other
    ∧ t.store.armed o.origin.other = s.store.armed o.origin.other
    ∧ t.port o.origin.other = s.port o.origin.other
    ∧ (old.notices.length ≤ 29 → ∃ early : List Notice,
        t.port o.origin = { old with
            notices := old.notices ++ early ++
              [about .orderEnded (endedValue out why), about .resultsWaiting (s.store.waiting o.origin + written.length)]
            attention := true }
          ∧ early.length ≤ 1 ∧ (∀ n ∈ early, n.kind = .resultsWaiting ∧ n.orderId = o.id)
          ∧ (s.store.armed o.origin = false ∨ written = [] → early = []))

end Sys2Proof.Machine
end

