-- ==== Sys2Proof/Certificates/Slice0/Obligations.lean ====
section
/-!
DEFINITION. The statements for the provers, in the order of the spec's chapters: each says what a command or the whole part does.
-/

open Sys2Proof Sys2Proof.Machine

/-! ## The machine -/

/-- A step takes the command at the front of the queue and runs it on the state with the queue's rest; on an empty queue the part
idles, which is the model's choice (log entry 6). -/
def Obligations.StepRunsTheFrontCommand : Prop :=
  ∀ (c : Instr) (rest : List Instr) (s : State),
    step { s with pending := c :: rest } = exec c { s with pending := rest }
      ∧ step { s with pending := [] } = .next { s with pending := [] }

/-- Cold reset leaves every piece of state at the value the spec states for it (00_scope.md 3.5): the order table, the arbiter and the
pool, the sequencer with its round phase INDENT (R45), the force monitor with every value zero (R84), both banks with profiles, scores
and progress cleared (R85), the desk with no review and no window, the store, the table whose load begins, the inputs from their lines,
the lamps in AUTO with the timebase at its start (R174), and both ports (R177).  The nonvolatile copy is kept.  TUR_REQ, the tare
accumulator and FORCE_SET at zero (log entry 8), no break in progress (log entry 34), the kept line levels and the kept queue of
waiting commands (log entry 26) are the model's choices. -/
def Obligations.ColdResetStartsEveryBlock : Prop :=
  ∀ (pins : ResetPins) (s : State), ∃ t : State,
    exec (.coldReset pins) s = .next t
      ∧ t.table.orders = [] ∧ t.table.nextId = 1
      ∧ t.arb.owner = .none ∧ t.arb.lastGranted = .B ∧ t.arb.lock = .none ∧ t.arb.deviceHold = false
      ∧ t.poolFree = 512
      ∧ t.seq = { state := .idle, cur := .none, impressions := [], round := .indent, purpose := .none, stopFlag := false
                  timers := ⟨.none, .none, .none, .none, .none, .none⟩, stageOutstanding := false, stagePart := false
                  turretOutstanding := false, turretPart := false, turretRequest := 0 }
      ∧ t.force = { tare := 0, tareSum := 0, tareCount := 0, lastForce := 0, setPoint := 0, rampStep := 0, dwellCount := 0
                    outOfBand := 0, peak := 0, deviation := false }
      ∧ (∀ k ∈ [t.cap.bank0, t.cap.bank1],
          k = { role := .free, hProfile := List.replicate 1280 0, vProfile := List.replicate 1024 0, score := .none, lines := 0
                pixels := 0, inLine := false, closed := false })
      ∧ t.cap.phase = .none ∧ t.cap.params = .none ∧ t.cap.framesScored = 0 ∧ t.cap.scoring = [] ∧ t.cap.frameTimer = .none
      ∧ t.cap.expose = false ∧ t.cap.frameErrors = 0 ∧ t.cap.dropped = 0
      ∧ t.engine = .none ∧ t.desk.review = .none ∧ t.desk.window = .none
      ∧ t.store.records = [] ∧ t.store.nextSeq = 1 ∧ t.store.waitingA = 0 ∧ t.store.waitingB = 0
      ∧ t.store.armedA = true ∧ t.store.armedB = true
      ∧ t.cal.loaded = false ∧ t.cal.nvBusy = false ∧ t.cal.commit = .none ∧ t.cal.generation = 0 ∧ t.cal.nv = s.cal.nv
      ∧ t.inputs.door = { level := .none, candidate := .some (if pins.door then .isClosed else .isOpen)
                          timer := .some 16, time := 16 }
      ∧ t.inputs.estop = { level := .none, candidate := .some (if pins.estop then .clear else .asserted)
                           timer := .some 4, time := 4 }
      ∧ t.inputs.station = { level := .none, candidate := .some pins.station, timer := .some 4, time := 4 }
      ∧ t.lamps = { green := .auto, amber := .auto, red := .auto, phase := 0 }
      ∧ t.straps.rate = pins.rate ∧ t.straps.station = (if pins.addr = 0 then 1 else pins.addr)
      ∧ t.pins = { s.pins with stage := .none, forceSet := 0 }
      ∧ (∀ p : Port,
          (t.port p).rx.state = .hunt ∧ (t.port p).rx.skipping = false ∧ (t.port p).buffers = [] ∧ (t.port p).handling = .none
            ∧ (t.port p).responses = [] ∧ (t.port p).notices = [] ∧ (t.port p).lost = 0
            ∧ (t.port p).attention = false ∧ (t.port p).counters = ⟨0, 0, 0, 0, 0, 0⟩ ∧ (t.port p).inBreak = false
            ∧ (t.port p).options.longFrames = false ∧ (t.port p).options.overrunClear = false)
      ∧ t.portB.options.broadcast = true ∧ t.portB.options.group = 0
      ∧ t.pending = s.pending

/-- Every invariant of Safety.lean holds right after reset. -/
def Obligations.InvariantsHoldAtReset : Prop :=
  State.reset.NoticesOk ∧ State.reset.LinksOk ∧ State.reset.StoreOk ∧ State.reset.RoomOk ∧ State.reset.HeadOk
    ∧ State.reset.PoolOk ∧ State.reset.PointOk ∧ State.reset.ReviewOk ∧ State.reset.ForceOk ∧ State.reset.InputsOk
    ∧ State.reset.CalOk ∧ State.reset.CaptureOk ∧ State.reset.InterlockOk ∧ State.reset.ApproachSafe
    ∧ State.reset.RecordsOk ∧ State.reset.CountsOk ∧ State.reset.SetPointOk

/-- The frame of every command: whatever it answers, only the blocks that `frameOf` names for it may differ from before. -/
def Obligations.EveryCommandKeepsItsFrame : Prop :=
  ∀ (i : Instr) (s t : State), exec i s = .next t → frameOf i s t

/-- Every request is answered once, on the port it came from: whatever its owner does, no response joins or leaves either port's queue
but the one answer, of one status, which joins the asking port's behind those that wait; a status other than ACCEPTED and
ACCEPTED_CLAMPED comes with no body and no other change.  While the calibration load has not completed, every request but READ STATE is
answered NOT_READY (R157, R184; that it is so answered where its command comes without its frame is the model's reading, log entry 11,
and that responses wait in order, log entry 12). -/
def Obligations.EveryRequestIsAnsweredOnce : Prop :=
  (∀ (i : Instr) (src : Source) (s : State), sourceOf i = .some src →
     ∃ (st : Status) (body : List Byte) (t : State),
       exec i s = .next (answered i src st body t)
         ∧ (∀ p : Port, (t.port p).responses = (s.port p).responses)
         ∧ (st ≠ .accepted → st ≠ .acceptedClamped → t = s ∧ body = []))
    ∧ (∀ (i : Instr) (src : Source) (s : State), sourceOf i = .some src → kindOf i ≠ .some 0x01 → s.cal.loaded = false →
         exec i s = .next (answered i src .notReady [] s))

/-! ## Invariants that every step keeps -/

/-- Every step keeps the rule of R190 at both ports, and the bounds of the buffers and counters. -/
def Obligations.StepKeepsThePortsInBounds : Prop :=
  ∀ s t : State, step s = .next t →
    (s.NoticesOk → t.NoticesOk) ∧ (s.LinksOk → t.LinksOk)

/-- Every step keeps the inputs, the calibration table, the capture unit and the force monitor in shape; the last has its set-point at
zero outside RAMP and DWELL, and never above the nominal force of the head owner's force code (R73). -/
def Obligations.StepKeepsTheDevicesInShape : Prop :=
  ∀ s t : State, step s = .next t →
    (s.InputsOk → t.InputsOk) ∧ (s.CalOk → t.CalOk) ∧ (s.CaptureOk → t.CaptureOk) ∧ (s.ForceOk → t.ForceOk)
      ∧ (s.SetPointOk → t.SetPointOk)

/-- Every step keeps the store in order: sequence numbers strictly increasing and below the next one, waiting counts exact, and room
kept, the records, the impressions and the point in hand together never above 1,024. -/
def Obligations.StepKeepsTheStoreInOrder : Prop :=
  ∀ s t : State, step s = .next t →
    (s.StoreOk → t.StoreOk) ∧ (s.RoomOk → t.RoomOk)

/-- Every step keeps the head in order: an order is RUNNING or HELD exactly when it holds the head, HELD exactly when it has a
hold cause, and the sequencer is IDLE exactly when no order holds the head. -/
def Obligations.StepKeepsTheHeadInOrder : Prop :=
  ∀ s t : State, s.HeadOk → step s = .next t → t.HeadOk

/-- Every step keeps the point pool balanced: free entries and listed points number 512, and the return reserve is covered (R29).  It
keeps the counts of every order balanced too: the points taken are those with a final record and those in hand (R148). -/
def Obligations.StepKeepsThePoolBalanced : Prop :=
  (∀ s t : State, s.PoolOk → step s = .next t → t.PoolOk)
    ∧ (∀ s t : State, s.CountsOk → step s = .next t → t.CountsOk)

/-- Every step keeps the review desk in order: a review is open exactly in REVIEW_WAIT, over the one record in state REVIEW. -/
def Obligations.StepKeepsTheReviewInOrder : Prop :=
  ∀ s t : State, s.ReviewOk → step s = .next t → t.ReviewOk

/-- Every step keeps the interlock: with the door open the head owner is held and its motion stopping, with the e-stop asserted it
aborts; so the indenter is driven towards the specimen only with the door closed and the e-stop clear. -/
def Obligations.StepKeepsTheInterlock : Prop :=
  ∀ s t : State, s.InterlockOk → step s = .next t → t.InterlockOk ∧ t.ApproachSafe

/-- Every record held after a command other than COLD RESET was held before under the same seq, or has a seq that was not yet
given; the next sequence number never falls (R139).  A record in a final state is not changed again: whatever a command does, a
record of that seq still held is the record it was; and state and reason of every record are always one of the pairs of R137. -/
def Obligations.RecordsKeepTheirSeqAndValues : Prop :=
  (∀ (i : Instr) (s t : State), s.StoreOk → (∀ pins, i ≠ .coldReset pins) → exec i s = .next t →
     s.store.nextSeq ≤ t.store.nextSeq
       ∧ ∀ r ∈ t.store.records, r.seq ∈ s.store.records.map (·.seq) ∨ (s.store.nextSeq ≤ r.seq ∧ r.seq < t.store.nextSeq))
    ∧ (∀ (i : Instr) (s t : State), s.ReviewOk → (∀ pins, i ≠ .coldReset pins) → exec i s = .next t →
         ∀ r ∈ s.store.records, r.state ≠ .review → ∀ r' ∈ t.store.records, r'.seq = r.seq → r' = r)
    ∧ (∀ s t : State, s.RecordsOk → step s = .next t → t.RecordsOk)

/-! ## The links: encoding -/

/-- Every well-formed request survives the wire: its payload has the length its KIND requires, and the KIND and the payload spell the
request again (R184, R192 to R194).  A record, a notice and a summary are sent in 56, 12 and 72 bytes, each field at its place and each
name under its code, an absent depth as all ones and any other absent value as 0 (R194, 11.8). -/
def Obligations.RequestsSurviveTheWire : Prop :=
  (∀ (i : Instr) (src : Source) (k : Nat), i.wf = true → kindOf i = .some k → sourceOf i = .some src →
     isRequestKind k = true ∧ lengthRight k (payloadOf i) = true ∧ requestOf src k (payloadOf i) = .some i)
    ∧ (∀ r : Record, r.seq < 2 ^ 32 → r.orderId < 2 ^ 16 → r.tag < 2 ^ 16 → r.forceCode < 2 ^ 8 → r.framesUsed < 2 ^ 8 →
         r.depth.getD 0 < 2 ^ 32 → r.d1.getD 0 < 2 ^ 32 → r.d2.getD 0 < 2 ^ 32 → r.hardness.getD 0 < 2 ^ 32 → r.achieved < 2 ^ 16 →
         r.generation < 2 ^ 16 → (∀ v ∈ [r.x, r.y, r.peak, r.dx, r.dy], -2 ^ 31 ≤ v ∧ v < 2 ^ 31) →
         let b := recordBytes r
         let bit (f : Bool) (n : Nat) : Nat := if f then 2 ^ n else 0
         b.length = 56 ∧ field b 0 4 = r.seq ∧ field b 4 2 = r.orderId ∧ field b 6 2 = r.tag
           ∧ (field b 8 1, r.state) ∈ [(1, .auto), (2, .manual), (3, .unmeasured), (4, .skipped), (5, .review)]
           ∧ (field b 9 1, r.reason) ∈ [(0, .none), (1, .spacing), (2, .noContact), (3, .forceLost), (4, .interrupted), (5, .noImage),
               (6, .focusFail), (7, .notFound), (8, .edgeLost), (9, .tooSmall), (10, .rejected), (11, .reviewExpired),
               (12, .cancelled), (13, .aborted)]
           ∧ field b 10 1 = (if r.method = .vickers then 0 else 1) ∧ field b 11 1 = r.forceCode
           ∧ (field b 12 1, r.verdict) ∈ [(0, .none), (1, .inBand), (2, .low), (3, .high)] ∧ field b 13 1 = r.framesUsed
           ∧ field b 14 2 = bit r.flags.asymmetric 0 + bit r.flags.aspect 1 + bit r.flags.offCentre 2 + bit r.flags.overrange 3
               + bit r.flags.deviation 4 + bit r.flags.softFocus 5
           ∧ signedField b 16 4 = r.x ∧ signedField b 20 4 = r.y ∧ field b 24 4 = r.depth.getD 0xFFFFFFFF
           ∧ field b 28 4 = r.d1.getD 0 ∧ field b 32 4 = r.d2.getD 0 ∧ field b 36 4 = r.hardness.getD 0
           ∧ signedField b 40 4 = r.peak ∧ field b 44 2 = r.achieved ∧ field b 46 2 = r.generation
           ∧ signedField b 48 4 = r.dx ∧ signedField b 52 4 = r.dy)
    ∧ (∀ n : Notice, n.orderId < 2 ^ 16 → n.seq < 2 ^ 32 → n.value < 2 ^ 32 →
         let b := noticeBytes n
         b.length = 12
           ∧ (field b 0 1, n.kind) ∈ [(1, .orderStarted), (2, .orderYielded), (3, .orderEnded), (4, .pointsLow), (5, .resultsWaiting),
               (6, .reviewOpen), (7, .reviewClosed), (8, .interlock), (9, .headLock), (10, .calWritten), (11, .calFault),
               (12, .linkOverrun)]
           ∧ field b 1 1 = (if n.origin = .none then 0 else if n.origin = .some .A then 1 else 2)
           ∧ field b 2 2 = n.orderId ∧ field b 4 4 = n.seq ∧ field b 8 4 = n.value)
    ∧ (∀ m : Summary, m.orderId < 2 ^ 16 → m.forceCode < 2 ^ 8 →
         (∀ v ∈ [m.counts.taken, m.counts.auto, m.counts.manual, m.counts.unmeasured, m.counts.skipped, m.counts.discarded,
            m.counts.inBand, m.counts.low, m.counts.high], v < 2 ^ 32) →
         (∀ v ∈ [m.minHardness, m.maxHardness, m.mean, m.caseValue, m.firstSeq, m.lastSeq], v.getD 0 < 2 ^ 32) →
         let b := summaryBytes m
         b.length = 72 ∧ field b 0 2 = m.orderId ∧ field b 2 1 = (if m.origin = .A then 1 else 2)
           ∧ (field b 3 1, m.kind) ∈ [(0, .single), (1, .pattern), (2, .traverse)]
           ∧ field b 4 1 = (if m.method = .vickers then 0 else 1) ∧ field b 5 1 = m.forceCode
           ∧ (field b 6 1, m.outcome) ∈ [(1, .completed), (2, .cancelled), (3, .aborted)]
           ∧ (field b 7 1, m.abortReason) ∈ [(0, .none), (1, .some .motionFault), (2, .some .turretFault), (3, .some .estop)]
           ∧ field b 8 4 = m.counts.taken ∧ field b 12 4 = m.counts.auto ∧ field b 16 4 = m.counts.manual
           ∧ field b 20 4 = m.counts.unmeasured ∧ field b 24 4 = m.counts.skipped ∧ field b 28 4 = m.counts.discarded
           ∧ field b 32 4 = m.counts.inBand ∧ field b 36 4 = m.counts.low ∧ field b 40 4 = m.counts.high
           ∧ field b 44 4 = m.minHardness.getD 0 ∧ field b 48 4 = m.maxHardness.getD 0 ∧ field b 52 4 = m.mean.getD 0
           ∧ (m.caseStatus ≠ .pending →
               (field b 56 1, m.caseStatus) ∈ [(0, .none), (1, .found), (2, .surfaceBelow), (3, .notReached), (4, .noResult)])
           ∧ field b 57 1 = (if m.clamped then 1 else 0) ∧ field b 58 2 = 0 ∧ field b 60 4 = m.caseValue.getD 0xFFFFFFFF
           ∧ field b 64 4 = m.firstSeq.getD 0 ∧ field b 68 4 = m.lastSeq.getD 0)

/-- A whole frame arrives while the receiver is in HUNT and no line break is in progress.  Where the port takes its ADDRESS and its length
is within the payload limit it enters an empty receive buffer; with both full it is dropped and counted, and with overrun-clear the
older buffered one is dropped and counted too and LINK OVERRUN posted, which a full notice queue counts lost; that no notice is posted
with overrun-clear OFF is the model's reading (log entry 24).  With any other check bytes the frame is discarded and counted.  A LENGTH
above the limit is counted and ends the frame at its header, and a frame that the port does not take leaves no trace.  Every counter
stops at 65,535 (R179 to R183).  A notice posted to a port joins the back of its queue and asserts its attention line while the queue
holds fewer than 32, and is else discarded and counted in the lost count, which stops at 65,535; one posted to both ports joins each
queue separately (R189, R190). -/
def Obligations.WholeFrameIsReceived : Prop :=
  (∀ (p : Port) (address kind : Byte) (payload : List Byte) (s : State),
     (s.port p).rx = Receiver.hunt → (s.port p).inBreak = false →
     let q := s.port p
     let takes := p = .A ∨ address.toNat = s.straps.station ∨ (address = 0#8 ∧ q.options.broadcast = true)
       ∨ (address.toNat = q.options.group ∧ q.options.group ≠ 0)
     let limit := if q.options.longFrames then 1024 else 256
     let rise (n : Nat) : Nat := if n < 65535 then n + 1 else n
     let core := address :: kind :: (bytesOf 2 payload.length ++ payload)
     let arrives (bytes : List Byte) (q' : LinkPort) : Prop :=
       exec (.frameReceived p ((0x5A#8 :: 0xC3#8 :: bytes).map charOfByte)) s = .next (s.modPort p fun _ => q')
     let frame : RxFrame :=
       { address := address, kind := kind, payload := payload, shared := p = .B && address.toNat ≠ s.straps.station }
     let twice := rise (rise q.counters.overrun)
     (takes → payload.length ≤ limit →
         (q.buffers.length < 2 → arrives (core ++ checkBytes core) { q with buffers := q.buffers ++ [frame] })
           ∧ (∀ a b, q.buffers = [a, b] →
               (q.options.overrunClear = false →
                   arrives (core ++ checkBytes core)
                     { q with counters := { q.counters with overrun := rise q.counters.overrun } })
                 ∧ (q.options.overrunClear = true → q.notices.length < 32 →
                   arrives (core ++ checkBytes core)
                     { q with
                       buffers := [b], counters := { q.counters with overrun := twice }, attention := true
                       notices := q.notices ++
                         [{ kind := .linkOverrun, orderId := 0, origin := .none, seq := 0, value := twice }] })
                 ∧ (q.options.overrunClear = true → 32 ≤ q.notices.length →
                   arrives (core ++ checkBytes core)
                     { q with buffers := [b], counters := { q.counters with overrun := twice }, lost := rise q.lost }))
           ∧ ∀ check, check.length = 2 → check ≠ checkBytes core →
               arrives (core ++ check) { q with counters := { q.counters with crc := rise q.counters.crc } })
       ∧ (takes → ∀ n, limit < n → n ≤ 65535 →
           arrives (address :: kind :: bytesOf 2 n) { q with counters := { q.counters with length := rise q.counters.length } })
       ∧ (¬takes → payload.length ≤ 65535 → ∀ check, check.length = 2 → arrives (core ++ check) q))
    ∧ (∀ (p : Port) (n : Notice) (s : State),
         let put (q : LinkPort) : LinkPort :=
           if q.notices.length < 32 then { q with notices := q.notices ++ [n], attention := true }
           else { q with lost := if q.lost < 65535 then q.lost + 1 else q.lost }
         postTo p n s = s.modPort p put ∧ postBoth n s = { s with portA := put s.portA, portB := put s.portB })

/-! ## The links: events -/

/-- A gap, or a character with a parity or stop error, ends the frame being received: the receiver is in HUNT, and the gap or the
framing counter rises by one, stopping at 65,535, where the receiver was in HEADER, PAYLOAD or CHECK; outside a frame neither counts.
A line break marks the break in progress besides (R182, R186; the character error at its start is the model's reading, log entry
23). -/
def Obligations.GapAndErrorEndTheFrame : Prop :=
  ∀ (p : Port) (c : LinkChar) (s : State), (s.port p).inBreak = false → charIsError c = true →
    let inFrame := (s.port p).rx.state ∈ [.header, .payload, .check]
    let ended (f : LinkCounters → LinkCounters) : State := s.modPort p fun q =>
      { q with rx := if q.rx.state = .hunt then q.rx else Receiver.hunt
               counters := if inFrame then f q.counters else q.counters }
    let rise (n : Nat) : Nat := if n < 65535 then n + 1 else n
    exec (.receiveGap p) s = .next (ended fun k => { k with gap := rise k.gap })
      ∧ exec (.frameReceived p [c]) s = .next (ended fun k => { k with framing := rise k.framing })
      ∧ exec (.lineBreak p) s
          = .next ((ended fun k => { k with framing := rise k.framing }).modPort p fun q => { q with inBreak := true })

/-- A port that is free takes the frame buffered longest.  An addressed one is screened for its KIND, for the calibration load and for its
length, in that order, and the first that fails gives the response; otherwise it is passed to its owner (R183, R184).  A shared frame
gets no response: HOLD ALL, RESUME ALL and SET LAMP of the right length act as when addressed, once the load has completed; a frame of
any other KIND, of a wrong length, taken before the load has completed, or whose SET LAMP is refused, raises the ignored counter
(R185). -/
def Obligations.FrameTakenIsScreened : Prop :=
  (∀ (p : Port) (f : RxFrame) (rest : List RxFrame) (s : State),
     (s.port p).buffers = f :: rest → f.shared = false →
     (s.port p).handling = .none → (s.port p).responses = [] → (s.port p).inBreak = false →
     let src : Source := { port := p, address := f.address.toNat }
     let reply (st : Nat) : List TxFrame :=
       [{ address := if p = .A then f.address else BitVec.ofNat 8 s.straps.station
          kind := f.kind + 0x80#8, payload := [BitVec.ofNat 8 st] }]
     let taken (r : List TxFrame) (h : Option Instr) : State :=
       s.modPort p fun q => { q with buffers := rest, responses := r, handling := h }
     (¬(1 ≤ f.kind.toNat ∧ f.kind.toNat ≤ 0x16) → exec (.frameTaken p) s = .next (taken (reply 0x10) .none))
       ∧ (1 ≤ f.kind.toNat → f.kind.toNat ≤ 0x16 → s.cal.loaded = false → f.kind ≠ 0x01#8 →
           exec (.frameTaken p) s = .next (taken (reply 0x1C) .none))
       ∧ (1 ≤ f.kind.toNat → f.kind.toNat ≤ 0x16 → (s.cal.loaded = true ∨ f.kind = 0x01#8) →
           lengthRight f.kind.toNat f.payload = false → exec (.frameTaken p) s = .next (taken (reply 0x11) .none))
       ∧ (1 ≤ f.kind.toNat → f.kind.toNat ≤ 0x16 → (s.cal.loaded = true ∨ f.kind = 0x01#8) →
           lengthRight f.kind.toNat f.payload = true →
           ∃ i, requestOf src f.kind.toNat f.payload = .some i ∧ exec (.frameTaken p) s = .next (taken [] (.some i))))
    ∧ (∀ (f : RxFrame) (rest : List RxFrame) (g a r : Byte) (s : State),
         s.portB.buffers = f :: rest → f.shared = true →
         s.portB.handling = .none → s.portB.responses = [] → s.portB.inBreak = false →
         let s1 : State := { s with portB := { s.portB with buffers := rest } }
         let modes (old : LampMode) : List LampMode := [old, .auto, .forced .off, .forced .on, .forced .slow, .forced .fast]
         (s.cal.loaded = true → f.kind = 0x09#8 → f.payload = [] → exec (.frameTaken .B) s = .next (holdAllEffect s1))
           ∧ (s.cal.loaded = true → f.kind = 0x0A#8 → f.payload = [] → exec (.frameTaken .B) s = .next (resumeAllEffect s1))
           ∧ (s.cal.loaded = true → f.kind = 0x15#8 → f.payload = [g, a, r] → g.toNat ≤ 5 → a.toNat ≤ 5 → r.toNat ≤ 5 →
               exec (.frameTaken .B) s = .next { s1 with lamps := { s.lamps with
                 green := (modes s.lamps.green).getD g.toNat .auto, amber := (modes s.lamps.amber).getD a.toNat .auto
                 red := (modes s.lamps.red).getD r.toNat .auto } })
           ∧ ((s.cal.loaded = false ∨ (f.kind ≠ 0x09#8 ∧ f.kind ≠ 0x0A#8 ∧ f.kind ≠ 0x15#8)
                 ∨ (f.kind ≠ 0x15#8 ∧ f.payload ≠ []) ∨ (f.kind = 0x15#8 ∧ f.payload.length ≠ 3)
                 ∨ (f.kind = 0x15#8 ∧ f.payload = [g, a, r] ∧ (5 < g.toNat ∨ 5 < a.toNat ∨ 5 < r.toNat))) →
               exec (.frameTaken .B) s
                 = .next { s with portB := { s.portB with
                     buffers := rest
                     counters := { s.portB.counters with
                       ignored := if s.portB.counters.ignored < 65535 then s.portB.counters.ignored + 1
                                  else s.portB.counters.ignored } } }))

/-- The end of a response's transmission frees the transmitter: the oldest response leaves, and nothing else changes (R178, R183). -/
def Obligations.ResponseSentFreesTheTransmitter : Prop :=
  ∀ (p : Port) (r : TxFrame) (rest : List TxFrame) (s : State), (s.port p).responses = r :: rest →
    exec (.responseSent p) s = .next (s.modPort p fun q => { q with responses := rest })
      ∧ exec (.frameTaken p) s = .next s

/-- A port reset, at the end of a line break on a port that holds no lock, empties the port's buffers and notices, returns its options
to their defaults, keeps its counters, arms its RESULTS WAITING and drops its claim; the other port and everything else stand as
they were (R135, R145, R177, R186).  On the port that holds the lock it also frees the lock: the reset port's queue then holds HEAD
LOCK naming no holder, the other port's gains it at its back, or counts it lost where it is full, and a grant is considered (R20, R186).
That all responses formed are abandoned and that a request already in hand is kept is the model's reading (log entry 12). -/
def Obligations.PortResetTakesItsSteps : Prop :=
  (∀ (p : Port) (s : State), (s.port p).inBreak = true → s.arb.lock ≠ .some p →
     ∃ t : State, exec (.portReset p) s = .next t
       ∧ t.port p = { s.port p with
           rx := Receiver.hunt, buffers := [], responses := [], inBreak := false
           options := { longFrames := false, broadcast := p = .B, group := 0, overrunClear := false }
           notices := [], lost := 0, attention := false }
       ∧ t.port p.other = s.port p.other
       ∧ t.store = s.store.setArmed p true
       ∧ t.desk = { s.desk with
           review := s.desk.review.map fun r => if r.claimant = .some p then { r with claimant := .none } else r }
       ∧ t = { s with portA := t.portA, portB := t.portB, store := t.store, desk := t.desk })
    ∧ (∀ (p : Port) (s : State), (s.port p).inBreak = true → s.arb.lock = .some p →
         ∃ t : State, exec (.portReset p) s = .next t ∧ t.arb.lock = .none
           ∧ (t.port p).notices.head? = .some { kind := .headLock, orderId := 0, origin := .none, seq := 0, value := 0 })
    ∧ (∀ (p : Port) (s : State), (s.port p).inBreak = true → s.arb.lock = .some p →
         let n : Notice := { kind := .headLock, orderId := 0, origin := .none, seq := 0, value := 0 }
         let other := s.port p.other
         ∃ u : State, exec (.portReset p) s = .next (grant u)
           ∧ u.port p = { s.port p with
               rx := Receiver.hunt, buffers := [], responses := [], inBreak := false
               options := { longFrames := false, broadcast := p = .B, group := 0, overrunClear := false }
               notices := [n], lost := 0, attention := true }
           ∧ u.port p.other =
               (if other.notices.length < 32 then { other with notices := other.notices ++ [n], attention := true }
                else { other with lost := if other.lost < 65535 then other.lost + 1 else other.lost })
           ∧ u.store = s.store.setArmed p true
           ∧ u.desk = { s.desk with
               review := s.desk.review.map fun r => if r.claimant = .some p then { r with claimant := .none } else r }
           ∧ u.arb = { s.arb with lock := .none }
           ∧ u = { s with portA := u.portA, portB := u.portB, store := u.store, desk := u.desk, arb := u.arb })

/-! ## The links: the port's own requests -/

/-- READ STATE is answered at any time, and its 46 bytes hold the values it reports at their places, the sequencer state and the lock
holder by their codes, and the best focus score that of the bank that is BEST or READING, or 0 where none is (R100, R188, 11.8). -/
def Obligations.ReadStateReportsTheState : Prop :=
  ∀ (src : Source) (s : State), s.PoolOk → s.RoomOk → s.CalOk → s.LinksOk → s.CaptureOk →
    s.arb.owner.getD 0 ≤ 65535 → s.inputs.station.level.getD 0 ≤ 7 → s.force.dwellCount ≤ 60000 →
    s.seq.impressions.length ≤ 64 → -2147483648 ≤ s.force.lastForce → s.force.lastForce < 2147483648 →
    let chosen (k : Bank) : Prop := k.role = .best ∨ k.role = .reading
    s.cap.bank0.score.getD 0 ≤ 9427968 → s.cap.bank1.score.getD 0 ≤ 9427968 →
    ∃ body : List Byte,
      exec (.readState src) s = .next (answered (.readState src) src .accepted body s)
        ∧ body.length = 46
        ∧ [SeqState.idle, .awaitPoints, .storeWait, .moveIndent, .tare, .approach, .ramp, .dwell, .unload, .moveView, .settle,
            .focus, .measure, .reviewWait, .paused, .retract][field body 0 1]? = .some s.seq.state
        ∧ [Option.none, .some Port.A, .some Port.B][field body 1 1]? = .some s.arb.lock
        ∧ field body 2 2 = s.arb.owner.getD 0 ∧ field body 4 1 = (if s.arb.deviceHold then 1 else 0)
        ∧ field body 5 1 = (if s.inputs.door.level = .some .isClosed then 0 else 1)
        ∧ field body 6 1 = (if s.inputs.estop.level = .some .clear then 0 else 1)
        ∧ field body 7 1 = s.inputs.station.level.getD 0xFF
        ∧ signedField body 8 4 = s.force.lastForce ∧ field body 12 2 = s.force.dwellCount ∧ field body 14 2 = s.store.records.length
        ∧ field body 16 2 = s.poolFree ∧ field body 18 1 = s.seq.impressions.length
        ∧ field body 19 1 = (if s.cal.nvBusy then 1 else 0) ∧ field body 20 1 = (if s.cal.loaded then 1 else 0)
        ∧ field body 22 2 = s.cap.frameErrors ∧ field body 24 2 = s.cap.dropped
        ∧ (¬chosen s.cap.bank0 → ¬chosen s.cap.bank1 → field body 28 4 = 0)
        ∧ (chosen s.cap.bank0 → ¬chosen s.cap.bank1 → field body 28 4 = s.cap.bank0.score.getD 0)
        ∧ (¬chosen s.cap.bank0 → chosen s.cap.bank1 → field body 28 4 = s.cap.bank1.score.getD 0)
        ∧ field body 32 2 = (s.port src.port).counters.framing ∧ field body 34 2 = (s.port src.port).counters.gap
        ∧ field body 36 2 = (s.port src.port).counters.length ∧ field body 38 2 = (s.port src.port).counters.crc
        ∧ field body 40 2 = (s.port src.port).counters.overrun
        ∧ field body 42 2 = (if src.port = .A then 0 else s.portB.counters.ignored)
        ∧ field body 44 2 = (s.port src.port).lost

/-- READ NOTICES hands over the oldest entries, at most 8, with the lost count, and removes them; the lost count becomes 0, and the
attention line is released exactly when the last entry has gone (R190, R191). -/
def Obligations.ReadNoticesHandsOverTheOldest : Prop :=
  ∀ (src : Source) (s : State), s.NoticesOk → s.cal.loaded = true →
    let q := s.port src.port
    exec (.readNotices src) s
      = .next (answered (.readNotices src) src .accepted
          (bytesOf 1 (min 8 q.notices.length) ++ bytesOf 2 q.lost ++ (q.notices.take 8).flatMap noticeBytes)
          (s.modPort src.port fun q =>
            { q with notices := q.notices.drop 8, lost := 0, attention := 8 < q.notices.length }))

/-- SET LINK sets the options it names on its own port and reports the four now in force; YES for clear counters zeroes the port's
counters.  On port A broadcast accept and group address must be UNCHANGED; a setting outside its list refuses the whole (R187). -/
def Obligations.SetLinkSetsItsOwnPort : Prop :=
  ∀ (src : Source) (r : SetLinkReq) (s : State), s.cal.loaded = true →
    let p := src.port
    let lists := r.longFrames ≤ 2 ∧ r.broadcast ≤ 2 ∧ (r.group = 0 ∨ (32 ≤ r.group ∧ r.group ≤ 63) ∨ r.group = 0xFF)
      ∧ r.overrunClear ≤ 2 ∧ r.clearCounters ≤ 1 ∧ (p = .A → r.broadcast = 0 ∧ r.group = 0xFF)
    let onOff (v : Nat) (old : Bool) : Bool := if v = 0 then old else v = 2
    let old := (s.port p).options
    let new : LinkOptions :=
      { longFrames := onOff r.longFrames old.longFrames, broadcast := onOff r.broadcast old.broadcast
        group := if r.group = 0xFF then old.group else r.group
        overrunClear := onOff r.overrunClear old.overrunClear }
    let code (b : Bool) : List Byte := bytesOf 1 (if b then 2 else 1)
    (lists →
      exec (.setLink src r) s
        = .next (answered (.setLink src r) src .accepted
            (code new.longFrames ++ (if p = .A then bytesOf 1 0 else code new.broadcast)
              ++ bytesOf 1 (if p = .A then 0 else new.group) ++ code new.overrunClear)
            (s.modPort p fun q =>
              { q with options := new
                       counters := if r.clearCounters = 1 then ⟨0, 0, 0, 0, 0, 0⟩ else q.counters })))
      ∧ (¬lists → exec (.setLink src r) s = .next (answered (.setLink src r) src .badValue [] s))

/-! ## Orders and the head -/

/-- OPEN ORDER is checked in the order of R3, and the first check that fails decides the response with nothing changed; a request that
passes is accepted, as ACCEPTED_CLAMPED where a value was altered: a parameter outside its range, an odd band width or a limit above
99,999 (R4).  An accepted order takes the first id from the next-id value on that no order in the table has, the open rank after every
order in the table, and a free slot, or else the slot of the ENDED order of the earliest open rank; it has the kind, method, force
code, stations and mode asked for and the note whether it was clamped, begins OPEN, with no points, no causes and counts at zero, with
its parameters at their defaults where the mask asks and clamped into their ranges, and nothing else changes (R2, R4 to R6). -/
def Obligations.OpenOrderIsCheckedAndOpened : Prop :=
  ∀ (src : Source) (r : OpenOrderReq) (s : State), s.cal.loaded = true →
    let badValue := 2 < r.kind ∨ 1 < r.method ∨ 1 < r.mode ∨ 11 < r.forceCode ∨ (r.caseLimit ≠ 0 ∧ r.kind ≠ 2)
      ∨ (r.lower ≠ 0 ∧ r.upper ≠ 0 ∧ min r.upper 99999 < min r.lower 99999)
    let badStation := 5 < r.indenter ∨ 5 < r.objective
      ∨ (stationRecord r.indenter s).kind ≠ (if r.method = 0 then .vickersIndenter else .knoopIndenter)
      ∨ (stationRecord r.objective s).kind ≠ .objective
    let full := 8 ≤ s.table.orders.length ∧ ∀ o ∈ s.table.orders, o.status ≠ .ended
    let asked (bit dflt v : Nat) : Nat := if r.defaults.testBit bit then dflt else v
    let param (bit dflt lo hi v : Nat) : Nat := max lo (min hi (asked bit dflt v))
    let window := if asked 2 120 r.window = 0 then 0 else param 2 120 10 600 r.window
    let bandW := 2 * (param 6 32 8 64 r.bandW / 2)
    let limit (v : Nat) : Option Nat := if v = 0 then .none else .some (min v 99999)
    let moved (bit dflt lo hi v : Nat) : Bool := param bit dflt lo hi v ≠ asked bit dflt v
    let altered : Bool := moved 0 150 20 600 r.dwell || moved 1 50 20 80 r.ramp || window ≠ asked 2 120 r.window
      || moved 3 10 1 60 r.starvation || moved 4 8 0 64 r.lowWater || moved 5 1 1 256 r.threshold || bandW ≠ asked 6 32 r.bandW
      || moved 7 400 64 576 r.rh || moved 8 320 64 448 r.rv || moved 9 40 1 255 r.contrast || moved 10 50 0 200 r.asymmetry
      || moved 11 100 0 500 r.offCentre || moved 12 6 1 16 r.frameLimit
      || 99999 < r.lower || 99999 < r.upper || 99999 < r.caseLimit
    let status : Status := if altered then .acceptedClamped else .accepted
    let refused (st : Status) : Prop := exec (.openOrder src r) s = .next (answered (.openOrder src r) src st [] s)
    (badValue → refused .badValue) ∧ (¬badValue → badStation → refused .badStation)
      ∧ (¬badValue → ¬badStation → full → refused .full)
      ∧ (¬badValue → ¬badStation → ¬full →
          (∃ (id : Nat) (t : State),
            exec (.openOrder src r) s = .next (answered (.openOrder src r) src status (bytesOf 2 id) t))
          ∧ (s.HeadOk → 1 ≤ s.table.nextId → s.table.nextId ≤ 65535 →
              ∃ (slots : List Order) (k : Nat) (o : Order),
                exec (.openOrder src r) s
                  = .next (answered (.openOrder src r) src status (bytesOf 2 o.id)
                      { s with table := { nextId := if o.id < 65535 then o.id + 1 else 1, orders := slots ++ [o] } })
                  ∧ (s.table.orders.length < 8 → slots = s.table.orders)
                  ∧ (s.table.orders.length = 8 → ∃ e ∈ s.table.orders, e.status = .ended
                      ∧ (∀ f ∈ s.table.orders, f.status = .ended → e.rank ≤ f.rank)
                      ∧ slots = s.table.orders.filter (·.id ≠ e.id))
                  ∧ o.id = (fun n => if n < 65535 then n + 1 else 1)^[k] s.table.nextId
                  ∧ (∀ j < k, ∃ p ∈ slots, p.id = (fun n => if n < 65535 then n + 1 else 1)^[j] s.table.nextId)
                  ∧ (∀ p ∈ slots, p.id ≠ o.id ∧ p.rank < o.rank)
                  ∧ o.kind = [.single, .pattern, .traverse].getD r.kind .single
                  ∧ o.method = (if r.method = 0 then .vickers else .knoop) ∧ o.forceCode = r.forceCode
                  ∧ o.indenter = r.indenter ∧ o.objective = r.objective
                  ∧ o.mode = (if r.mode = 0 then .immediate else .deferred) ∧ o.clamped = altered
                  ∧ o.origin = src.port ∧ o.status = .opened ∧ o.points = [] ∧ o.holds = ⟨false, false, false⟩
                  ∧ o.pendingHolds = ⟨false, false⟩ ∧ o.cancelPending = false ∧ o.lastReceived = false ∧ o.lowArmed = true
                  ∧ o.outcome = .none ∧ o.abortReason = .none ∧ o.summary = .none
                  ∧ o.counts = ⟨0, 0, 0, 0, 0, 0, 0, 0, 0⟩ ∧ o.hardnessSum = 0 ∧ o.minHardness = .none ∧ o.maxHardness = .none
                  ∧ o.lastDepth = .none ∧ o.refDiagonal = .none ∧ o.lastIndent = .none ∧ o.firstSeq = .none ∧ o.lastSeq = .none
                  ∧ o.prevMeasured = .none ∧ o.crossingFound = false ∧ o.caseValue = .none
                  ∧ o.caseStatus = (if r.caseLimit = 0 then .none else .pending)
                  ∧ o.dwell = param 0 150 20 600 r.dwell ∧ o.ramp = param 1 50 20 80 r.ramp ∧ o.window = window
                  ∧ o.starvation = param 3 10 1 60 r.starvation ∧ o.lowWater = param 4 8 0 64 r.lowWater
                  ∧ o.threshold = param 5 1 1 256 r.threshold ∧ o.bandW = bandW
                  ∧ o.rh = param 7 400 64 576 r.rh ∧ o.rv = param 8 320 64 448 r.rv ∧ o.contrast = param 9 40 1 255 r.contrast
                  ∧ o.asymmetry = param 10 50 0 200 r.asymmetry ∧ o.offCentre = param 11 100 0 500 r.offCentre
                  ∧ o.frameLimit = param 12 6 1 16 r.frameLimit
                  ∧ o.lower = limit r.lower ∧ o.upper = limit r.upper ∧ o.caseLimit = limit r.caseLimit))

/-- ADD POINTS is checked in the order of R31, an id not in the table first.  An accepted batch is appended, each point taking a pool
entry; an OPEN order whose list is closed while empty ends COMPLETED, another OPEN order may be granted the head, the head owner waiting
in AWAIT_POINTS goes on from its boundary, and in every other state the points wait in the list (R32, R33).  That the low-water flag is
re-armed before the grant or the take that the append leads to (log entry 32), and that the response carries the pool's free count
right after the append (log entry 33), are the model's choices. -/
def Obligations.AddPointsIsCheckedAndAppended : Prop :=
  (∀ (src : Source) (r : AddPointsReq) (o : Order) (s : State), s.cal.loaded = true → s.HeadOk →
     findOrder r.orderId s = .some o →
     let depths := r.points.map (·.depth)
     let within (st : Station) (e : PointEntry) : Prop :=
       -50000000 ≤ e.x + st.x ∧ e.x + st.x ≤ 50000000 ∧ -50000000 ≤ e.y + st.y ∧ e.y + st.y ≤ 50000000
     let badValue := (o.kind = .single ∧ r.points.length ≠ 1) ∨ (o.kind = .traverse ∧ ∃ d ∈ depths, 20000000 < d)
     let badOrder := o.kind = .traverse ∧ ¬ (o.lastDepth.toList ++ depths).Pairwise (· < ·)
     let inTravel := ∀ e ∈ r.points, within (stationRecord o.indenter s) e ∧ within (stationRecord o.objective s) e
     let tooMany := s.poolFree - returnReserve s < r.points.length
     let refused (st : Status) : Prop := exec (.addPoints src r) s = .next (answered (.addPoints src r) src st [] s)
     let points := o.points ++ r.points.map fun e =>
       { tag := e.tag, x := e.x, y := e.y, depth := if o.kind = .traverse then .some e.depth else .none }
     let o1 : Order :=
       { o with points := points
                lastReceived := r.last || decide (o.kind = .single)
                lastDepth := if o.kind = .traverse ∧ r.points ≠ [] then depths.getLast? else o.lastDepth
                lowArmed := o.lowArmed || decide (o.lowWater < points.length) }
     let s1 : State :=
       { s with table := { s.table with orders := s.table.orders.map fun x => if x.id = o.id then o1 else x }
                poolFree := s.poolFree - r.points.length }
     let accepted (t : State) : Prop :=
       exec (.addPoints src r) s
         = .next (answered (.addPoints src r) src .accepted (bytesOf 2 points.length ++ bytesOf 2 s1.poolFree) t)
     (o.status = .ended → refused .noOrder)
       ∧ (o.status ≠ .ended → o.origin ≠ src.port → refused .notOwner)
       ∧ (o.status ≠ .ended → o.origin = src.port → o.lastReceived = true → refused .badState)
       ∧ (o.status ≠ .ended → o.origin = src.port → o.lastReceived = false → badValue → refused .badValue)
       ∧ (o.status ≠ .ended → o.origin = src.port → o.lastReceived = false → ¬badValue → badOrder → refused .depthOrder)
       ∧ (o.status ≠ .ended → o.origin = src.port → o.lastReceived = false → ¬badValue → ¬badOrder → ¬inTravel →
           refused .outOfTravel)
       ∧ (o.status ≠ .ended → o.origin = src.port → o.lastReceived = false → ¬badValue → ¬badOrder → inTravel → tooMany →
           refused .full)
       ∧ (o.status ≠ .ended → o.origin = src.port → o.lastReceived = false → ¬badValue → ¬badOrder → inTravel → ¬tooMany →
           (o.status = .opened → o1.lastReceived = true → points = [] → accepted (endOrder o.id .completed .none s1))
             ∧ (o.status = .opened → ¬(o1.lastReceived = true ∧ points = []) → r.points ≠ [] → accepted (grant s1))
             ∧ (o.status = .opened → ¬(o1.lastReceived = true ∧ points = []) → r.points = [] → accepted s1)
             ∧ (o.status ≠ .opened → s.seq.state = .awaitPoints → (r.points ≠ [] ∨ r.last = true) →
                 accepted (boundary (stopStarvation s1)))
             ∧ (o.status ≠ .opened → ¬(s.seq.state = .awaitPoints ∧ (r.points ≠ [] ∨ r.last = true)) → accepted s1)))
    ∧ (∀ (src : Source) (r : AddPointsReq) (s : State), s.cal.loaded = true → (∀ o ∈ s.table.orders, o.id ≠ r.orderId) →
         exec (.addPoints src r) s = .next (answered (.addPoints src r) src .noOrder [] s))

/-- CANCEL ORDER on an OPEN order ends it CANCELLED at once: its points go back to the pool and are counted discarded, its causes are
cleared, its summary is formed as R151 and R152 give it, and ORDER ENDED and then RESULTS WAITING are posted to its origin port (R9,
R25).  The cancel of the head owner completes in the order of R27: each listed impression is recorded UNMEASURED/CANCELLED, front to
back, the points still listed are discarded, the order ends CANCELLED, and the head is released, after which a grant is considered. -/
def Obligations.CancelEndsAnOpenOrder : Prop :=
  (∀ (src : Source) (id : Nat) (o : Order) (s : State), s.cal.loaded = true → s.HeadOk →
     findOrder id s = .some o → o.status = .opened → o.origin = src.port → (s.port src.port).notices.length ≤ 30 →
     let counts : Counts := { o.counts with discarded := o.counts.discarded + o.points.length }
     let n := o.counts.auto + o.counts.manual
     let m : Summary :=
       { orderId := o.id, origin := o.origin, kind := o.kind, method := o.method, forceCode := o.forceCode
         outcome := .cancelled, abortReason := .none, counts := counts, minHardness := o.minHardness
         maxHardness := o.maxHardness, mean := if n = 0 then .none else .some ((o.hardnessSum + n / 2) / n)
         caseStatus :=
           if o.caseLimit = .none then .none
           else if o.crossingFound then o.caseStatus
           else if n < 2 then .noResult else .notReached
         caseValue :=
           if o.caseLimit = .none then .none
           else if o.crossingFound then o.caseValue
           else if n < 2 then .none else o.prevMeasured.map (·.1)
         firstSeq := o.firstSeq, lastSeq := o.lastSeq, clamped := o.clamped }
     ∃ t : State,
       exec (.cancelOrder src id) s = .next (answered (.cancelOrder src id) src .accepted [] t)
         ∧ t.table = { s.table with orders := s.table.orders.map fun x =>
             if x.id = o.id then
               { o with status := .ended, outcome := .some .cancelled, abortReason := .none, holds := ⟨false, false, false⟩
                        pendingHolds := ⟨false, false⟩, cancelPending := false, points := [], counts := counts
                        summary := .some m }
             else x }
         ∧ t.poolFree = s.poolFree + o.points.length
         ∧ t.store = s.store.setArmed src.port false
         ∧ t.port src.port = { s.port src.port with
             notices := (s.port src.port).notices ++
               [{ kind := .orderEnded, orderId := o.id, origin := .some src.port, seq := o.lastSeq.getD 0, value := 2 },
                { kind := .resultsWaiting, orderId := o.id, origin := .some src.port, seq := o.lastSeq.getD 0
                  value := s.store.waiting src.port }]
             attention := true }
         ∧ t.port src.port.other = s.port src.port.other
         ∧ t = { s with portA := t.portA, portB := t.portB, table := t.table, poolFree := t.poolFree, store := t.store })
    ∧ (∀ (o : Order) (s : State), s.HeadOk → ownerOf s = .some o →
         ∃ t : State, completeCancel o s = considerGrant t
           ∧ headEnded o .cancelled .none
               (s.seq.impressions.map fun i => recordOf o (CurPoint.ofImpression i) .unmeasured .cancelled s) s t)

/-- CANCEL ORDER is answered NO_ORDER for an id not in the table and for an ENDED order, and NOT_OWNER from the other port, with nothing
changed (R25).  On the head owner it sets cancel pending and acts by the sequencer's state: before contact the indenter is retracted, in
RAMP and DWELL the cycle unloads, in UNLOAD and the view states the work runs to its end, in RETRACT it goes on, and in the waiting
states the cancel completes at once, an impression held or under review first recorded UNMEASURED/CANCELLED; while a stop is in
progress only cancel pending is set; and with it already set, or in a RETRACT on the abort path, nothing changes (R25 to R27, R62). -/
def Obligations.CancelActsOnTheWorkInHand : Prop :=
  (∀ (src : Source) (id : Nat) (o : Order) (s : State), s.cal.loaded = true → findOrder id s = .some o →
     (o.status = .running ∨ o.status = .held) → o.origin = src.port →
     let leaves (t : State) : Prop :=
       exec (.cancelOrder src id) s = .next (answered (.cancelOrder src id) src .accepted [] t)
     let s1 : State := { s with table := { s.table with
       orders := s.table.orders.map fun x => if x.id = o.id then { x with cancelPending := true } else x } }
     let retract (p : Pins) (k : CycleTimers) : State :=
       { s1 with
         seq := { s.seq with state := .retract, purpose := .some .cancel, timers := { k with retract := .some 5000 } }
         force := { s.force with setPoint := 0 }, pins := p }
     let acts : Prop := o.cancelPending = false ∧ abortReasonHeld s = .none
     (o.cancelPending = true ∨ (abortReasonHeld s).isSome = true → leaves s)
       ∧ (acts → s.seq.stopFlag = true → leaves s1)
       ∧ (acts → s.seq.stopFlag = false → s.seq.state = .moveIndent →
           leaves (retract (if s.seq.stageOutstanding then { s.pins with stage := .stop } else s.pins)
             { s.seq.timers with stage := .none, turret := .none }))
       ∧ (acts → s.seq.stopFlag = false → s.seq.state = .tare → leaves (retract s.pins s.seq.timers))
       ∧ (acts → s.seq.stopFlag = false → s.seq.state = .approach →
           leaves (retract s.pins { s.seq.timers with approach := .none }))
       ∧ (acts → s.seq.stopFlag = false → s.seq.state ∈ [.ramp, .dwell] →
           leaves { s1 with
             seq := { s.seq with state := .unload, timers := { s.seq.timers with unload := .some 5000 } }
             force := { s.force with setPoint := 0 } })
       ∧ (acts → s.seq.stopFlag = false →
           s.seq.state ∈ [.unload, .moveView, .settle, .focus, .measure, .retract] → leaves s1)
       ∧ (acts → s.seq.stopFlag = false → s.seq.state = .awaitPoints →
           leaves (afterGrant (completeCancel o (stopStarvation s1))))
       ∧ (acts → s.seq.stopFlag = false → s.seq.state = .storeWait →
           leaves (afterGrant (completeCancel o s1)))
       ∧ (acts → s.seq.stopFlag = false → s.seq.state = .paused →
           leaves (afterGrant (completeCancel o (recordCurrent o .unmeasured .cancelled s1))))
       ∧ (acts → s.seq.stopFlag = false → s.seq.state = .reviewWait →
           leaves (afterGrant (completeCancel o
             (closeReview .cancelled (fun x => { x with state := .unmeasured, reason := .cancelled }) s1)))))
    ∧ (∀ (src : Source) (id : Nat) (s : State), s.cal.loaded = true →
         let refused (st : Status) : Prop := exec (.cancelOrder src id) s = .next (answered (.cancelOrder src id) src st [] s)
         ((∀ o ∈ s.table.orders, o.id ≠ id) → refused .noOrder)
           ∧ ∀ o, findOrder id s = .some o →
               (o.status = .ended → refused .noOrder) ∧ (o.status ≠ .ended → o.origin ≠ src.port → refused .notOwner))

/-- HOLD ORDER is answered by the checks of R21 and acts by the order's state: OWN is added to the causes of an OPEN or a HELD order,
holds a RUNNING order that waits at a boundary at once, and is pending for any other RUNNING order; with OWN already there nothing
changes. -/
def Obligations.HoldOrderActsByState : Prop :=
  ∀ (src : Source) (id : Nat) (s : State), s.cal.loaded = true →
    let refused (st : Status) : Prop := exec (.holdOrder src id) s = .next (answered (.holdOrder src id) src st [] s)
    let accepted (t : State) : Prop := exec (.holdOrder src id) s = .next (answered (.holdOrder src id) src .accepted [] t)
    let change (f : Order → Order) : State := { s with table := { s.table with
      orders := s.table.orders.map fun x => if x.id = id then f x else x } }
    let own (x : Order) : Order := { x with holds := { x.holds with own := true } }
    (findOrder id s = .none → refused .noOrder)
      ∧ ∀ o, findOrder id s = .some o →
        (o.status = .ended → refused .noOrder)
          ∧ (o.status ≠ .ended → o.origin ≠ src.port → refused .notOwner)
          ∧ (o.status ≠ .ended → o.origin = src.port → (o.holds.own = true ∨ o.pendingHolds.own = true) → accepted s)
          ∧ (o.status ≠ .ended → o.origin = src.port → o.holds.own = false → o.pendingHolds.own = false →
              (o.status = .opened → accepted (change own))
                ∧ (o.status = .held → accepted (change own))
                ∧ (o.status = .running → s.seq.state ∈ [.awaitPoints, .storeWait] →
                    accepted { change (fun x => { own x with status := .held }) with
                      seq := { s.seq with state := .paused, timers := { s.seq.timers with starvation := .none } }
                      force := { s.force with setPoint := 0 } })
                ∧ (o.status = .running → s.seq.state ∉ [.awaitPoints, .storeWait] →
                    accepted (change fun x => { x with pendingHolds := { x.pendingHolds with own := true } })))

/-- RESUME ORDER is answered NO_ORDER for an id not in the table and for an ENDED order, NOT_OWNER from the other port, and then BAD_STATE
while the door reads open, with nothing changed.  Otherwise it removes OWN and INTERLOCK and the pending OWN; an OPEN order left with no
cause may be granted the head, and the HELD head owner left with none is RUNNING and goes on from where the sequencer stands: from
PAUSED it views the impression it holds, or goes through its boundary, and an open review is superseded (R22, R65, R134). -/
def Obligations.ResumeOrderRemovesItsCauses : Prop :=
  (∀ (src : Source) (id : Nat) (o : Order) (s : State), s.cal.loaded = true → findOrder id s = .some o →
     o.status ≠ .ended → o.origin = src.port →
     let leaves (t : State) : Prop :=
       exec (.resumeOrder src id) s = .next (answered (.resumeOrder src id) src .accepted [] t)
     let change (f : Order → Order) : State := { s with table := { s.table with
       orders := s.table.orders.map fun x => if x.id = o.id then f x else x } }
     let drop (x : Order) : Order :=
       { x with holds := ⟨false, x.holds.device, false⟩, pendingHolds := { x.pendingHolds with own := false } }
     let lacks := o.holds.own = false ∧ o.holds.interlock = false ∧ o.pendingHolds.own = false
     (doorClosed s = false → exec (.resumeOrder src id) s = .next (answered (.resumeOrder src id) src .badState [] s))
       ∧ (doorClosed s = true → lacks → leaves s)
       ∧ (doorClosed s = true → ¬lacks → o.holds.device = true → leaves (change drop))
       ∧ (doorClosed s = true → ¬lacks → o.holds.device = false → o.status = .running → leaves (change drop))
       ∧ (doorClosed s = true → ¬lacks → o.holds.device = false → o.status = .opened → leaves (grant (change drop)))
       ∧ (doorClosed s = true → ¬lacks → o.holds.device = false → o.status = .held →
           let s1 := change fun x => { drop x with status := .running }
           (s.seq.state = .paused → s.seq.cur.isSome = true →
               leaves (enterMoveView o s1))
             ∧ (s.seq.state = .paused → s.seq.cur = .none → leaves (boundary s1))
             ∧ (s.seq.state = .reviewWait → leaves (supersedeReview o s1))
             ∧ (s.seq.state ≠ .paused → s.seq.state ≠ .reviewWait → leaves s1)))
    ∧ (∀ (src : Source) (id : Nat) (s : State), s.cal.loaded = true →
         let refused (st : Status) : Prop := exec (.resumeOrder src id) s = .next (answered (.resumeOrder src id) src st [] s)
         ((∀ o ∈ s.table.orders, o.id ≠ id) → refused .noOrder)
           ∧ ∀ o, findOrder id s = .some o →
               (o.status = .ended → refused .noOrder) ∧ (o.status ≠ .ended → o.origin ≠ src.port → refused .notOwner))

/-- HOLD ALL sets the device hold flag and gives DEVICE to the head owner, and RESUME ALL clears the flag and takes DEVICE from every
order, each HELD order left with no cause becoming RUNNING and going on as after RESUME ORDER; with the flag already set HOLD ALL
changes nothing further (R23, R24). -/
def Obligations.HoldAllAndResumeAll : Prop :=
  ∀ (src : Source) (s : State), s.cal.loaded = true → s.HeadOk →
    let holds (t : State) : Prop := exec (.holdAll src) s = .next (answered (.holdAll src) src .accepted [] t)
    let flag (b : Bool) : State := { s with arb := { s.arb with deviceHold := b } }
    let change (f : Order → Order) : State := { flag true with table := { s.table with
      orders := s.table.orders.map fun x => if s.arb.owner = .some x.id then f x else x } }
    let device (x : Order) : Order := { x with holds := { x.holds with device := true } }
    let drop (x : Order) : Order :=
      let h : Holds := { x.holds with device := false }
      { x with holds := h, pendingHolds := { x.pendingHolds with device := false }
               status := if x.status = .held ∧ h.own = false ∧ h.interlock = false then .running else x.status }
    let freed : State := { flag false with table := { s.table with orders := s.table.orders.map drop } }
    let resumes (t : State) : Prop := exec (.resumeAll src) s = .next (answered (.resumeAll src) src .accepted [] t)
    (s.arb.deviceHold = true → holds s)
      ∧ (s.arb.deviceHold = false → ownerOf s = .none → holds (flag true))
      ∧ (∀ o, ownerOf s = .some o → s.arb.deviceHold = false → (o.holds.device = true ∨ o.pendingHolds.device = true) →
          holds (flag true))
      ∧ (∀ o, ownerOf s = .some o → s.arb.deviceHold = false → o.holds.device = false → o.pendingHolds.device = false →
          (o.status = .held → holds (change device))
            ∧ (o.status = .running → s.seq.state ∈ [.awaitPoints, .storeWait] →
                holds { change (fun x => { device x with status := .held }) with
                  seq := { s.seq with state := .paused, timers := { s.seq.timers with starvation := .none } }
                  force := { s.force with setPoint := 0 } })
            ∧ (o.status = .running → s.seq.state ∉ [.awaitPoints, .storeWait] →
                holds (change fun x => { x with pendingHolds := { x.pendingHolds with device := true } })))
      ∧ (s.arb.owner = .none → resumes (grant freed))
      ∧ (∀ o, ownerOf s = .some o → (o.status = .running ∨ o.holds.own = true ∨ o.holds.interlock = true
            ∨ s.seq.state ∉ [.paused, .reviewWait]) → resumes freed)
      ∧ (∀ o, ownerOf s = .some o → o.status = .held → o.holds.own = false → o.holds.interlock = false →
          (s.seq.state = .paused → s.seq.cur.isSome = true → resumes (enterMoveView o freed))
            ∧ (s.seq.state = .paused → s.seq.cur = .none → resumes (grant (boundary freed)))
            ∧ (s.seq.state = .reviewWait → resumes (grant (supersedeReview o freed))))

/-- TAKE HEAD and FREE HEAD: the lock passes to the asking port, or becomes free, with HEAD LOCK to both ports and a grant considered;
asked again by its holder, or freed when free, nothing changes; from the other port they are answered LOCKED (R17, R18).  With the
lock held the choice of a grant falls on no order of the other port, and a grant never takes the head from its owner. -/
def Obligations.TakeHeadAndFreeHead : Prop :=
  ∀ (src : Source) (s : State), s.cal.loaded = true →
    let takes (st : Status) (t : State) : Prop := exec (.takeHead src) s = .next (answered (.takeHead src) src st [] t)
    let frees (st : Status) (t : State) : Prop := exec (.freeHead src) s = .next (answered (.freeHead src) src st [] t)
    let locked (h : Option Port) : State :=
      grant (postBoth { kind := .headLock, orderId := 0, origin := .none, seq := 0
                        value := if h = .none then 0 else if h = .some .A then 1 else 2 }
        { s with arb := { s.arb with lock := h } })
    (s.arb.lock = .none → takes .accepted (locked (.some src.port)) ∧ frees .accepted s)
      ∧ (s.arb.lock = .some src.port → takes .accepted s ∧ frees .accepted (locked .none))
      ∧ (s.arb.lock = .some src.port.other → takes .locked s ∧ frees .locked s)
      ∧ (∀ p, s.arb.lock = .some p → ∀ o, chooseOrder s = .some o → o.origin = p)
      ∧ (s.arb.owner.isSome = true → grant s = s)

/-- The arbiter's choice: an order is chosen exactly when one is eligible; it is eligible itself, it is of the port other than the
last-granted one where that port has an eligible order, and no eligible order of its port has an earlier open rank (R12, R14).  A
grant, considered with no head owner, makes the chosen order the owner and RUNNING, turns the rotation to its port and posts ORDER
STARTED to it; POINTS LOW follows where the list is already at its low-water count.  The new owner then goes through its point boundary
(R15, R47).  With an owner, or with no order to choose, nothing changes (R13, R15, R34; that ORDER STARTED comes first is the model's
choice, log entry 13).  Every effect that ends in `grant`, or in `afterGrant` of a head just released, ends in this. -/
def Obligations.GrantGoesToTheRightOrder : Prop :=
  (∀ s : State,
     let ok (o : Order) : Prop :=
       o ∈ s.table.orders ∧ o.status = .opened ∧ o.holds = ⟨false, false, false⟩ ∧ o.points ≠ [] ∧ s.arb.deviceHold = false
         ∧ s.inputs.door.level = .some .isClosed ∧ s.inputs.estop.level = .some .clear
         ∧ (s.arb.lock = .none ∨ s.arb.lock = .some o.origin) ∧ s.cal.loaded = true
         ∧ conditionOf 6 s ≠ .loadFault
     (chooseOrder s = .none ↔ ∀ o, ¬ok o)
       ∧ ∀ o, chooseOrder s = .some o →
           ok o ∧ (∀ p, ok p → p.origin = o.origin → o.rank ≤ p.rank)
             ∧ (o.origin = s.arb.lastGranted → ∀ p, ok p → p.origin = s.arb.lastGranted))
    ∧ (∀ s : State,
         (s.arb.owner ≠ .none ∨ chooseOrder s = .none → considerGrant s = (s, false) ∧ grant s = s)
           ∧ ∀ o, chooseOrder s = .some o → s.HeadOk → s.arb.owner = .none →
               let due := o.lowArmed && !o.lastReceived && decide (o.points.length ≤ o.lowWater)
               let about (k : NoticeKind) (v : Nat) : Notice :=
                 { kind := k, orderId := o.id, origin := .some o.origin, seq := 0, value := v }
               let posts := about .orderStarted 0 :: if due then [about .pointsLow o.points.length] else []
               let posted : State := posts.foldl (fun u n => postTo o.origin n u) s
               let granted : State :=
                 { posted with
                   table := { s.table with orders := s.table.orders.map fun x =>
                     if x.id = o.id then { x with status := .running, lowArmed := x.lowArmed && !due } else x }
                   arb := { s.arb with owner := .some o.id, lastGranted := o.origin } }
               considerGrant s = (granted, true) ∧ grant s = boundary granted
                 ∧ ((s.port o.origin).notices.length ≤ 30 →
                     posted = s.modPort o.origin fun q => { q with notices := q.notices ++ posts, attention := true }))
    ∧ ∀ t : State, afterGrant (t, true) = boundary t ∧ afterGrant (t, false) = t

/-- The starvation timer's expiry makes the head owner yield: it is OPEN again with its pending causes cleared, ORDER YIELDED is posted
to its origin port, the head is released and a grant considered (R16, R28).  That an expiry of a stopped timer does nothing is the
model's choice (log entry 9). -/
def Obligations.StarvedOrderYields : Prop :=
  ∀ s : State,
    (s.seq.timers.starvation = .none → exec .starvationTimerExpiry s = .next s)
      ∧ ∀ o, ownerOf s = .some o → s.seq.timers.starvation.isSome = true → s.seq.state = .awaitPoints →
          s.seq.cur = .none → s.seq.impressions = [] → s.seq.purpose = .none → s.seq.stopFlag = false →
          exec .starvationTimerExpiry s
            = .next (grant (postTo o.origin
                { kind := .orderYielded, orderId := o.id, origin := .some o.origin, seq := 0, value := 0 }
                { s with
                  table := { s.table with orders := s.table.orders.map fun x =>
                    if x.id = o.id then { x with status := .opened, pendingHolds := ⟨false, false⟩ } else x }
                  arb := { s.arb with owner := .none }
                  seq := { s.seq with state := .idle, round := .indent
                                      timers := { s.seq.timers with starvation := .none } }
                  force := { s.force with setPoint := 0 } }))

/-- READ SUMMARY answers NO_ORDER, NOT_OWNER, BAD_STATE or the summary, in that order, and the summary read frees its slot (R10). -/
def Obligations.ReadSummaryFreesTheSlot : Prop :=
  ∀ (src : Source) (id : Nat) (s : State), s.cal.loaded = true → s.PoolOk →
    let leaves (st : Status) (body : List Byte) (t : State) : Prop :=
      exec (.readSummary src id) s = .next (answered (.readSummary src id) src st body t)
    ((∀ o ∈ s.table.orders, o.id ≠ id) → leaves .noOrder [] s)
      ∧ ∀ o ∈ s.table.orders, o.id = id →
          (o.origin ≠ src.port → leaves .notOwner [] s)
            ∧ (o.origin = src.port → o.status ≠ .ended → leaves .badState [] s)
            ∧ (o.origin = src.port → o.status = .ended → ∃ m, o.summary = .some m
                ∧ leaves .accepted (summaryBytes m)
                    { s with table := { s.table with orders := s.table.orders.filter (·.id ≠ id) } })

/-! ## The result store and the review desk -/

/-- READ RESULTS returns the records from a seq on, in store order, no more than the max n and the record limit of the asking port;
with them their count, the next-from value and the more flag; it changes nothing (R142). -/
def Obligations.ReadResultsReturnsTheRecords : Prop :=
  ∀ (src : Source) (first maxN : Nat) (s : State), s.cal.loaded = true →
    let limit := if (s.port src.port).options.longFrames then 18 else 4
    let out := (s.store.records.filter fun r => decide (first ≤ r.seq)).take (if maxN = 0 then limit else min maxN limit)
    let next := (out.getLast?.map (·.seq + 1)).getD (max first s.store.nextSeq)
    exec (.readResults src first maxN) s
      = .next (answered (.readResults src first maxN) src .accepted
          (bytesOf 1 out.length ++ bytesOf 4 next ++ bytesOf 1 (if ∃ r ∈ s.store.records, next ≤ r.seq then 1 else 0)
            ++ out.flatMap recordBytes) s)

/-- RELEASE RESULTS removes the asking port's records up to a seq, but for one in REVIEW, and answers with the number removed, the
port's waiting count and the store's count; the port's RESULTS WAITING is armed again, and where a record went the sequencer leaves
STORE_WAIT for the boundary steps (R143). -/
def Obligations.ReleaseResultsFreesRoom : Prop :=
  ∀ (src : Source) (through : Nat) (s : State), s.cal.loaded = true → s.StoreOk →
    let p := src.port
    let goes (r : Record) : Bool := r.origin = p && decide (r.seq ≤ through) && r.state ≠ .review
    let kept := s.store.records.filter fun r => !goes r
    let n := s.store.records.length - kept.length
    let mine := kept.countP (·.origin = p)
    let st : ResultStore :=
      { records := kept, nextSeq := s.store.nextSeq
        waitingA := if p = .A then mine else s.store.waitingA, waitingB := if p = .B then mine else s.store.waitingB
        armedA := s.store.armedA || decide (p = .A), armedB := s.store.armedB || decide (p = .B) }
    exec (.releaseResults src through) s
      = .next (answered (.releaseResults src through) src .accepted
          (bytesOf 2 n ++ bytesOf 2 mine ++ bytesOf 2 kept.length)
          (if n ≠ 0 ∧ s.seq.state = .storeWait then boundary { s with store := st } else { s with store := st }))

/-- CLAIM REVIEW: CLOSED where no review of that seq is open; else the first port to ask becomes the claimant, asking again is accepted
with no effect, and the other port is answered TAKEN (R127).  ENTER DIAGONALS and REJECT IMPRESSION are refused CLOSED, BAD_STATE or
TAKEN in that order, and an entry out of range BAD_VALUE, with nothing changed (R128). -/
def Obligations.ReviewIsClaimedAndChecked : Prop :=
  (∀ (src : Source) (seq : Nat) (s : State), s.cal.loaded = true →
     let leaves (st : Status) (t : State) : Prop :=
       exec (.claimReview src seq) s = .next (answered (.claimReview src seq) src st [] t)
     (s.desk.review = .none → leaves .closed s)
       ∧ ∀ v, s.desk.review = .some v →
           (v.seq ≠ seq → leaves .closed s)
             ∧ (v.seq = seq → v.claimant = .none →
                 leaves .accepted { s with desk := { s.desk with review := .some { v with claimant := .some src.port } } })
             ∧ (v.seq = seq → v.claimant = .some src.port → leaves .accepted s)
             ∧ (v.seq = seq → v.claimant = .some src.port.other → leaves .taken s))
    ∧ (∀ (src : Source) (seq d1 d2 : Nat) (s : State), s.cal.loaded = true →
         let refused (st : Status) : Prop :=
           exec (.enterDiagonals src seq d1 d2) s = .next (answered (.enterDiagonals src seq d1 d2) src st [] s)
             ∧ exec (.rejectImpression src seq) s = .next (answered (.rejectImpression src seq) src st [] s)
         (s.desk.review = .none → refused .closed)
           ∧ ∀ v, s.desk.review = .some v →
               (v.seq ≠ seq → refused .closed) ∧ (v.seq = seq → v.claimant = .none → refused .badState)
                 ∧ (v.seq = seq → v.claimant = .some src.port.other → refused .taken)
                 ∧ (v.seq = seq → v.claimant = .some src.port →
                     (d1 = 0 ∨ 3000000 < d1 ∨ d2 = 0 ∨ 3000000 < d2) →
                     exec (.enterDiagonals src seq d1 d2) s
                       = .next (answered (.enterDiagonals src seq d1 d2) src .badValue [] s)))

/-- Every close of a review by its claimant or by the window's expiry runs in the order of R131: the record is changed in place, the
review and its window are cleared, REVIEW CLOSED is posted to both ports, and the sequencer leaves REVIEW_WAIT through the boundary
steps.  An entry makes the record MANUAL with the evaluation of the pair and keeps its reason (R129); a rejection and an expiry make
it UNMEASURED with their own (R126, R130). -/
def Obligations.ReviewClosesInOrder : Prop :=
  ∀ (src : Source) (v : Review) (o : Order) (x : Record) (d1 d2 : Nat) (s : State), s.cal.loaded = true → s.ReviewOk →
    s.desk.review = .some v → ownerOf s = .some o → x ∈ s.store.records → x.seq = v.seq →
    s.portA.notices.length < 32 → s.portB.notices.length < 32 →
    let e := evaluatePair o.method (nominalForce o.forceCode) o.asymmetry o.lower o.upper d1 d2
    let closed (code : Nat) (x' : Record) : State :=
      let n : Notice := { kind := .reviewClosed, orderId := o.id, origin := .some o.origin, seq := v.seq, value := code }
      let post (q : LinkPort) : LinkPort := { q with notices := q.notices ++ [n], attention := true }
      { s with
        portA := post s.portA, portB := post s.portB, desk := { review := .none, window := .none }
        table := { s.table with orders := s.table.orders.map fun y => if y.id = o.id then reportRecord x' y else y }
        store := { s.store with records := s.store.records.map fun y => if y.seq = v.seq then x' else y } }
    (v.claimant = .some src.port → 1 ≤ d1 → d1 ≤ 3000000 → 1 ≤ d2 → d2 ≤ 3000000 →
        exec (.enterDiagonals src v.seq d1 d2) s
          = .next (answered (.enterDiagonals src v.seq d1 d2) src .accepted []
              (boundary (closed 1
                { x with state := .manual, d1 := .some d1, d2 := .some d2, hardness := .some e.hardness, verdict := e.verdict
                         flags := { x.flags with
                           asymmetric := e.asymmetric, aspect := e.aspect, overrange := e.overrange } }))))
      ∧ (v.claimant = .some src.port →
          exec (.rejectImpression src v.seq) s
            = .next (answered (.rejectImpression src v.seq) src .accepted []
                (boundary (closed 2 { x with state := .unmeasured, reason := .rejected }))))
      ∧ exec .windowTimerExpiry s = .next (boundary (closed 3 { x with state := .unmeasured, reason := .reviewExpired }))

/-! ## Calibration -/

/-- The start-up load's completion fills each record from its active slot where that reads back and passes its check, and with the
substitutes and LOAD_FAULT where it does not; it sets the loaded flag and posts one CAL FAULT for each faulty record, in record
order, to both ports (R157, R158).  That a load already complete does not complete again (log entry 9), and that the command carries
the list of the records that do not read back (log entry 18), are the model's choices. -/
def Obligations.StartupLoadFillsTheTable : Prop :=
  ∀ (unreadable : List Nat) (s : State),
    (s.cal.loaded = true → exec (.startupLoadComplete unreadable) s = .next s)
      ∧ (s.cal.loaded = false →
          let active (n : Nat) : NvSlot :=
            let r := s.cal.nv.getD n NvRecord.blank
            if r.active1 then r.slot1 else r.slot0
          let good (n : Nat) : Bool := !unreadable.contains n && slotPasses n (active n)
          let faults := ((List.range 7).filter fun n => !good n).map fun n =>
            ({ kind := .calFault, orderId := 0, origin := .none, seq := 0, value := n * 2 ^ 24 } : Notice)
          let filled : State :=
            { s with cal := { s.cal with
              stations := (List.range 6).map fun n => if good n then stationOf (active n).fields else ⟨.empty, 0, 0, .none⟩
              gain := if good 6 then (active 6).fields.gain else 1
              conditions := (List.range 7).map fun n => if good n then .sound else .loadFault
              loaded := true } }
          exec (.startupLoadComplete unreadable) s = .next (faults.foldl (fun t n => postBoth n t) filled))

/-- A commit's end stores the slot in the inactive half, which becomes the active one where it reads back and passes; where it does not,
the record is in COMMIT_FAULT.  Fields in range that read back as they were written always pass.  NV busy clears, CAL WRITTEN goes to
the writing port, and on failure CAL FAULT to both (R163).  That a completion with no commit in progress does nothing (log entry 9),
and that the command carries what reads back (log entry 18), are the model's choices. -/
def Obligations.CommitEndsInOneOfTwoWays : Prop :=
  ∀ (rb : ReadBack) (s : State),
    (s.cal.commit = .none → exec (.commitComplete rb) s = .next s)
      ∧ ∀ c, s.cal.commit = .some c → c.record ≤ 6 → s.cal.nv.length = 7 →
          let slot : NvSlot := match rb with
            | .asWritten => slotFor c.record c.fields
            | .differs slot => slot
          let passed := slotPasses c.record slot
          let old := s.cal.nv.getD c.record NvRecord.blank
          let new : NvRecord := if old.active1 then { old with slot0 := slot, active1 := !passed }
            else { old with slot1 := slot, active1 := passed }
          let written : Notice := { kind := .calWritten, orderId := 0, origin := .none, seq := 0
                                    value := c.record * 2 ^ 24 + (if passed then 0 else 1) * 2 ^ 16 + c.generation }
          let fault : Notice := { kind := .calFault, orderId := 0, origin := .none, seq := 0
                                  value := c.record * 2 ^ 24 + 1 }
          let done : State :=
            { s with cal := { s.cal with
              nv := s.cal.nv.set c.record new, nvBusy := false, commit := .none
              conditions := if passed then s.cal.conditions else s.cal.conditions.set c.record .commitFault } }
          exec (.commitComplete rb) s
            = .next (if passed then postTo c.writer written done else postBoth fault (postTo c.writer written done))
            ∧ (rb = .asWritten → calFieldsInRange c.record c.fields = true → passed = true)

/-- READ CALIBRATION reports a record's working values, condition, generation and NV busy; WRITE CALIBRATION is checked in the order of
R160, with every field of the record in the ranges of R155, the objective fields zero for every other kind (R161), and an accepted one
replaces the working values, advances the generation from 65,535 to 1, makes the record SOUND and starts its commit; the end of the
force record's LOAD_FAULT has a grant considered (R159, R160, R162). -/
def Obligations.CalibrationIsReadAndWritten : Prop :=
  ∀ (src : Source) (rec : Nat) (f : CalFields) (s : State), s.cal.loaded = true →
    let inUse := (rec ≠ 6 ∧ ∃ o ∈ s.table.orders, o.status ≠ .ended ∧ (o.indenter = rec ∨ o.objective = rec))
      ∨ (rec = 6 ∧ s.arb.owner ≠ .none)
    let refused (st : Status) : Prop :=
      exec (.writeCalibration src rec f) s = .next (answered (.writeCalibration src rec f) src st [] s)
    let gen := if s.cal.generation < 65535 then s.cal.generation + 1 else 1
    let offsets : Prop := -2000000 ≤ f.x ∧ f.x ≤ 2000000 ∧ -2000000 ≤ f.y ∧ f.y ≤ 2000000
    let objective : Prop :=
      20000 ≤ f.scale ∧ f.scale ≤ 2000000 ∧ -5000 ≤ f.diagOffset ∧ f.diagOffset ≤ 5000 ∧ 1 ≤ f.focus ∧ f.focus ≤ 1000000
    let inRange : Prop :=
      if rec = 6 then 1 ≤ f.gain ∧ f.gain ≤ 5000
      else offsets ∧ f.kind ≤ 3 ∧ if f.kind = 3 then objective else f.scale = 0 ∧ f.diagOffset = 0 ∧ f.focus = 0
    let station : Station :=
      { kind := [StationKind.empty, .vickersIndenter, .knoopIndenter, .objective].getD f.kind .empty, x := f.x, y := f.y
        objective :=
          if f.kind = 3 then .some { scale := f.scale, diagOffset := f.diagOffset, focus := f.focus } else .none }
    let written : State :=
      { s with cal := { s.cal with
        stations := if rec = 6 then s.cal.stations else s.cal.stations.set rec station
        gain := if rec = 6 then f.gain else s.cal.gain
        generation := gen, conditions := s.cal.conditions.set rec .sound, nvBusy := true
        commit := .some { record := rec, writer := src.port, generation := gen, fields := calFieldsOwn rec f } } }
    (calFieldsInRange rec f = true ↔ inRange)
      ∧ (6 < rec → refused .badValue
        ∧ exec (.readCalibration src rec) s = .next (answered (.readCalibration src rec) src .badValue [] s))
      ∧ (rec ≤ 6 →
          (exec (.readCalibration src rec) s
              = .next (answered (.readCalibration src rec) src .accepted
                  (bytesOf 1 rec
                    ++ calFieldsBytes (if rec = 6 then { CalFields.zero with gain := s.cal.gain }
                        else stationFields (stationRecord rec s))
                    ++ bytesOf 1 (conditionCode (conditionOf rec s)) ++ bytesOf 2 s.cal.generation
                    ++ bytesOf 1 (if s.cal.nvBusy then 1 else 0)) s))
            ∧ (s.cal.nvBusy = true → refused .busy)
            ∧ (s.cal.nvBusy = false → inUse → refused .inUse)
            ∧ (s.cal.nvBusy = false → ¬inUse → ¬inRange → refused .badValue)
            ∧ (s.cal.nvBusy = false → ¬inUse → inRange →
                exec (.writeCalibration src rec f) s
                  = .next (answered (.writeCalibration src rec f) src .accepted (bytesOf 2 gen)
                      (if rec = 6 ∧ conditionOf 6 s = .loadFault then grant written else written))))

/-! ## Inputs and lamps -/

/-- Each input judges its raw level at a change of its lines: back at the debounced level the candidate goes and the timer stops, at
the candidate the timer runs on, and at any other level that level becomes the candidate and the timer starts at the full debounce
time.  The other inputs and everything else stand (R167).  SET INPUTS sets the debounce times it names, of 1, 4, 16 and 64 ms, and
reports the three in force; any other value refuses the whole, and a running timer runs on as it was started (R167, R168). -/
def Obligations.InputsJudgeTheirLines : Prop :=
  (∀ (code : Nat) (s : State),
     (∀ high : Bool,
       let raw : DoorLevel := if high then .isClosed else .isOpen
       let d := s.inputs.door
       let leaves (d' : Debounced DoorLevel) : Prop :=
         exec (.inputChange (.door high)) s = .next { s with inputs := { s.inputs with door := d' } }
       (d.level = .some raw → leaves { d with candidate := .none, timer := .none })
         ∧ (d.level ≠ .some raw → d.candidate = .some raw → leaves d)
         ∧ (d.level ≠ .some raw → d.candidate ≠ .some raw → leaves { d with candidate := .some raw, timer := .some d.time }))
       ∧ (∀ high : Bool,
         let raw : EstopLevel := if high then .clear else .asserted
         let d := s.inputs.estop
         let leaves (d' : Debounced EstopLevel) : Prop :=
           exec (.inputChange (.estop high)) s = .next { s with inputs := { s.inputs with estop := d' } }
         (d.level = .some raw → leaves { d with candidate := .none, timer := .none })
           ∧ (d.level ≠ .some raw → d.candidate = .some raw → leaves d)
           ∧ (d.level ≠ .some raw → d.candidate ≠ .some raw → leaves { d with candidate := .some raw, timer := .some d.time }))
       ∧ (let d := s.inputs.station
         let leaves (d' : Debounced Nat) : Prop :=
           exec (.inputChange (.station code)) s = .next { s with inputs := { s.inputs with station := d' } }
         (d.level = .some code → leaves { d with candidate := .none, timer := .none })
           ∧ (d.level ≠ .some code → d.candidate = .some code → leaves d)
           ∧ (d.level ≠ .some code → d.candidate ≠ .some code →
               leaves { d with candidate := .some code, timer := .some d.time })))
    ∧ (∀ (src : Source) (d e c : Nat) (s : State), s.cal.loaded = true →
         let good (v : Nat) : Prop := v ∈ [0, 1, 4, 16, 64]
         let pick (v old : Nat) : Nat := if v = 0 then old else v
         let door := { s.inputs.door with time := pick d s.inputs.door.time }
         let estop := { s.inputs.estop with time := pick e s.inputs.estop.time }
         let station := { s.inputs.station with time := pick c s.inputs.station.time }
         (good d ∧ good e ∧ good c →
           exec (.setInputs src d e c) s
             = .next (answered (.setInputs src d e c) src .accepted
                 (bytesOf 1 door.time ++ bytesOf 1 estop.time ++ bytesOf 1 station.time)
                 { s with inputs := { door := door, estop := estop, station := station } }))
           ∧ (¬(good d ∧ good e ∧ good c) →
               exec (.setInputs src d e c) s = .next (answered (.setInputs src d e c) src .badValue [] s)))

/-- When the door's stability timer expires the candidate becomes its level.  The first level after cold reset posts nothing; an
opening posts INTERLOCK, holds the head owner with INTERLOCK and stops it by its state; a closing posts INTERLOCK and has a grant
considered (R166, R167, R169, R170).  That a stopped timer does not expire is the model's choice (log entry 9). -/
def Obligations.DoorIsAcceptedAndActsByState : Prop :=
  ∀ s : State,
    let leaves (t : State) : Prop := exec (.stabilityTimerExpiry .door) s = .next t
    let settled (l : DoorLevel) : State := { s with inputs := { s.inputs with
      door := { s.inputs.door with level := .some l, candidate := .none, timer := .none } } }
    let notice (v : Nat) : Notice :=
      { kind := .interlock, orderId := ((ownerOf s).map (·.id)).getD 0, origin := (ownerOf s).map (·.origin), seq := 0, value := v }
    (s.inputs.door.timer = .none → leaves s)
      ∧ (s.inputs.door.timer.isSome = true → s.inputs.door.level = .none →
          (s.inputs.door.candidate = .some .isOpen → leaves (settled .isOpen))
            ∧ (s.inputs.door.candidate = .some .isClosed → leaves (grant (settled .isClosed))))
      ∧ (s.inputs.door.timer.isSome = true → s.inputs.door.level = .some .isOpen → s.inputs.door.candidate = .some .isClosed →
          leaves (grant (postBoth (notice 2) (settled .isClosed))))
      ∧ (s.inputs.door.timer.isSome = true → s.inputs.door.level = .some .isClosed → s.inputs.door.candidate = .some .isOpen →
          let s1 := postBoth (notice 1) (settled .isOpen)
          (ownerOf s = .none → s.seq.state = .idle → leaves s1)
            ∧ ∀ o, ownerOf s = .some o →
              let s2 := { s1 with table := { s.table with orders := s.table.orders.map fun x =>
                if x.id = o.id then { x with holds := { x.holds with interlock := true }, status := .held } else x } }
              let stops (t : State) : State :=
                { t with
                  pins := if s.seq.stageOutstanding then { s.pins with stage := .stop } else s.pins
                  seq := { t.seq with
                    stopFlag := true
                    timers := { s.seq.timers with stage := .none, turret := .none, approach := .none, retract := .some 5000 } } }
              (s.seq.stopFlag = true → leaves s2)
                ∧ (s.seq.stopFlag = false → s.seq.state ∈ [.unload, .reviewWait, .retract, .paused] → leaves s2)
                ∧ (s.seq.stopFlag = false → s.seq.state ∈ [.awaitPoints, .storeWait] →
                    leaves { s2 with
                      seq := { s.seq with state := .paused, timers := { s.seq.timers with starvation := .none } }
                      force := { s.force with setPoint := 0 } })
                ∧ (s.seq.stopFlag = false → s.seq.state ∈ [.moveIndent, .tare, .approach, .moveView] → leaves (stops s2))
                ∧ (s.seq.stopFlag = false → s.seq.state ∈ [.settle, .focus, .measure] → leaves (stops (stopView s2)))
                ∧ (s.seq.stopFlag = false → s.seq.state ∈ [.ramp, .dwell] →
                    leaves { s2 with
                      seq := { s.seq with
                        state := .unload
                        cur := s.seq.cur.map fun c => { c with mark := .some .interrupted }
                        timers := { s.seq.timers with unload := .some 5000 } }
                      force := { s.force with setPoint := 0 } }))

/-- When the e-stop's stability timer expires its candidate becomes its level; asserting posts INTERLOCK and then takes the head owner
down the abort path with reason ESTOP, unless it already aborts, and clearing posts INTERLOCK and has a grant considered.  An accepted
station code is the level from then on, and completes the turret part of a move that was waiting for it; with the stage part done the
move phase then ends, MOVE_INDENT in TARE and MOVE_VIEW in SETTLE with its view started (R51 to R53, R58, R166, R167, R171, R173).
That a stopped timer does not expire (log entry 9) and that the acceptance of the station is itself an occasion to end the turret part
(log entry 27) are the model's choices. -/
def Obligations.EstopAndStationAreAccepted : Prop :=
  ∀ s : State,
    let estop (t : State) : Prop := exec (.stabilityTimerExpiry .estop) s = .next t
    let settled (l : EstopLevel) : State := { s with inputs := { s.inputs with
      estop := { s.inputs.estop with level := .some l, candidate := .none, timer := .none } } }
    let notice (v : Nat) : Notice :=
      { kind := .interlock, orderId := ((ownerOf s).map (·.id)).getD 0, origin := (ownerOf s).map (·.origin), seq := 0, value := v }
    (s.inputs.estop.timer = .none → estop s)
      ∧ (s.inputs.estop.timer.isSome = true → s.inputs.estop.level = .none →
          (s.inputs.estop.candidate = .some .asserted → estop (settled .asserted))
            ∧ (s.inputs.estop.candidate = .some .clear → estop (grant (settled .clear))))
      ∧ (s.inputs.estop.timer.isSome = true → s.inputs.estop.level = .some .asserted →
          s.inputs.estop.candidate = .some .clear → estop (grant (postBoth (notice 4) (settled .clear))))
      ∧ (s.inputs.estop.timer.isSome = true → s.inputs.estop.level = .some .clear →
          s.inputs.estop.candidate = .some .asserted →
          let s1 := postBoth (notice 3) (settled .asserted)
          ((abortReasonHeld s).isSome = true ∨ ownerOf s = .none → estop s1)
            ∧ (abortReasonHeld s = .none → estop (abortPath .estop false s1)))
      ∧ (s.inputs.station.timer = .none → exec (.stabilityTimerExpiry .station) s = .next s)
      ∧ (∀ code, s.inputs.station.candidate = .some code → s.inputs.station.timer.isSome = true →
          let leaves (t : State) : Prop := exec (.stabilityTimerExpiry .station) s = .next t
          let s1 : State := { s with inputs := { s.inputs with
            station := { s.inputs.station with level := .some code, candidate := .none, timer := .none } } }
          let turret : Sequencer := { s.seq with turretPart := true, timers := { s.seq.timers with turret := .none } }
          ((inMove s = false ∨ s.seq.turretPart = true ∨ s.seq.turretOutstanding = true) → leaves s1)
            ∧ ∀ o, ownerOf s = .some o → inMove s = true → s.seq.turretPart = false → s.seq.turretOutstanding = false →
                (code ≠ requestedStation o s ∨ 6 ≤ code → leaves s1)
                  ∧ (code = requestedStation o s → code < 6 → s.seq.stagePart = false → leaves { s1 with seq := turret })
                  ∧ (code = requestedStation o s → code < 6 → s.seq.stagePart = true → s.seq.state = .moveIndent →
                      leaves { s1 with
                        seq := { turret with state := .tare }
                        force := { s.force with setPoint := 0, tareSum := 0, tareCount := 0 } })
                  ∧ (code = requestedStation o s → code < 6 → s.seq.stagePart = true → s.seq.state = .moveView →
                      leaves { s1 with
                        seq := { turret with state := .settle }, force := { s.force with setPoint := 0 }
                        cap := { s.cap with
                          params := .some { bandW := o.bandW, rh := o.rh, frameLimit := o.frameLimit
                                            threshold := (objectiveFields o.objective s).focus }
                          framesScored := 0, phase := .settle, expose := true, frameTimer := .some 1000 } }))

/-- The abort path of an order that holds the head: the stage is stopped, the view ended, the set-point zero and the order's timers
stopped, and the sequencer retracts with purpose ABORT and a new 5 s; in REVIEW_WAIT the open review is closed besides, with outcome
ABORTED and its record UNMEASURED/ABORTED (R52, R66, R98, R133).  Where the retract time is counted as spent the abort records follow at
once: the current point, UNMEASURED where it is indented and else SKIPPED, with the force values it has gathered, then each listed
impression, and the points left are discarded; the order ends ABORTED, the head is released and a grant considered (R67).  That the view
parameters and the closed flags go with the view is the model's choice (log entry 16). -/
def Obligations.AbortPathBringsTheHeadToRest : Prop :=
  (∀ (why : AbortReason) (s : State), (ownerOf s).isSome = true →
     let free (k : Bank) : Bank := { k with role := .free, score := .none, inLine := false, closed := false }
     let stopped : CaptureUnit :=
       if s.cap.phase = .none then s.cap
       else { s.cap with expose := false, frameTimer := .none, scoring := [], framesScored := 0, phase := .none
                         params := .none, bank0 := free s.cap.bank0, bank1 := free s.cap.bank1 }
     let retracts : State :=
       { s with
         pins := if s.seq.stageOutstanding then { s.pins with stage := .stop } else s.pins
         cap := stopped, engine := .none, force := { s.force with setPoint := 0 }
         seq := { s.seq with
           state := .retract, purpose := .some (.abort why), stopFlag := false
           cur := s.seq.cur.map fun c => { c with framesUsed := 0, softFocus := false }
           timers := ⟨.none, .none, .none, .none, .some 5000, .none⟩ } }
     (s.seq.state ≠ .reviewWait → abortPath why false s = retracts)
       ∧ (∀ (v : Review) (o : Order) (x : Record), s.ReviewOk → s.desk.review = .some v → ownerOf s = .some o →
           x ∈ s.store.records → x.seq = v.seq → s.portA.notices.length < 32 → s.portB.notices.length < 32 →
           let x' : Record := { x with state := .unmeasured, reason := .aborted }
           let n : Notice := { kind := .reviewClosed, orderId := o.id, origin := .some o.origin, seq := v.seq, value := 5 }
           let post (q : LinkPort) : LinkPort := { q with notices := q.notices ++ [n], attention := true }
           abortPath why false s =
             { retracts with
               portA := post s.portA, portB := post s.portB, desk := { review := .none, window := .none }
               table := { s.table with orders := s.table.orders.map fun y => if y.id = o.id then reportRecord x' y else y }
               store := { s.store with records := s.store.records.map fun y => if y.seq = v.seq then x' else y } })
       ∧ abortPath why true s = abortRecords why (abortPath why false s))
    ∧ (∀ (why : AbortReason) (o : Order) (s : State), s.HeadOk → ownerOf s = .some o →
         let gathered (c : CurPoint) : CurPoint :=
           if c.indented = true ∧ c.handed = false then
             { c with peak := s.force.peak, achieved := s.force.dwellCount / 100, deviation := s.force.deviation
                      framesUsed := 0, softFocus := false }
           else { c with framesUsed := 0, softFocus := false }
         let written : List Record :=
           (s.seq.cur.toList.map fun c => recordOf o (gathered c) (if c.indented then .unmeasured else .skipped) .aborted s)
             ++ s.seq.impressions.map fun i => recordOf o (CurPoint.ofImpression i) .unmeasured .aborted s
         ∃ t : State, abortRecords why s = afterGrant (considerGrant t)
           ∧ headEnded o .aborted (.some why) written
               { s with seq := { s.seq with timers := { s.seq.timers with retract := .none } } } t)

/-- SET LAMP sets the modes it names and reports the three in force; any other value refuses the whole (R176).  Each of the three lamps
shows its forced pattern whatever the part's state, and in AUTO the highest-ranked of its indications, or OFF: GREEN with the table
loaded and the e-stop clear; AMBER FAST in PAUSED, SLOW in REVIEW_WAIT, ON with an order holding the head; RED FAST with an order
holding the head and the door not closed, SLOW with a faulty record, ON with the e-stop not clear (R174, R175).  SLOW is on for the
first half of the 1 s timebase and FAST for every other 125 ms, and each tick moves the timebase on; the tick's length and the blink's
phase are the model's choice (log entry 5). -/
def Obligations.LampsAreSetAndBlink : Prop :=
  ∀ (src : Source) (g a r : Nat) (s : State),
    let modes (old : LampMode) : List LampMode := [old, .auto, .forced .off, .forced .on, .forced .slow, .forced .fast]
    let code (m : LampMode) : List Byte :=
      match m with
      | .auto => [1#8]
      | .forced .off => [2#8]
      | .forced .on => [3#8]
      | .forced .slow => [4#8]
      | .forced .fast => [5#8]
    let lamps : Lamps :=
      { s.lamps with green := (modes s.lamps.green).getD g .auto, amber := (modes s.lamps.amber).getD a .auto
                     red := (modes s.lamps.red).getD r .auto }
    let shows (on : Bool) (p : Pattern) : Prop :=
      on = true ↔ p = .on ∨ (p = .slow ∧ s.lamps.phase % 8 < 4) ∨ (p = .fast ∧ s.lamps.phase % 2 = 0)
    let green : Pattern := if s.cal.loaded = true ∧ s.inputs.estop.level = .some .clear then .on else .off
    let amber : Pattern :=
      if s.seq.state = .paused then .fast else if s.seq.state = .reviewWait then .slow
      else if s.arb.owner ≠ .none then .on else .off
    let red : Pattern :=
      if s.arb.owner ≠ .none ∧ s.inputs.door.level ≠ .some .isClosed then .fast
      else if ∃ c ∈ s.cal.conditions, c ≠ .sound then .slow
      else if s.inputs.estop.level ≠ .some .clear then .on else .off
    (s.cal.loaded = true → g ≤ 5 → a ≤ 5 → r ≤ 5 →
      exec (.setLamp src g a r) s
        = .next (answered (.setLamp src g a r) src .accepted (code lamps.green ++ code lamps.amber ++ code lamps.red)
            { s with lamps := lamps }))
      ∧ (s.cal.loaded = true → (5 < g ∨ 5 < a ∨ 5 < r) →
          exec (.setLamp src g a r) s = .next (answered (.setLamp src g a r) src .badValue [] s))
      ∧ exec .lampTimebaseTick s = .next { s with lamps := { s.lamps with phase := (s.lamps.phase + 1) % 8 } }
      ∧ ((∀ p, s.lamps.green = .forced p → shows (lampOutputs s).1 p)
          ∧ (∀ p, s.lamps.amber = .forced p → shows (lampOutputs s).2.1 p)
          ∧ (∀ p, s.lamps.red = .forced p → shows (lampOutputs s).2.2 p))
      ∧ ((s.lamps.green = .auto → shows (lampOutputs s).1 green) ∧ (s.lamps.amber = .auto → shows (lampOutputs s).2.1 amber)
          ∧ (s.lamps.red = .auto → shows (lampOutputs s).2.2 red))

/-! ## The indent cycle -/

/-- The reports of the stage and the turret and their timers.  In a move phase STG_DONE ends the stage part and TUR_DONE, with the
station code right, the turret part, and the phase ends when both are done: MOVE_INDENT passes to TARE with the tare accumulator empty,
MOVE_VIEW to SETTLE with its view started; a TUR_DONE that finds the turret part done already, of an index outstanding from before, ends
that index alone.  STG_FAULT and either timer's expiry take the abort path (R50 to R53, R58).  That a report
of nothing outstanding and the expiry of a stopped timer do nothing is the model's choice (log entry 9).
A retract and an interlock stop are complete once a report, a change of ACT_RAISED or a load sample finds the indenter raised, the force
below the contact threshold and no motion outstanding.  A retract then acts by its purpose (R61).  A stop clears its flag: before contact
the point returns to the front of its list and its low-water flag is judged for arming, and in a view the impression is kept; the order
pauses, or goes on where it is no longer HELD; with a cancel pending the point is recorded instead, SKIPPED/CANCELLED before contact and
UNMEASURED/CANCELLED in a view (R39, R62).  That a load sample is the counts above tare, undivided, where no gain is in use is the
model's reading (R69, R158; log entry 31). -/
def Obligations.MotionReportsEndTheMove : Prop :=
  (∀ s : State,
     let tared (q : Sequencer) : State :=
       { s with seq := { q with state := .tare }, force := { s.force with setPoint := 0, tareSum := 0, tareCount := 0 } }
     let viewed (o : Order) (q : Sequencer) : State :=
       { s with
         seq := { q with state := .settle }, force := { s.force with setPoint := 0 }
         cap := { s.cap with
           params := .some { bandW := o.bandW, rh := o.rh, frameLimit := o.frameLimit
                             threshold := (objectiveFields o.objective s).focus }
           framesScored := 0, phase := .settle, expose := true, frameTimer := .some 1000 } }
     let stage : Sequencer :=
       { s.seq with stageOutstanding := false, stagePart := true, timers := { s.seq.timers with stage := .none } }
     let turret : Sequencer :=
       { s.seq with turretOutstanding := false, turretPart := true, timers := { s.seq.timers with turret := .none } }
     (s.seq.stageOutstanding = false → exec .stgDone s = .next s ∧ exec .stgFault s = .next s)
       ∧ (s.seq.turretOutstanding = false → exec .turDone s = .next s)
       ∧ (s.seq.stageOutstanding = true → inMove s = true → s.seq.turretPart = false →
           exec .stgDone s = .next { s with seq := stage })
       ∧ (s.seq.stageOutstanding = true → inMove s = true → s.seq.turretPart = true →
           (s.seq.state = .moveIndent → exec .stgDone s = .next (tared stage))
             ∧ ∀ o, ownerOf s = .some o → s.seq.state = .moveView → exec .stgDone s = .next (viewed o stage))
       ∧ (∀ o, ownerOf s = .some o → s.seq.turretOutstanding = true → inMove s = true → s.seq.turretPart = false →
           (stationReads (requestedStation o s) s = false →
               exec .turDone s = .next { s with seq := { s.seq with turretOutstanding := false } })
             ∧ (stationReads (requestedStation o s) s = true → s.seq.stagePart = false →
                 exec .turDone s = .next { s with seq := turret })
             ∧ (stationReads (requestedStation o s) s = true → s.seq.stagePart = true →
                 (s.seq.state = .moveIndent → exec .turDone s = .next (tared turret))
                   ∧ (s.seq.state = .moveView → exec .turDone s = .next (viewed o turret))))
       ∧ (s.seq.turretOutstanding = true → inMove s = true → s.seq.turretPart = true →
           exec .turDone s = .next { s with seq := { s.seq with turretOutstanding := false } })
       ∧ (s.seq.stageOutstanding = true → abortReasonHeld s = .none →
           exec .stgFault s = .next (abortPath .motionFault false { s with seq := { s.seq with stageOutstanding := false } }))
       ∧ (s.seq.stageOutstanding = true → (abortReasonHeld s).isSome = true →
           exec .stgFault s = .next { s with seq := { s.seq with stageOutstanding := false } })
       ∧ (s.seq.timers.stage = .none → exec .stageTimerExpiry s = .next s)
       ∧ (s.seq.timers.stage.isSome = true →
           exec .stageTimerExpiry s
             = .next (abortPath .motionFault false { s with seq := { s.seq with stageOutstanding := false } }))
       ∧ (s.seq.timers.turret = .none → exec .turretTimerExpiry s = .next s)
       ∧ (s.seq.timers.turret.isSome = true → exec .turretTimerExpiry s = .next (abortPath .turretFault false s)))
    ∧ (∀ (e : Instr) (o : Order) (s s1 : State), ownerOf s = .some o →
         (e = .stgDone ∧ s.seq.stageOutstanding = true ∧ s1 = { s with seq := { s.seq with stageOutstanding := false } })
           ∨ (e = .turDone ∧ s.seq.turretOutstanding = true ∧ s1 = { s with seq := { s.seq with turretOutstanding := false } })
           ∨ (∃ level, e = .actRaised level ∧ s.pins.actRaised ≠ level ∧ s1 = { s with pins := { s.pins with actRaised := level } })
           ∨ (∃ count : Int, e = .loadSample count ∧ s1 = { s with force := { s.force with
               lastForce :=
                 if s.cal.loaded = false ∨ conditionOf 6 s = .loadFault then count - s.force.tare
                 else roundAway ((count - s.force.tare) * s.cal.gain) 1000 } }) →
         let leaves (t : State) : Prop :=
           exec e s = .next (match e with
             | .loadSample _ => { t with pins := { t.pins with forceSet := t.force.setPoint } }
             | _ => t)
         let rests : Prop := s1.pins.actRaised = true ∧ s1.force.lastForce < contactThreshold o.forceCode
           ∧ s1.seq.stageOutstanding = false ∧ s1.seq.turretOutstanding = false
         let retracted : State := { s1 with seq := { s1.seq with purpose := .none, timers := { s.seq.timers with retract := .none } } }
         let stopped : State := { s1 with seq := { s1.seq with stopFlag := false, timers := { s.seq.timers with retract := .none } } }
         let paused (t : State) : State := { t with seq := { t.seq with state := .paused }, force := { t.force with setPoint := 0 } }
         (s.seq.stopFlag = true ∨ s.seq.state = .retract → ¬rests → leaves s1)
           ∧ (s.seq.stopFlag = false → s.seq.state = .retract → rests →
               (s.seq.purpose = .some .cancel → leaves (boundary (recordCurrent o .skipped .cancelled retracted)))
                 ∧ (s.seq.purpose = .some .noContact → leaves (boundary (recordCurrent o .skipped .noContact retracted)))
                 ∧ ∀ why, s.seq.purpose = .some (.abort why) → leaves (abortRecords why retracted))
           ∧ (s.seq.stopFlag = true → s.seq.state ∈ [.moveIndent, .tare, .approach] → rests →
               (o.cancelPending = true → leaves (boundary (recordCurrent o .skipped .cancelled stopped)))
                 ∧ ∀ c, s.seq.cur = .some c → o.cancelPending = false →
                     let returned : State :=
                       { stopped with
                         table := { s.table with orders := s.table.orders.map fun x =>
                           if x.id = o.id then
                             { x with points := { tag := c.tag, x := c.x, y := c.y, depth := c.depth } :: x.points
                                      counts := { x.counts with taken := x.counts.taken - 1 }
                                      lowArmed := x.lowArmed || decide (x.lowWater < x.points.length + 1) }
                           else x }
                         poolFree := s.poolFree - 1, seq := { stopped.seq with cur := .none } }
                     (o.status = .held → leaves (paused returned)) ∧ (o.status ≠ .held → leaves (boundary returned)))
           ∧ (s.seq.stopFlag = true → s.seq.state ∈ [.moveView, .settle, .focus, .measure] → rests →
               (o.cancelPending = true → leaves (boundary (recordCurrent o .unmeasured .cancelled stopped)))
                 ∧ (o.cancelPending = false → o.status = .held → leaves (paused stopped))
                 ∧ (o.cancelPending = false → o.status ≠ .held → leaves (enterMoveView o stopped))))

/-- Every load sample is converted with the tare and the gain in use, or reads in counts above tare where no gain is in use (R69, R158;
undivided by the model's reading, log entry 31), and becomes the last force sample; the set-point then in force is sent on FORCE_SET.
With no head owner that is all.  With one the sample is judged by the sequencer's state: in TARE it joins the sum, the sixteenth setting
the tare; in APPROACH a force at the contact threshold is contact; in RAMP it steps the set-point, the last step beginning DWELL; in
DWELL it is counted in band or out of band; and in the other states but UNLOAD and RETRACT it changes nothing more (R68, R71 to R79).  What
it ends in UNLOAD is said in UnloadEndsAtLiftOff, and in RETRACT and an interlock stop in MotionReportsEndTheMove. -/
def Obligations.LoadSampleActsByState : Prop :=
  ∀ (count : Int) (s : State), s.seq.stopFlag = false →
    let force : Int :=
      if s.cal.loaded = false ∨ conditionOf 6 s = .loadFault then count - s.force.tare
      else roundAway ((count - s.force.tare) * s.cal.gain) 1000
    let f : ForceMonitor := { s.force with lastForce := force }
    let leaves (q : Sequencer) (f : ForceMonitor) : Prop :=
      exec (.loadSample count) s
        = .next { s with seq := q, force := f, pins := { s.pins with forceSet := f.setPoint } }
    (ownerOf s = .none → leaves s.seq f)
      ∧ (∀ o, ownerOf s = .some o →
          let c := o.forceCode
          let nominal := nominalForce c
          let peaked (f : ForceMonitor) : ForceMonitor :=
            { f with peak := max s.force.peak force
                     deviation := s.force.deviation || decide ((nominal + forceBand c : Nat) < force) }
          let k := s.force.rampStep + 1
          let set := contactThreshold c + (nominal - contactThreshold c) * k / (o.ramp * 100)
          let inBand := (nominal : Int) - forceBand c ≤ force ∧ force ≤ (nominal : Int) + forceBand c
          let unload (m : Option CurPoint) : Sequencer :=
            { s.seq with state := .unload, cur := m, timers := { s.seq.timers with unload := .some 5000 } }
          let lost := unload (s.seq.cur.map fun c => { c with mark := .some .forceLost })
          (s.seq.state ∉ [.tare, .approach, .ramp, .dwell, .unload, .retract] → leaves s.seq f)
            ∧ (s.seq.state = .tare → s.force.tareCount < 15 →
                leaves s.seq { f with tareSum := s.force.tareSum + count, tareCount := s.force.tareCount + 1 })
            ∧ (s.seq.state = .tare → s.force.tareCount = 15 →
                leaves { s.seq with state := .approach, timers := { s.seq.timers with approach := .some 20000 } }
                  { f with tareSum := s.force.tareSum + count, tareCount := 16, tare := (s.force.tareSum + count) / 16
                           setPoint := 0 })
            ∧ (s.seq.state = .approach → force < contactThreshold c → leaves s.seq f)
            ∧ (∀ p, s.seq.cur = .some p → s.seq.state = .approach → (contactThreshold c : Int) ≤ force →
                exec (.loadSample count) s = .next
                  { s with
                    table := { s.table with orders := s.table.orders.map fun x =>
                      if x.id = o.id then { x with lastIndent := .some (p.x, p.y) } else x }
                    seq := { s.seq with state := .ramp, cur := .some { p with indented := true }
                                        timers := { s.seq.timers with approach := .none } }
                    force := { f with rampStep := 0, setPoint := contactThreshold c, dwellCount := 0, outOfBand := 0, peak := 0
                                      deviation := false }
                    pins := { s.pins with forceSet := contactThreshold c } })
            ∧ (s.seq.state = .ramp → k < o.ramp * 100 → leaves s.seq (peaked { f with rampStep := k, setPoint := set }))
            ∧ (s.seq.state = .ramp → o.ramp * 100 ≤ k →
                leaves { s.seq with state := .dwell } (peaked { f with rampStep := k, setPoint := nominal }))
            ∧ (s.seq.state = .dwell → force < (nominal / 2 : Nat) →
                leaves lost (peaked { f with outOfBand := s.force.outOfBand + 1, setPoint := 0 }))
            ∧ (s.seq.state = .dwell → (nominal / 2 : Nat) ≤ force → inBand → s.force.dwellCount + 1 ≠ o.dwell * 100 →
                leaves s.seq (peaked { f with dwellCount := s.force.dwellCount + 1 }))
            ∧ (s.seq.state = .dwell → (nominal / 2 : Nat) ≤ force → inBand → s.force.dwellCount + 1 = o.dwell * 100 →
                leaves (unload s.seq.cur) (peaked { f with dwellCount := s.force.dwellCount + 1, setPoint := 0 }))
            ∧ (s.seq.state = .dwell → (nominal / 2 : Nat) ≤ force → ¬inBand → s.force.outOfBand + 1 ≠ 2000 →
                leaves s.seq (peaked { f with outOfBand := s.force.outOfBand + 1 }))
            ∧ (s.seq.state = .dwell → (nominal / 2 : Nat) ≤ force → ¬inBand → s.force.outOfBand + 1 = 2000 →
                leaves lost (peaked { f with outOfBand := 2000, setPoint := 0 })))

/-- UNLOAD ends on the first change of ACT_RAISED or load sample that finds the indenter raised and the force below the contact threshold:
the force monitor hands its values over, and the point is recorded, listed in deferred mode, paused with, or viewed; till then a change
or a sample has its own effect alone (R56, R57, R68, R81, R82; the gain in use as in LoadSampleActsByState, log entry 31).  An approach
without contact retracts with purpose NO_CONTACT, and an unload or a retract that takes too long goes to the abort records at once (R54,
R56, R61, R62).  That a stopped timer does not expire, and that a report of the level ACT_RAISED already has is no change, are the model's
choices (log entry 9). -/
def Obligations.UnloadEndsAtLiftOff : Prop :=
  (∀ (e : Instr) (o : Order) (c : CurPoint) (s v : State), ownerOf s = .some o → s.seq.cur = .some c →
     s.seq.state = .unload → s.seq.stopFlag = false →
     (∃ level, e = .actRaised level ∧ s.pins.actRaised ≠ level ∧ v = { s with pins := { s.pins with actRaised := level } })
       ∨ (∃ count : Int, e = .loadSample count ∧ v = { s with force := { s.force with
           lastForce :=
             if s.cal.loaded = false ∨ conditionOf 6 s = .loadFault then count - s.force.tare
             else roundAway ((count - s.force.tare) * s.cal.gain) 1000 } }) →
     let lifted : Prop := v.pins.actRaised = true ∧ v.force.lastForce < contactThreshold o.forceCode
     let c1 : CurPoint :=
       { c with peak := s.force.peak, achieved := s.force.dwellCount / 100, deviation := s.force.deviation, handed := true }
     let s1 : State := { v with seq := { s.seq with cur := .some c1, timers := { s.seq.timers with unload := .none } } }
     let leaves (t : State) : Prop :=
       exec e s = .next (match e with
         | .loadSample _ => { t with pins := { t.pins with forceSet := t.force.setPoint } }
         | _ => t)
     (¬lifted → leaves v)
       ∧ (lifted →
           (o.cancelPending = true → leaves (boundary (recordCurrent o .unmeasured .cancelled s1)))
             ∧ (o.cancelPending = false → o.mode = .deferred →
                 leaves (boundary { s1 with seq := { s1.seq with
                   cur := .none
                   impressions := s.seq.impressions ++ [
                     { tag := c.tag, x := c.x, y := c.y, depth := c.depth, peak := s.force.peak
                       achieved := s.force.dwellCount / 100, deviation := s.force.deviation, mark := c.mark }] } }))
             ∧ (o.cancelPending = false → o.mode = .immediate →
                 (c.mark = .some .forceLost → leaves (boundary (recordCurrent o .unmeasured .forceLost s1)))
                   ∧ (c.mark = .some .interrupted → leaves (boundary (recordCurrent o .unmeasured .interrupted s1)))
                   ∧ (c.mark = .none → o.status = .held →
                       leaves { s1 with seq := { s1.seq with state := .paused }, force := { v.force with setPoint := 0 } })
                   ∧ (c.mark = .none → o.status ≠ .held → leaves (enterMoveView o s1)))))
    ∧ (∀ s : State,
         (∀ level, s.pins.actRaised = level → exec (.actRaised level) s = .next s)
           ∧ (s.seq.timers.approach = .none → exec .approachTimerExpiry s = .next s)
           ∧ (s.seq.timers.approach.isSome = true → s.seq.state = .approach → s.seq.stopFlag = false →
               exec .approachTimerExpiry s = .next
                 { s with
                   seq := { s.seq with state := .retract, purpose := .some .noContact
                                       timers := { s.seq.timers with approach := .none, retract := .some 5000 } }
                   force := { s.force with setPoint := 0 } })
           ∧ (s.seq.timers.unload = .none → exec .unloadTimerExpiry s = .next s)
           ∧ (s.seq.timers.unload.isSome = true → exec .unloadTimerExpiry s = .next (abortPath .motionFault true s))
           ∧ (s.seq.timers.retract = .none → exec .retractTimerExpiry s = .next s)
           ∧ (∀ why, abortReasonHeld s = .some why → s.seq.timers.retract.isSome = true →
               exec .retractTimerExpiry s = .next (abortRecords why s))
           ∧ (s.seq.timers.retract.isSome = true → abortReasonHeld s = .none →
               exec .retractTimerExpiry s
                 = .next (abortPath (if s.seq.turretOutstanding then .turretFault else .motionFault) true s)))

/-- The point boundary takes the front point: it leaves the list and frees its pool entry, becomes the current point and raises the
taken count.  The spacing check is exact: the point passes where 4(dx² + dy²) is at least 25 times the square of the reference
diagonal, or where the order has no reference diagonal or no last indent position; then the move to its indent position begins.  A
point that fails is recorded SKIPPED/SPACING at once (R35, R37, R49). -/
def Obligations.FrontPointIsTakenAndSpaced : Prop :=
  ∀ (o : Order) (p : Point) (rest : List Point) (s : State), s.HeadOk → ownerOf s = .some o → o.points = p :: rest →
    let far : Prop := ∀ d, o.refDiagonal = .some d → ∀ l, o.lastIndent = .some l →
      4 * ((p.x - l.1) ^ 2 + (p.y - l.2) ^ 2) ≥ 25 * (d : Int) ^ 2
    let c : CurPoint := CurPoint.ofPoint p
    let s1 : State := judgePointsLow
      { s with
        table := { s.table with orders := s.table.orders.map fun x =>
          if x.id = o.id then { x with points := rest, counts := { x.counts with taken := x.counts.taken + 1 } } else x }
        poolFree := s.poolFree + 1, seq := { s.seq with cur := .some c } }
    let r := stationRecord o.indenter s
    (far → takePoint o s =
        ({ s1 with
          force := { s.force with setPoint := 0 }
          pins := { s.pins with stage := .move (p.x + r.x) (p.y + r.y) }
          seq := if s.inputs.station.level = .some o.indenter ∧ o.indenter < 6 then
              { s.seq with state := .moveIndent, cur := .some c, stageOutstanding := true, stagePart := false, turretPart := true
                           timers := { s.seq.timers with stage := .some 10000 } }
            else
              { s.seq with state := .moveIndent, cur := .some c, stageOutstanding := true, stagePart := false, turretPart := false
                           turretOutstanding := true, turretRequest := o.indenter
                           timers := { s.seq.timers with stage := .some 10000, turret := .some 5000 } } }, false))
      ∧ (¬far → takePoint o s = (recordCurrent o .skipped .spacing s1, true))

/-- One pass over the boundary steps, in the order of R48: a pending cancel completes; pending causes take effect and a HELD order pauses;
in deferred mode a measure phase takes the front impression, which goes to its view or, marked, to its record; an empty list ends the
order or has it wait for points; a full store has it wait for room; and otherwise the front point is taken.  From a head in order the
passes come to rest: the boundary is some number of passes, each followed by another, and then one that none follows (R8, R35, R41 to
R43, R47, R48). -/
def Obligations.BoundaryRunsItsSteps : Prop :=
  ∀ s : State, s.HeadOk →
    (∃ (n : Nat) (u : Nat → State), u 0 = s ∧ (∀ k < n, boundaryStep (u k) = (u (k + 1), true))
        ∧ boundaryStep (u n) = (boundary s, false))
      ∧ ∀ o, ownerOf s = .some o →
        let merged : Holds := ⟨o.holds.own || o.pendingHolds.own, o.holds.device || o.pendingHolds.device, o.holds.interlock⟩
        let noCause : Holds := ⟨false, false, false⟩
        let o1 : Order := { o with holds := merged, pendingHolds := ⟨false, false⟩ }
        let put (y : Order) : State := { s with table := { s.table with
          orders := s.table.orders.map fun x => if x.id = o.id then y else x } }
        let room := if 4294965247 < s.store.nextSeq then 0 else 1024 - s.store.records.length
        let n := s.seq.impressions.length
        let measures := o.mode = .deferred ∧ s.seq.impressions ≠ []
          ∧ (s.seq.round = .measure ∨ 64 ≤ n ∨ o.points = [] ∨ room ≤ n)
        let indents : State :=
          { put o1 with seq := { s.seq with
              round := if o.mode = .deferred ∧ s.seq.impressions = [] then .indent else s.seq.round } }
        (o.cancelPending = true → boundaryStep s = completeCancel o s)
          ∧ (o.cancelPending = false → merged ≠ noCause →
              boundaryStep s =
                ({ put { o1 with status := .held } with
                    seq := { s.seq with
                      state := .paused
                      round := if o.mode = .deferred ∧ s.seq.impressions ≠ [] then .measure else s.seq.round }
                    force := { s.force with setPoint := 0 } }, false))
          ∧ (o.cancelPending = false → merged = noCause → measures → ∀ i rest, s.seq.impressions = i :: rest →
              let taken : State := { put o1 with seq := { s.seq with
                round := .measure, impressions := rest, cur := .some (CurPoint.ofImpression i) } }
              (i.mark = .none → boundaryStep s = (enterMoveView o1 taken, false))
                ∧ (i.mark = .some .forceLost → boundaryStep s = (recordCurrent o1 .unmeasured .forceLost taken, true))
                ∧ (i.mark = .some .interrupted → boundaryStep s = (recordCurrent o1 .unmeasured .interrupted taken, true)))
          ∧ (o.cancelPending = false → merged = noCause → ¬measures → o.points = [] → o.lastReceived = true →
              boundaryStep s = considerGrant (releaseHead (endOrder o.id .completed .none indents)))
          ∧ (o.cancelPending = false → merged = noCause → ¬measures → o.points = [] → o.lastReceived = false →
              boundaryStep s =
                ({ indents with
                    seq := { indents.seq with
                      state := .awaitPoints
                      timers := { s.seq.timers with starvation := .some (o.starvation * 1000) } }
                    force := { s.force with setPoint := 0 } }, false))
          ∧ (o.cancelPending = false → merged = noCause → ¬measures → o.points ≠ [] → room ≤ n →
              boundaryStep s =
                ({ indents with
                    seq := { indents.seq with state := .storeWait }, force := { s.force with setPoint := 0 } }, false))
          ∧ (o.cancelPending = false → merged = noCause → ¬measures → o.points ≠ [] → n < room →
              boundaryStep s = takePoint o1 indents)

/-! ## The camera port and the measurement -/

/-- A frame start in SETTLE or FOCUS fills a FREE bank, bank 0 first, with its profiles at zero, and with no bank FREE is dropped and
counted; in the other view phases it is ignored (R87).  A change of LINE outside the frame is ignored, and within it begins a line or
ends a whole one; a pixel outside a frame or a line is ignored (R86, R89).  A pixel of an open bank joins the horizontal profile at
its column where its line lies in the band, and the vertical profile at its line where its column lies in the band (R88).  The
1,281st pixel of a line, a line that ends short of 1,280 and the beginning of a 1,025th line are frame errors: the bank is freed and the
error counted (R89).  That a FRAME start with FRAME high and a LINE marker that changes nothing have no effect is the model's choice
(log entry 9); so is that a LINE already high as the frame began is no line of it, its pixels ignored and its fall without effect (log
entry 17) and that the closed flag clears as an erred bank is freed (log entry 16). -/
def Obligations.FramesAndPixelsAreTaken : Prop :=
  (∀ (v : Nat) (s : State),
     let k := s.cap.bank0
     let started (c : CaptureUnit) : Prop :=
       exec .frameStart s = .next { s with pins := { s.pins with frameHigh := true }, cap := c }
     let filling : Bank :=
       { role := .filling, hProfile := List.replicate 1280 0, vProfile := List.replicate 1024 0, score := .none, lines := 0
         pixels := 0, inLine := false, closed := false }
     (s.pins.frameHigh = true → exec .frameStart s = .next s)
       ∧ (s.pins.frameHigh = false → s.cap.phase ∈ [.none, .handed] → started s.cap)
       ∧ (s.pins.frameHigh = false → s.cap.phase ∈ [.settle, .focus] →
           (k.role = .free → started { s.cap with bank0 := filling })
             ∧ (k.role ≠ .free → s.cap.bank1.role = .free → started { s.cap with bank1 := filling })
             ∧ (k.role ≠ .free → s.cap.bank1.role ≠ .free →
                 started { s.cap with dropped := if s.cap.dropped < 65535 then s.cap.dropped + 1 else s.cap.dropped }))
       ∧ (∀ rise, (s.pins.lineHigh = rise → exec (.lineMarker rise) s = .next s)
           ∧ (s.pins.lineHigh ≠ rise → (s.pins.frameHigh = false ∨ s.cap.openBank = .none) →
               exec (.lineMarker rise) s = .next { s with pins := { s.pins with lineHigh := rise } }))
       ∧ ((s.pins.frameHigh = false ∨ s.pins.lineHigh = false ∨ s.cap.openBank = .none) → exec (.pixelTaken v) s = .next s))
    ∧ (∀ (v : Nat) (b : BankId) (params : ViewParams) (s : State), s.pins.frameHigh = true →
         (b = .zero ∧ s.cap.bank0.isOpen = true) ∨ (b = .one ∧ s.cap.bank0.isOpen = false ∧ s.cap.bank1.isOpen = true) →
         s.cap.params = .some params → (s.cap.bank b).Ok → params.bandW ≤ 64 →
         let k := s.cap.bank b
         let put (k' : Bank) : CaptureUnit := if b = .zero then { s.cap with bank0 := k' } else { s.cap with bank1 := k' }
         let erred : CaptureUnit :=
           { put { k with role := .free, score := .none, inLine := false, closed := false } with
             frameErrors := if s.cap.frameErrors < 65535 then s.cap.frameErrors + 1 else s.cap.frameErrors }
         let marks (rise : Bool) (c : CaptureUnit) : Prop :=
           exec (.lineMarker rise) s = .next { s with pins := { s.pins with lineHigh := rise }, cap := c }
         let half := params.bandW / 2
         let rows : Prop := 512 - half ≤ k.lines ∧ k.lines < 512 + half
         let columns : Prop := 640 - half ≤ k.pixels ∧ k.pixels < 640 + half
         (s.pins.lineHigh = false → k.lines < 1024 → marks true (put { k with inLine := true, pixels := 0 }))
           ∧ (s.pins.lineHigh = false → k.lines = 1024 → marks true erred)
           ∧ (s.pins.lineHigh = true → k.inLine = false →
               marks false s.cap ∧ exec (.pixelTaken v) s = .next s)
           ∧ (s.pins.lineHigh = true → k.inLine = true → k.pixels = 1280 →
               marks false (put { k with inLine := false, lines := k.lines + 1, pixels := 0 }))
           ∧ (s.pins.lineHigh = true → k.inLine = true → k.pixels < 1280 → marks false erred)
           ∧ (s.pins.lineHigh = true → k.inLine = true → k.pixels < 1280 →
               exec (.pixelTaken v) s = .next { s with cap := put { k with
                 hProfile := if rows then k.hProfile.set k.pixels (sampleAt k.hProfile k.pixels + v) else k.hProfile
                 vProfile := if columns then k.vProfile.set k.lines (sampleAt k.vProfile k.lines + v) else k.vProfile
                 pixels := k.pixels + 1 } })
           ∧ (s.pins.lineHigh = true → k.inLine = true → k.pixels = 1280 →
               exec (.pixelTaken v) s = .next { s with cap := erred }))

/-- The fall of FRAME on an open bank, either of the two: a frame that is not whole frees the bank and raises the frame error count; a
whole one restarts the frame timer, and in SETTLE is discarded while the view and the sequencer go on to FOCUS, and in FOCUS is closed for
its score, behind those that wait for theirs (R58, R89, R91, R92).  With no bank open the fall of FRAME changes nothing else (R86, R87);
that a completion reported with FRAME low has no effect (log entry 9), and that the closed flag clears as a bank is freed (log entry 16),
are the model's choices. -/
def Obligations.FrameCompletionClosesTheBank : Prop :=
  (∀ (b : BankId) (s : State), s.pins.frameHigh = true →
     (b = .zero ∧ s.cap.bank0.isOpen = true) ∨ (b = .one ∧ s.cap.bank0.isOpen = false ∧ s.cap.bank1.isOpen = true) →
     let k := s.cap.bank b
     let put (k' : Bank) : CaptureUnit := if b = .zero then { s.cap with bank0 := k' } else { s.cap with bank1 := k' }
     let whole : Prop := s.pins.lineHigh = false ∧ k.inLine = false ∧ k.lines = 1024
     let freed : Bank := { k with role := .free, score := .none, inLine := false, closed := false }
     let low : State := { s with pins := { s.pins with frameHigh := false } }
     (¬whole → (s.seq.state ≠ .settle ∨ s.cap.phase ≠ .focus) →
         exec .frameCompletion s = .next { low with cap := { put freed with
           frameErrors := if s.cap.frameErrors < 65535 then s.cap.frameErrors + 1 else s.cap.frameErrors } })
       ∧ (whole → s.cap.phase = .settle → s.seq.state = .settle →
           exec .frameCompletion s = .next { low with
             cap := { put freed with phase := .focus, frameTimer := .some 1000 }
             seq := { s.seq with state := .focus }, force := { s.force with setPoint := 0 } })
       ∧ (whole → s.cap.phase = .focus → s.seq.state = .focus →
           exec .frameCompletion s = .next { low with
             cap := { put { k with closed := true } with scoring := s.cap.scoring ++ [b], frameTimer := .some 1000 } }))
    ∧ (∀ s : State,
         (s.pins.frameHigh = false → exec .frameCompletion s = .next s)
           ∧ (s.pins.frameHigh = true → s.cap.bank0.isOpen = false → s.cap.bank1.isOpen = false →
               exec .frameCompletion s = .next { s with pins := { s.pins with frameHigh := false } }))

/-- The focus score is the sum of the steps between neighbouring samples of the search region, over the band width, rounded down
(R92).  A scored bank, either of the two, becomes BEST where there is none or its score is strictly greater, the former BEST then FREE;
else it is FREE and BEST stays (R93).  That the closed flag clears as a bank leaves FILLING is the model's choice (log entry 16). -/
def Obligations.BestScoreIsKept : Prop :=
  (∀ (w rh : Nat) (P : List Nat), P.length = 1280 → rh ≤ 639 →
      focusScore w rh P
        = ((List.range (2 * rh)).map fun i =>
            ((sampleAt P (640 - rh + i + 1) : Int) - (sampleAt P (640 - rh + i) : Int)).natAbs).sum / w)
    ∧ ∀ (b : BankId) (v : ViewParams) (c : CaptureUnit), (c.bank b).role = .filling →
        let k := c.bank b
        let other := if b = .zero then c.bank1 else c.bank0
        let S := focusScore v.bandW v.rh k.hProfile
        let scored (k' other' : Bank) : Prop :=
          c.enterScore b v =
            { c with
              bank0 := if b = .zero then k' else other', bank1 := if b = .zero then other' else k'
              framesScored := c.framesScored + 1, scoring := c.scoring.drop 1 }
        let best : Bank := { k with role := .best, score := .some S, closed := false }
        let free (k : Bank) : Bank := { k with role := .free, score := .none, inLine := false, closed := false }
        (other.role ≠ .best → scored best other)
          ∧ (other.role = .best → other.score.getD 0 < S → scored best (free other))
          ∧ (other.role = .best → S ≤ other.score.getD 0 → scored (free k) other)

/-- After a score the end of FOCUS is judged: at the threshold the BEST bank is handed over and MEASURE begins; at the frame limit it is
handed over with soft focus from half the threshold on, and below that the view fails FOCUS_FAIL; before the limit FOCUS goes on.  A
hand-over makes the bank READING and any other FILLING bank FREE, releases EXPOSE and stops the frame timer (R94, R95), and the engine
takes the order's parameters, the nominal force, the objective's scale and offset and the generation, its working values absent (R101).
The expiry of the frame timer in SETTLE or FOCUS ends the view with no bank kept and fails it NO_IMAGE, with frames used the frames
scored (R96).  That a stopped timer does not expire (log entry 9), and that the view parameters go with a view that fails and the closed
flag with a freed bank (log entry 16), are the model's choices. -/
def Obligations.FocusEndsOnTheScore : Prop :=
  (∀ (b : BankId) (rest : List BankId) (v : ViewParams) (o : Order) (s : State), ownerOf s = .some o →
     s.seq.state = .focus → s.seq.stopFlag = false →
     s.cap.scoring = b :: rest → s.cap.params = .some v →
     let c := s.cap.enterScore b v
     let n := c.framesScored
     ∃ best, c.bestBank = .some best ∧
       let S := (c.bank best).score.getD 0
       let used (soft : Bool) : Sequencer :=
         { s.seq with cur := s.seq.cur.map fun p => { p with framesUsed := n, softFocus := soft } }
       let free (k : Bank) : Bank := { k with role := .free, score := .none, inLine := false, closed := false }
       let reading (name : BankId) (k : Bank) : Bank :=
         if name = best then { k with role := .reading } else if k.role = .filling then free k else k
       let ended (b0 b1 : Bank) (ph : ViewPhase) : CaptureUnit :=
         { c with expose := false, frameTimer := .none, scoring := [], bank0 := b0, bank1 := b1, phase := ph }
       let glass := (stationRecord o.objective s).objective.getD { scale := 0, diagOffset := 0, focus := 0 }
       let inputs : EngineInputs :=
         { bandW := o.bandW, rh := o.rh, rv := o.rv, contrast := o.contrast, asymmetry := o.asymmetry, offCentre := o.offCentre
           method := o.method, forceCode := o.forceCode, lower := o.lower, upper := o.upper, nominal := nominalForce o.forceCode
           scale := glass.scale, diagOffset := glass.diagOffset, generation := s.cal.generation }
       let work : EngineWork :=
         { profile := .horizontal, background := .none, minimum := .none, minIndex := .none, threshold := .none
           leftIndex := .none, rightIndex := .none, xL := .none, xR := .none, length16 := .none, centre16 := .none, d1 := .none
           d2 := .none, dx := .none, dy := .none, offCentre := false, asymmetric := false, aspect := false, overrange := false }
       let measures (soft : Bool) : Prop :=
         exec .scoreReady s = .next { s with
           cap := ended (reading .zero c.bank0) (reading .one c.bank1) .handed, seq := { used soft with state := .measure }
           force := { s.force with setPoint := 0 }, engine := .some { inputs := inputs, work := work } }
       (v.threshold ≤ S → measures false)
         ∧ (S < v.threshold → n < v.frameLimit → exec .scoreReady s = .next { s with cap := c })
         ∧ (S < v.threshold → v.frameLimit ≤ n → v.threshold / 2 ≤ S → measures true)
         ∧ (S < v.threshold / 2 → v.frameLimit ≤ n →
             exec .scoreReady s = .next (handleFailure .focusFail
               { s with
                 cap := { ended (free c.bank0) (free c.bank1) .none with params := .none }
                 seq := used false })))
    ∧ (∀ s : State,
         let free (k : Bank) : Bank := { k with role := .free, score := .none, inLine := false, closed := false }
         (s.cap.frameTimer = .none → exec .frameTimerExpiry s = .next s)
           ∧ (s.cap.frameTimer.isSome = true → s.seq.state ∈ [.settle, .focus] → s.seq.stopFlag = false →
               exec .frameTimerExpiry s = .next (handleFailure .noImage
                 { s with
                   cap := { s.cap with
                     expose := false, frameTimer := .none, scoring := [], bank0 := free s.cap.bank0, bank1 := free s.cap.bank1
                     phase := .none, params := .none }
                   seq := { s.seq with cur := s.seq.cur.map fun p =>
                     { p with framesUsed := s.cap.framesScored, softFocus := false } } })))

/-- A failure of a view or a measurement with the review off, or with a cancel pending, is recorded UNMEASURED with its reason, which is
a boundary; otherwise a review opens: the record is written in REVIEW with the next sequence number and counted waiting, RESULTS WAITING
joins the origin port's queue where its flag is armed and the threshold reached, the window runs, REVIEW OPEN joins both queues behind,
a full queue counting what it loses, and the sequencer waits (R59, R125, R140, R145, R189).  A review superseded by a resume gives the
impression back: its record leaves the store and the waiting count, REVIEW CLOSED goes to both ports with outcome 6, and the impression,
with its force values and no frames, is moved to its view (R134, R141). -/
def Obligations.FailureOpensAReview : Prop :=
  let put (n : Notice) (q : LinkPort) : LinkPort :=
    if q.notices.length < 32 then { q with notices := q.notices ++ [n], attention := true }
    else { q with lost := if q.lost < 65535 then q.lost + 1 else q.lost }
  (∀ (why : Reason) (o : Order) (p : CurPoint) (s : State), ownerOf s = .some o → s.seq.cur = .some p →
     (o.window = 0 ∨ o.cancelPending = true → handleFailure why s = boundary (recordCurrent o .unmeasured why s))
       ∧ (o.window ≠ 0 → o.cancelPending = false →
           let seq := s.store.nextSeq
           let waiting := s.store.waiting o.origin + 1
           let due : Bool := s.store.armed o.origin && decide (o.threshold ≤ waiting)
           let about (k : NoticeKind) (v : Nat) : Notice :=
             { kind := k, orderId := o.id, origin := .some o.origin, seq := seq, value := v }
           let told (p : Port) : LinkPort :=
             put (about .reviewOpen (reasonCode why))
               (if o.origin = p ∧ due = true then put (about .resultsWaiting waiting) (s.port p) else s.port p)
           handleFailure why s =
             { s with
               portA := told .A, portB := told .B
               table := { s.table with orders := s.table.orders.map fun x =>
                 if x.id = o.id then { x with firstSeq := .some (x.firstSeq.getD seq), lastSeq := .some seq } else x }
               seq := { s.seq with state := .reviewWait, cur := .none }, force := { s.force with setPoint := 0 }
               desk := { review := .some { seq := seq, orderId := o.id, claimant := .none }, window := .some (o.window * 1000) }
               store :=
                 { nextSeq := seq + 1
                   waitingA := if o.origin = .A then waiting else s.store.waitingA
                   waitingB := if o.origin = .B then waiting else s.store.waitingB
                   armedA := s.store.armedA && !(o.origin = .A && due), armedB := s.store.armedB && !(o.origin = .B && due)
                   records := s.store.records ++
                     [{ seq := seq, orderId := o.id, origin := o.origin, tag := p.tag, state := .review, reason := why
                        method := o.method, forceCode := o.forceCode, x := p.x, y := p.y, depth := p.depth, d1 := .none
                        d2 := .none, hardness := .none, verdict := .none
                        flags := { asymmetric := false, aspect := false, offCentre := false, overrange := false
                                   deviation := p.deviation, softFocus := p.softFocus }
                        peak := p.peak, achieved := p.achieved, dx := 0, dy := 0, generation := s.cal.generation
                        framesUsed := p.framesUsed }] } }))
    ∧ (∀ (v : Review) (o : Order) (x : Record) (s : State), s.ReviewOk → s.desk.review = .some v → ownerOf s = .some o →
         x ∈ s.store.records → x.seq = v.seq →
         let r := stationRecord o.objective s
         let there : Bool := s.inputs.station.level = .some o.objective && decide (o.objective < 6)
         let n : Notice := { kind := .reviewClosed, orderId := o.id, origin := .some o.origin, seq := v.seq, value := 6 }
         supersedeReview o s =
           { s with
             portA := put n s.portA, portB := put n s.portB, desk := { review := .none, window := .none }
             store := { s.store with
               records := s.store.records.filter (·.seq ≠ v.seq)
               waitingA := if x.origin = .A then s.store.waitingA - 1 else s.store.waitingA
               waitingB := if x.origin = .B then s.store.waitingB - 1 else s.store.waitingB }
             pins := { s.pins with stage := .move (x.x + r.x) (x.y + r.y) }, force := { s.force with setPoint := 0 }
             seq := { s.seq with
               state := .moveView
               cur := .some { tag := x.tag, x := x.x, y := x.y, depth := x.depth, indented := true, peak := x.peak
                              achieved := x.achieved, deviation := x.flags.deviation, mark := .none, framesUsed := 0
                              softFocus := false, handed := true }
               stageOutstanding := true, stagePart := false, turretPart := there
               turretOutstanding := !there || s.seq.turretOutstanding
               turretRequest := if there then s.seq.turretRequest else o.objective
               timers := { s.seq.timers with
                 stage := .some 10000, turret := if there then s.seq.timers.turret else .some 5000 } } })

/-- The engine's report frees the READING bank and ends the view: a measured impression is recorded AUTO with what was measured, which is
a boundary, and a failure is handled by its reason (R58, R59, R97, R102, R120).  That the view parameters and the closed flag go with the
view is the model's choice (log entry 16). -/
def Obligations.MeasurementIsReported : Prop :=
  ∀ (m : Measurement) (b : BankId) (o : Order) (p : CurPoint) (s : State), s.engine = .some m →
    s.cap.readingBank = .some b → ownerOf s = .some o → s.seq.cur = .some p → s.seq.state = .measure →
    s.seq.stopFlag = false →
    let report := measureReport m (s.cap.bank b).hProfile (s.cap.bank b).vProfile
    let freed : CaptureUnit :=
      { s.cap.modBank b (fun k => { k with role := .free, score := .none, inLine := false, closed := false }) with
        phase := .none, params := .none }
    let s1 : State := { s with cap := freed, engine := .none }
    (∀ why, report = .error why → exec .measurementReport s = .next (handleFailure why s1))
      ∧ (∀ x, report = .ok x →
          let r : Record :=
            { seq := 0, orderId := o.id, origin := o.origin, tag := p.tag, state := .auto, reason := .none
              method := o.method, forceCode := o.forceCode, x := p.x, y := p.y, depth := p.depth, d1 := .some x.d1
              d2 := .some x.d2, hardness := .some x.hardness, verdict := x.verdict
              flags := { asymmetric := x.asymmetric, aspect := x.aspect, offCentre := x.offCentre, overrange := x.overrange
                         deviation := p.deviation, softFocus := p.softFocus }
              peak := p.peak, achieved := p.achieved, dx := x.dx, dy := x.dy, generation := x.generation
              framesUsed := p.framesUsed }
          exec .measurementReport s = .next (boundary (dropCurrent (writeRecord o r s1))))

/-! ## The arithmetic -/

/-- The force codes: the band is the tolerance's share of the nominal force and at least 2 mN, the contact threshold a fiftieth and at
least 5 mN, and the force-lost level a half, each rounded down, at the values of the table of R70. -/
def Obligations.ForceCodesAsTabled : Prop :=
  (List.range 12).map (fun c => (nominalForce c, forceBand c, contactThreshold c, forceLostLevel c))
      = [(98, 2, 5, 49), (245, 3, 5, 122), (490, 7, 9, 245), (981, 14, 19, 490), (1961, 19, 39, 980), (2942, 29, 58, 1471),
         (4903, 49, 98, 2451), (9807, 98, 196, 4903), (19613, 196, 392, 9806), (29420, 294, 588, 14710),
         (49033, 490, 980, 24516), (98067, 980, 1961, 49033)]
    ∧ ∀ c ≤ 11, 96 * nominalForce c ≤ 98 * (nominalForce c - forceBand c)
        ∧ forceLostLevel c < nominalForce c - forceBand c ∧ contactThreshold c < forceLostLevel c

/-- The evaluation of a diagonal pair: the mean, the hardness rounded half up and clamped to 1 to 99,999 with OVERRANGE, ASYMMETRIC for
VICKERS alone, ASPECT for KNOOP alone, and the verdict against the limits (R114 to R119). -/
def Obligations.PairIsEvaluated : Prop :=
  ∀ (f asymmetry d1 d2 : Nat) (lower upper : Option Nat), 1 ≤ d1 → 1 ≤ d2 →
    let d := (d1 + d2 + 1) / 2
    let hv := (189092 * f * 10 ^ 4 + d ^ 2 / 2) / d ^ 2
    let hk := (145095 * f * 10 ^ 5 + d1 ^ 2 / 2) / d1 ^ 2
    let clamp (h : Nat) : Nat := max 1 (min h 99999)
    let verdict (h : Nat) : Verdict :=
      match lower, upper with
      | .none, .none => .none
      | .some l, .none => if h < l then .low else .inBand
      | .none, .some u => if u < h then .high else .inBand
      | .some l, .some u => if h < l then .low else if u < h then .high else .inBand
    evaluatePair .vickers f asymmetry lower upper d1 d2
        = { hardness := clamp hv, verdict := verdict (clamp hv), overrange := decide (clamp hv ≠ hv), aspect := false
            asymmetric := decide (asymmetry ≠ 0 ∧ asymmetry < ((d1 : Int) - d2).natAbs * 1000 / d) }
      ∧ evaluatePair .knoop f asymmetry lower upper d1 d2
          = { hardness := clamp hk, verdict := verdict (clamp hk), overrange := decide (clamp hk ≠ hk), asymmetric := false
              aspect := decide (d1 * 100 / d2 < 650 ∨ 770 < d1 * 100 / d2) }

/-- The work on one profile, horizontal or vertical: the minimum of its search region, leftmost, lies the contrast below the background,
else NOT_FOUND; the edges are the last sample at or above the threshold before it and the first after it, else EDGE_LOST; a length below
128 sixteenths, or a diagonal below 1 nm, is TOO_SMALL; and what measures enters its edge positions, diagonal and displacement among the
working values, a vertical profile as the second diagonal (R103 to R112).  The report of a measurement is that of the horizontal profile,
then the vertical one, the first failure deciding, and else of the pair (R102, R113, R120, R121). -/
def Obligations.ProfileIsMeasured : Prop :=
  (∀ (inp : EngineInputs) (a : Axis) (P : List Nat) (w : EngineWork),
     let n := if a = .horizontal then 1280 else 1024
     let R := if a = .horizontal then inp.rh else inp.rv
     P.length = n → 1 ≤ R → R + 64 ≤ n / 2 → 1 ≤ inp.contrast → 8 ≤ inp.bandW →
     let B := ((P.take 64).sum + (P.drop (n - 64)).sum) / 128
     let fails (why : Reason) : Prop := measureProfile inp a P w = .error why
     ∃ c M : Nat, n / 2 - R ≤ c ∧ c ≤ n / 2 + R ∧ sampleAt P c = M
       ∧ (∀ i, n / 2 - R ≤ i → i ≤ n / 2 + R → M ≤ sampleAt P i ∧ (i < c → M < sampleAt P i))
       ∧ (B < M + inp.contrast * inp.bandW → fails .notFound)
       ∧ (M + inp.contrast * inp.bandW ≤ B →
           let T := (B + M) / 2
           ((∀ i, n / 2 - R ≤ i → i < c → sampleAt P i < T) → fails .edgeLost)
             ∧ ((∀ i, c < i → i ≤ n / 2 + R → sampleAt P i < T) → fails .edgeLost)
             ∧ ∀ j k : Nat,
                 n / 2 - R ≤ j → j < c → T ≤ sampleAt P j → (∀ i, j < i → i ≤ c → sampleAt P i < T) →
                 c < k → k ≤ n / 2 + R → T ≤ sampleAt P k → (∀ i, c ≤ i → i < k → sampleAt P i < T) →
                 let xL := 16 * j + 16 * (sampleAt P j - T) / (sampleAt P j - sampleAt P (j + 1))
                 let xR := 16 * k - 16 * (sampleAt P k - T) / (sampleAt P k - sampleAt P (k - 1))
                 let away : Int := ((xL + xR) / 2 : Nat) - (8 * n : Nat)
                 let d : Int := (((xR - xL) * inp.scale + 8000) / 16000 : Nat) + inp.diagOffset
                 let far : Bool := decide (inp.offCentre ≠ 0 ∧ 16 * inp.offCentre < away.natAbs)
                 let off := roundAway (away * inp.scale) 16000
                 xL ≤ xR ∧ (xR < xL + 128 → fails .tooSmall) ∧ (xL + 128 ≤ xR → d < 1 → fails .tooSmall)
                   ∧ (xL + 128 ≤ xR → 1 ≤ d →
                       measureProfile inp a P w = .ok
                         { w with
                           profile := a, background := .some B, minimum := .some M, minIndex := .some c, threshold := .some T
                           leftIndex := .some j, rightIndex := .some k, xL := .some xL, xR := .some xR
                           length16 := .some (xR - xL), centre16 := .some ((xL + xR) / 2)
                           d1 := if a = .horizontal then .some d.toNat else w.d1
                           dx := if a = .horizontal then .some off else w.dx
                           d2 := if a = .vertical then .some d.toNat else w.d2
                           dy := if a = .vertical then .some off else w.dy
                           offCentre := w.offCentre || far })))
    ∧ (∀ (m : Measurement) (H V : List Nat),
         (∀ why, measureProfile m.inputs .horizontal H m.work = .error why → measureReport m H V = .error why)
           ∧ ∀ w1, measureProfile m.inputs .horizontal H m.work = .ok w1 →
               (∀ why, measureProfile m.inputs .vertical V w1 = .error why → measureReport m H V = .error why)
                 ∧ ∀ w2 d1 d2 dx dy, measureProfile m.inputs .vertical V w1 = .ok w2 → w2.d1 = .some d1 → w2.d2 = .some d2 →
                     w2.dx = .some dx → w2.dy = .some dy →
                     let e := evaluatePair m.inputs.method m.inputs.nominal m.inputs.asymmetry m.inputs.lower m.inputs.upper d1 d2
                     measureReport m H V = .ok
                       { d1 := d1, d2 := d2, hardness := e.hardness, verdict := e.verdict, offCentre := w2.offCentre
                         asymmetric := e.asymmetric, aspect := e.aspect, overrange := e.overrange, dx := dx, dy := dy
                         generation := m.inputs.generation })

/-- A final record is counted in its order, by its state and by its verdict; one without a hardness changes nothing more, and a
measured one, AUTO or MANUAL, joins the sums and becomes the reference diagonal; in an order with a case limit it steps the case depth,
the first record below the limit settling it, by interpolation from the record before where there is one (R38, R148 to R150).  A
written record takes the next sequence number and the last place in the store, its order notes the number, its origin port's waiting
count rises and, where the flag is armed and the order's threshold reached, RESULTS WAITING is posted and the flag cleared; and a
final record is then reported (R140, R145). -/
def Obligations.RecordsAreReportedToTheirOrder : Prop :=
  (∀ (r : Record) (o : Order),
     let o1 := reportRecord r o
     let add (n : Nat) (b : Bool) : Nat := if b then n + 1 else n
     let counts : Counts :=
       { o.counts with
         auto := add o.counts.auto (r.state = .auto), manual := add o.counts.manual (r.state = .manual)
         unmeasured := add o.counts.unmeasured (r.state = .unmeasured), skipped := add o.counts.skipped (r.state = .skipped)
         inBand := add o.counts.inBand (r.verdict = .inBand), low := add o.counts.low (r.verdict = .low)
         high := add o.counts.high (r.verdict = .high) }
     (r.hardness = .none → o1 = { o with counts := counts })
       ∧ ∀ h d1 d2 : Nat, r.hardness = .some h → r.d1 = .some d1 → r.d2 = .some d2 →
           let summed : Order :=
             { o with
               counts := counts, hardnessSum := o.hardnessSum + h
               minHardness := .some (match o.minHardness with | .none => h | .some v => min v h)
               maxHardness := .some (match o.maxHardness with | .none => h | .some v => max v h)
               refDiagonal := .some (if o.method = .vickers then (d1 + d2 + 1) / 2 else d1) }
           (o.caseLimit = .none ∨ r.depth = .none → o1 = summed)
             ∧ ∀ limit z : Nat, r.depth = .some z → o.caseLimit = .some limit → 1 ≤ limit →
                 (∀ q, o.prevMeasured = .some q → limit ≤ q.2 ∧ q.1 < z) →
                 (o.crossingFound = true → o1 = summed)
                   ∧ (o.crossingFound = false → limit ≤ h → o1 = { summed with prevMeasured := .some (z, h) })
                   ∧ (o.crossingFound = false → h < limit → o.prevMeasured = .none →
                       o1 = { summed with caseStatus := .surfaceBelow, caseValue := .some 0, crossingFound := true })
                   ∧ (∀ q, o.prevMeasured = .some q → o.crossingFound = false → h < limit →
                       let v := q.1 + (z - q.1) * (q.2 - limit) / (q.2 - h)
                       q.1 ≤ v ∧ v < z
                         ∧ o1 = { summed with caseStatus := .found, caseValue := .some v, crossingFound := true }))
    ∧ (∀ (o : Order) (r : Record) (s : State),
         let seq := s.store.nextSeq
         let waiting := s.store.waiting o.origin + 1
         let due : Bool := s.store.armed o.origin && decide (o.threshold ≤ waiting)
         let n : Notice := { kind := .resultsWaiting, orderId := o.id, origin := .some o.origin, seq := seq, value := waiting }
         let told (p : Port) : LinkPort :=
           let q := s.port p
           if o.origin = p ∧ due = true then
             if q.notices.length < 32 then { q with notices := q.notices ++ [n], attention := true }
             else { q with lost := if q.lost < 65535 then q.lost + 1 else q.lost }
           else q
         let noted (x : Order) : Order := { x with firstSeq := .some (x.firstSeq.getD seq), lastSeq := .some seq }
         writeRecord o r s =
           { s with
             portA := told .A, portB := told .B
             table := { s.table with orders := s.table.orders.map fun x =>
               if x.id = o.id then
                 if r.state = .review then noted x else reportRecord { r with seq := seq } (noted x)
               else x }
             store :=
               { records := s.store.records ++ [{ r with seq := seq }], nextSeq := seq + 1
                 waitingA := if o.origin = .A then waiting else s.store.waitingA
                 waitingB := if o.origin = .B then waiting else s.store.waitingB
                 armedA := s.store.armedA && !(o.origin = .A && due), armedB := s.store.armedB && !(o.origin = .B && due) } })
end

