-- ==== Sys2Proof/Laws/State.lean ====
section
/-!
SUPPORT. One lemma per block of the state per update: what reads back after it.  No later proof unfolds a record update.
-/

namespace Sys2Proof.Machine

/-! ### modTable -/

@[simp] theorem State.modTable_portA (f : OrderTable → OrderTable) (s : State) : (s.modTable f).portA = s.portA := rfl
@[simp] theorem State.modTable_portB (f : OrderTable → OrderTable) (s : State) : (s.modTable f).portB = s.portB := rfl
@[simp] theorem State.modTable_straps (f : OrderTable → OrderTable) (s : State) : (s.modTable f).straps = s.straps := rfl
@[simp] theorem State.modTable_table (f : OrderTable → OrderTable) (s : State) : (s.modTable f).table = f s.table := rfl
@[simp] theorem State.modTable_arb (f : OrderTable → OrderTable) (s : State) : (s.modTable f).arb = s.arb := rfl
@[simp] theorem State.modTable_poolFree (f : OrderTable → OrderTable) (s : State) : (s.modTable f).poolFree = s.poolFree := rfl
@[simp] theorem State.modTable_seq (f : OrderTable → OrderTable) (s : State) : (s.modTable f).seq = s.seq := rfl
@[simp] theorem State.modTable_force (f : OrderTable → OrderTable) (s : State) : (s.modTable f).force = s.force := rfl
@[simp] theorem State.modTable_cap (f : OrderTable → OrderTable) (s : State) : (s.modTable f).cap = s.cap := rfl
@[simp] theorem State.modTable_engine (f : OrderTable → OrderTable) (s : State) : (s.modTable f).engine = s.engine := rfl
@[simp] theorem State.modTable_desk (f : OrderTable → OrderTable) (s : State) : (s.modTable f).desk = s.desk := rfl
@[simp] theorem State.modTable_store (f : OrderTable → OrderTable) (s : State) : (s.modTable f).store = s.store := rfl
@[simp] theorem State.modTable_cal (f : OrderTable → OrderTable) (s : State) : (s.modTable f).cal = s.cal := rfl
@[simp] theorem State.modTable_inputs (f : OrderTable → OrderTable) (s : State) : (s.modTable f).inputs = s.inputs := rfl
@[simp] theorem State.modTable_lamps (f : OrderTable → OrderTable) (s : State) : (s.modTable f).lamps = s.lamps := rfl
@[simp] theorem State.modTable_pins (f : OrderTable → OrderTable) (s : State) : (s.modTable f).pins = s.pins := rfl
@[simp] theorem State.modTable_pending (f : OrderTable → OrderTable) (s : State) : (s.modTable f).pending = s.pending := rfl
@[simp] theorem State.modTable_port (f : OrderTable → OrderTable) (p : Port) (s : State) : (s.modTable f).port p = s.port p := by
  cases p <;> rfl

/-! ### modArb -/

@[simp] theorem State.modArb_portA (f : Arbiter → Arbiter) (s : State) : (s.modArb f).portA = s.portA := rfl
@[simp] theorem State.modArb_portB (f : Arbiter → Arbiter) (s : State) : (s.modArb f).portB = s.portB := rfl
@[simp] theorem State.modArb_straps (f : Arbiter → Arbiter) (s : State) : (s.modArb f).straps = s.straps := rfl
@[simp] theorem State.modArb_table (f : Arbiter → Arbiter) (s : State) : (s.modArb f).table = s.table := rfl
@[simp] theorem State.modArb_arb (f : Arbiter → Arbiter) (s : State) : (s.modArb f).arb = f s.arb := rfl
@[simp] theorem State.modArb_poolFree (f : Arbiter → Arbiter) (s : State) : (s.modArb f).poolFree = s.poolFree := rfl
@[simp] theorem State.modArb_seq (f : Arbiter → Arbiter) (s : State) : (s.modArb f).seq = s.seq := rfl
@[simp] theorem State.modArb_force (f : Arbiter → Arbiter) (s : State) : (s.modArb f).force = s.force := rfl
@[simp] theorem State.modArb_cap (f : Arbiter → Arbiter) (s : State) : (s.modArb f).cap = s.cap := rfl
@[simp] theorem State.modArb_engine (f : Arbiter → Arbiter) (s : State) : (s.modArb f).engine = s.engine := rfl
@[simp] theorem State.modArb_desk (f : Arbiter → Arbiter) (s : State) : (s.modArb f).desk = s.desk := rfl
@[simp] theorem State.modArb_store (f : Arbiter → Arbiter) (s : State) : (s.modArb f).store = s.store := rfl
@[simp] theorem State.modArb_cal (f : Arbiter → Arbiter) (s : State) : (s.modArb f).cal = s.cal := rfl
@[simp] theorem State.modArb_inputs (f : Arbiter → Arbiter) (s : State) : (s.modArb f).inputs = s.inputs := rfl
@[simp] theorem State.modArb_lamps (f : Arbiter → Arbiter) (s : State) : (s.modArb f).lamps = s.lamps := rfl
@[simp] theorem State.modArb_pins (f : Arbiter → Arbiter) (s : State) : (s.modArb f).pins = s.pins := rfl
@[simp] theorem State.modArb_pending (f : Arbiter → Arbiter) (s : State) : (s.modArb f).pending = s.pending := rfl
@[simp] theorem State.modArb_port (f : Arbiter → Arbiter) (p : Port) (s : State) : (s.modArb f).port p = s.port p := by
  cases p <;> rfl

/-! ### setPoolFree -/

@[simp] theorem State.setPoolFree_portA (n : Nat) (s : State) : (s.setPoolFree n).portA = s.portA := rfl
@[simp] theorem State.setPoolFree_portB (n : Nat) (s : State) : (s.setPoolFree n).portB = s.portB := rfl
@[simp] theorem State.setPoolFree_straps (n : Nat) (s : State) : (s.setPoolFree n).straps = s.straps := rfl
@[simp] theorem State.setPoolFree_table (n : Nat) (s : State) : (s.setPoolFree n).table = s.table := rfl
@[simp] theorem State.setPoolFree_arb (n : Nat) (s : State) : (s.setPoolFree n).arb = s.arb := rfl
@[simp] theorem State.setPoolFree_poolFree (n : Nat) (s : State) : (s.setPoolFree n).poolFree = n := rfl
@[simp] theorem State.setPoolFree_seq (n : Nat) (s : State) : (s.setPoolFree n).seq = s.seq := rfl
@[simp] theorem State.setPoolFree_force (n : Nat) (s : State) : (s.setPoolFree n).force = s.force := rfl
@[simp] theorem State.setPoolFree_cap (n : Nat) (s : State) : (s.setPoolFree n).cap = s.cap := rfl
@[simp] theorem State.setPoolFree_engine (n : Nat) (s : State) : (s.setPoolFree n).engine = s.engine := rfl
@[simp] theorem State.setPoolFree_desk (n : Nat) (s : State) : (s.setPoolFree n).desk = s.desk := rfl
@[simp] theorem State.setPoolFree_store (n : Nat) (s : State) : (s.setPoolFree n).store = s.store := rfl
@[simp] theorem State.setPoolFree_cal (n : Nat) (s : State) : (s.setPoolFree n).cal = s.cal := rfl
@[simp] theorem State.setPoolFree_inputs (n : Nat) (s : State) : (s.setPoolFree n).inputs = s.inputs := rfl
@[simp] theorem State.setPoolFree_lamps (n : Nat) (s : State) : (s.setPoolFree n).lamps = s.lamps := rfl
@[simp] theorem State.setPoolFree_pins (n : Nat) (s : State) : (s.setPoolFree n).pins = s.pins := rfl
@[simp] theorem State.setPoolFree_pending (n : Nat) (s : State) : (s.setPoolFree n).pending = s.pending := rfl
@[simp] theorem State.setPoolFree_port (n : Nat) (p : Port) (s : State) : (s.setPoolFree n).port p = s.port p := by
  cases p <;> rfl

/-! ### modSeq -/

@[simp] theorem State.modSeq_portA (f : Sequencer → Sequencer) (s : State) : (s.modSeq f).portA = s.portA := rfl
@[simp] theorem State.modSeq_portB (f : Sequencer → Sequencer) (s : State) : (s.modSeq f).portB = s.portB := rfl
@[simp] theorem State.modSeq_straps (f : Sequencer → Sequencer) (s : State) : (s.modSeq f).straps = s.straps := rfl
@[simp] theorem State.modSeq_table (f : Sequencer → Sequencer) (s : State) : (s.modSeq f).table = s.table := rfl
@[simp] theorem State.modSeq_arb (f : Sequencer → Sequencer) (s : State) : (s.modSeq f).arb = s.arb := rfl
@[simp] theorem State.modSeq_poolFree (f : Sequencer → Sequencer) (s : State) : (s.modSeq f).poolFree = s.poolFree := rfl
@[simp] theorem State.modSeq_seq (f : Sequencer → Sequencer) (s : State) : (s.modSeq f).seq = f s.seq := rfl
@[simp] theorem State.modSeq_force (f : Sequencer → Sequencer) (s : State) : (s.modSeq f).force = s.force := rfl
@[simp] theorem State.modSeq_cap (f : Sequencer → Sequencer) (s : State) : (s.modSeq f).cap = s.cap := rfl
@[simp] theorem State.modSeq_engine (f : Sequencer → Sequencer) (s : State) : (s.modSeq f).engine = s.engine := rfl
@[simp] theorem State.modSeq_desk (f : Sequencer → Sequencer) (s : State) : (s.modSeq f).desk = s.desk := rfl
@[simp] theorem State.modSeq_store (f : Sequencer → Sequencer) (s : State) : (s.modSeq f).store = s.store := rfl
@[simp] theorem State.modSeq_cal (f : Sequencer → Sequencer) (s : State) : (s.modSeq f).cal = s.cal := rfl
@[simp] theorem State.modSeq_inputs (f : Sequencer → Sequencer) (s : State) : (s.modSeq f).inputs = s.inputs := rfl
@[simp] theorem State.modSeq_lamps (f : Sequencer → Sequencer) (s : State) : (s.modSeq f).lamps = s.lamps := rfl
@[simp] theorem State.modSeq_pins (f : Sequencer → Sequencer) (s : State) : (s.modSeq f).pins = s.pins := rfl
@[simp] theorem State.modSeq_pending (f : Sequencer → Sequencer) (s : State) : (s.modSeq f).pending = s.pending := rfl
@[simp] theorem State.modSeq_port (f : Sequencer → Sequencer) (p : Port) (s : State) : (s.modSeq f).port p = s.port p := by
  cases p <;> rfl

/-! ### modForce -/

@[simp] theorem State.modForce_portA (f : ForceMonitor → ForceMonitor) (s : State) : (s.modForce f).portA = s.portA := rfl
@[simp] theorem State.modForce_portB (f : ForceMonitor → ForceMonitor) (s : State) : (s.modForce f).portB = s.portB := rfl
@[simp] theorem State.modForce_straps (f : ForceMonitor → ForceMonitor) (s : State) : (s.modForce f).straps = s.straps := rfl
@[simp] theorem State.modForce_table (f : ForceMonitor → ForceMonitor) (s : State) : (s.modForce f).table = s.table := rfl
@[simp] theorem State.modForce_arb (f : ForceMonitor → ForceMonitor) (s : State) : (s.modForce f).arb = s.arb := rfl
@[simp] theorem State.modForce_poolFree (f : ForceMonitor → ForceMonitor) (s : State) : (s.modForce f).poolFree = s.poolFree := rfl
@[simp] theorem State.modForce_seq (f : ForceMonitor → ForceMonitor) (s : State) : (s.modForce f).seq = s.seq := rfl
@[simp] theorem State.modForce_force (f : ForceMonitor → ForceMonitor) (s : State) : (s.modForce f).force = f s.force := rfl
@[simp] theorem State.modForce_cap (f : ForceMonitor → ForceMonitor) (s : State) : (s.modForce f).cap = s.cap := rfl
@[simp] theorem State.modForce_engine (f : ForceMonitor → ForceMonitor) (s : State) : (s.modForce f).engine = s.engine := rfl
@[simp] theorem State.modForce_desk (f : ForceMonitor → ForceMonitor) (s : State) : (s.modForce f).desk = s.desk := rfl
@[simp] theorem State.modForce_store (f : ForceMonitor → ForceMonitor) (s : State) : (s.modForce f).store = s.store := rfl
@[simp] theorem State.modForce_cal (f : ForceMonitor → ForceMonitor) (s : State) : (s.modForce f).cal = s.cal := rfl
@[simp] theorem State.modForce_inputs (f : ForceMonitor → ForceMonitor) (s : State) : (s.modForce f).inputs = s.inputs := rfl
@[simp] theorem State.modForce_lamps (f : ForceMonitor → ForceMonitor) (s : State) : (s.modForce f).lamps = s.lamps := rfl
@[simp] theorem State.modForce_pins (f : ForceMonitor → ForceMonitor) (s : State) : (s.modForce f).pins = s.pins := rfl
@[simp] theorem State.modForce_pending (f : ForceMonitor → ForceMonitor) (s : State) : (s.modForce f).pending = s.pending := rfl
@[simp] theorem State.modForce_port (f : ForceMonitor → ForceMonitor) (p : Port) (s : State) : (s.modForce f).port p = s.port p := by
  cases p <;> rfl

/-! ### modCap -/

@[simp] theorem State.modCap_portA (f : CaptureUnit → CaptureUnit) (s : State) : (s.modCap f).portA = s.portA := rfl
@[simp] theorem State.modCap_portB (f : CaptureUnit → CaptureUnit) (s : State) : (s.modCap f).portB = s.portB := rfl
@[simp] theorem State.modCap_straps (f : CaptureUnit → CaptureUnit) (s : State) : (s.modCap f).straps = s.straps := rfl
@[simp] theorem State.modCap_table (f : CaptureUnit → CaptureUnit) (s : State) : (s.modCap f).table = s.table := rfl
@[simp] theorem State.modCap_arb (f : CaptureUnit → CaptureUnit) (s : State) : (s.modCap f).arb = s.arb := rfl
@[simp] theorem State.modCap_poolFree (f : CaptureUnit → CaptureUnit) (s : State) : (s.modCap f).poolFree = s.poolFree := rfl
@[simp] theorem State.modCap_seq (f : CaptureUnit → CaptureUnit) (s : State) : (s.modCap f).seq = s.seq := rfl
@[simp] theorem State.modCap_force (f : CaptureUnit → CaptureUnit) (s : State) : (s.modCap f).force = s.force := rfl
@[simp] theorem State.modCap_cap (f : CaptureUnit → CaptureUnit) (s : State) : (s.modCap f).cap = f s.cap := rfl
@[simp] theorem State.modCap_engine (f : CaptureUnit → CaptureUnit) (s : State) : (s.modCap f).engine = s.engine := rfl
@[simp] theorem State.modCap_desk (f : CaptureUnit → CaptureUnit) (s : State) : (s.modCap f).desk = s.desk := rfl
@[simp] theorem State.modCap_store (f : CaptureUnit → CaptureUnit) (s : State) : (s.modCap f).store = s.store := rfl
@[simp] theorem State.modCap_cal (f : CaptureUnit → CaptureUnit) (s : State) : (s.modCap f).cal = s.cal := rfl
@[simp] theorem State.modCap_inputs (f : CaptureUnit → CaptureUnit) (s : State) : (s.modCap f).inputs = s.inputs := rfl
@[simp] theorem State.modCap_lamps (f : CaptureUnit → CaptureUnit) (s : State) : (s.modCap f).lamps = s.lamps := rfl
@[simp] theorem State.modCap_pins (f : CaptureUnit → CaptureUnit) (s : State) : (s.modCap f).pins = s.pins := rfl
@[simp] theorem State.modCap_pending (f : CaptureUnit → CaptureUnit) (s : State) : (s.modCap f).pending = s.pending := rfl
@[simp] theorem State.modCap_port (f : CaptureUnit → CaptureUnit) (p : Port) (s : State) : (s.modCap f).port p = s.port p := by
  cases p <;> rfl

/-! ### setEngine -/

@[simp] theorem State.setEngine_portA (m : Option Measurement) (s : State) : (s.setEngine m).portA = s.portA := rfl
@[simp] theorem State.setEngine_portB (m : Option Measurement) (s : State) : (s.setEngine m).portB = s.portB := rfl
@[simp] theorem State.setEngine_straps (m : Option Measurement) (s : State) : (s.setEngine m).straps = s.straps := rfl
@[simp] theorem State.setEngine_table (m : Option Measurement) (s : State) : (s.setEngine m).table = s.table := rfl
@[simp] theorem State.setEngine_arb (m : Option Measurement) (s : State) : (s.setEngine m).arb = s.arb := rfl
@[simp] theorem State.setEngine_poolFree (m : Option Measurement) (s : State) : (s.setEngine m).poolFree = s.poolFree := rfl
@[simp] theorem State.setEngine_seq (m : Option Measurement) (s : State) : (s.setEngine m).seq = s.seq := rfl
@[simp] theorem State.setEngine_force (m : Option Measurement) (s : State) : (s.setEngine m).force = s.force := rfl
@[simp] theorem State.setEngine_cap (m : Option Measurement) (s : State) : (s.setEngine m).cap = s.cap := rfl
@[simp] theorem State.setEngine_engine (m : Option Measurement) (s : State) : (s.setEngine m).engine = m := rfl
@[simp] theorem State.setEngine_desk (m : Option Measurement) (s : State) : (s.setEngine m).desk = s.desk := rfl
@[simp] theorem State.setEngine_store (m : Option Measurement) (s : State) : (s.setEngine m).store = s.store := rfl
@[simp] theorem State.setEngine_cal (m : Option Measurement) (s : State) : (s.setEngine m).cal = s.cal := rfl
@[simp] theorem State.setEngine_inputs (m : Option Measurement) (s : State) : (s.setEngine m).inputs = s.inputs := rfl
@[simp] theorem State.setEngine_lamps (m : Option Measurement) (s : State) : (s.setEngine m).lamps = s.lamps := rfl
@[simp] theorem State.setEngine_pins (m : Option Measurement) (s : State) : (s.setEngine m).pins = s.pins := rfl
@[simp] theorem State.setEngine_pending (m : Option Measurement) (s : State) : (s.setEngine m).pending = s.pending := rfl
@[simp] theorem State.setEngine_port (m : Option Measurement) (p : Port) (s : State) : (s.setEngine m).port p = s.port p := by
  cases p <;> rfl

/-! ### setDesk -/

@[simp] theorem State.setDesk_portA (d : ReviewDesk) (s : State) : (s.setDesk d).portA = s.portA := rfl
@[simp] theorem State.setDesk_portB (d : ReviewDesk) (s : State) : (s.setDesk d).portB = s.portB := rfl
@[simp] theorem State.setDesk_straps (d : ReviewDesk) (s : State) : (s.setDesk d).straps = s.straps := rfl
@[simp] theorem State.setDesk_table (d : ReviewDesk) (s : State) : (s.setDesk d).table = s.table := rfl
@[simp] theorem State.setDesk_arb (d : ReviewDesk) (s : State) : (s.setDesk d).arb = s.arb := rfl
@[simp] theorem State.setDesk_poolFree (d : ReviewDesk) (s : State) : (s.setDesk d).poolFree = s.poolFree := rfl
@[simp] theorem State.setDesk_seq (d : ReviewDesk) (s : State) : (s.setDesk d).seq = s.seq := rfl
@[simp] theorem State.setDesk_force (d : ReviewDesk) (s : State) : (s.setDesk d).force = s.force := rfl
@[simp] theorem State.setDesk_cap (d : ReviewDesk) (s : State) : (s.setDesk d).cap = s.cap := rfl
@[simp] theorem State.setDesk_engine (d : ReviewDesk) (s : State) : (s.setDesk d).engine = s.engine := rfl
@[simp] theorem State.setDesk_desk (d : ReviewDesk) (s : State) : (s.setDesk d).desk = d := rfl
@[simp] theorem State.setDesk_store (d : ReviewDesk) (s : State) : (s.setDesk d).store = s.store := rfl
@[simp] theorem State.setDesk_cal (d : ReviewDesk) (s : State) : (s.setDesk d).cal = s.cal := rfl
@[simp] theorem State.setDesk_inputs (d : ReviewDesk) (s : State) : (s.setDesk d).inputs = s.inputs := rfl
@[simp] theorem State.setDesk_lamps (d : ReviewDesk) (s : State) : (s.setDesk d).lamps = s.lamps := rfl
@[simp] theorem State.setDesk_pins (d : ReviewDesk) (s : State) : (s.setDesk d).pins = s.pins := rfl
@[simp] theorem State.setDesk_pending (d : ReviewDesk) (s : State) : (s.setDesk d).pending = s.pending := rfl
@[simp] theorem State.setDesk_port (d : ReviewDesk) (p : Port) (s : State) : (s.setDesk d).port p = s.port p := by
  cases p <;> rfl

/-! ### modStore -/

@[simp] theorem State.modStore_portA (f : ResultStore → ResultStore) (s : State) : (s.modStore f).portA = s.portA := rfl
@[simp] theorem State.modStore_portB (f : ResultStore → ResultStore) (s : State) : (s.modStore f).portB = s.portB := rfl
@[simp] theorem State.modStore_straps (f : ResultStore → ResultStore) (s : State) : (s.modStore f).straps = s.straps := rfl
@[simp] theorem State.modStore_table (f : ResultStore → ResultStore) (s : State) : (s.modStore f).table = s.table := rfl
@[simp] theorem State.modStore_arb (f : ResultStore → ResultStore) (s : State) : (s.modStore f).arb = s.arb := rfl
@[simp] theorem State.modStore_poolFree (f : ResultStore → ResultStore) (s : State) : (s.modStore f).poolFree = s.poolFree := rfl
@[simp] theorem State.modStore_seq (f : ResultStore → ResultStore) (s : State) : (s.modStore f).seq = s.seq := rfl
@[simp] theorem State.modStore_force (f : ResultStore → ResultStore) (s : State) : (s.modStore f).force = s.force := rfl
@[simp] theorem State.modStore_cap (f : ResultStore → ResultStore) (s : State) : (s.modStore f).cap = s.cap := rfl
@[simp] theorem State.modStore_engine (f : ResultStore → ResultStore) (s : State) : (s.modStore f).engine = s.engine := rfl
@[simp] theorem State.modStore_desk (f : ResultStore → ResultStore) (s : State) : (s.modStore f).desk = s.desk := rfl
@[simp] theorem State.modStore_store (f : ResultStore → ResultStore) (s : State) : (s.modStore f).store = f s.store := rfl
@[simp] theorem State.modStore_cal (f : ResultStore → ResultStore) (s : State) : (s.modStore f).cal = s.cal := rfl
@[simp] theorem State.modStore_inputs (f : ResultStore → ResultStore) (s : State) : (s.modStore f).inputs = s.inputs := rfl
@[simp] theorem State.modStore_lamps (f : ResultStore → ResultStore) (s : State) : (s.modStore f).lamps = s.lamps := rfl
@[simp] theorem State.modStore_pins (f : ResultStore → ResultStore) (s : State) : (s.modStore f).pins = s.pins := rfl
@[simp] theorem State.modStore_pending (f : ResultStore → ResultStore) (s : State) : (s.modStore f).pending = s.pending := rfl
@[simp] theorem State.modStore_port (f : ResultStore → ResultStore) (p : Port) (s : State) : (s.modStore f).port p = s.port p := by
  cases p <;> rfl

/-! ### modCal -/

@[simp] theorem State.modCal_portA (f : CalTable → CalTable) (s : State) : (s.modCal f).portA = s.portA := rfl
@[simp] theorem State.modCal_portB (f : CalTable → CalTable) (s : State) : (s.modCal f).portB = s.portB := rfl
@[simp] theorem State.modCal_straps (f : CalTable → CalTable) (s : State) : (s.modCal f).straps = s.straps := rfl
@[simp] theorem State.modCal_table (f : CalTable → CalTable) (s : State) : (s.modCal f).table = s.table := rfl
@[simp] theorem State.modCal_arb (f : CalTable → CalTable) (s : State) : (s.modCal f).arb = s.arb := rfl
@[simp] theorem State.modCal_poolFree (f : CalTable → CalTable) (s : State) : (s.modCal f).poolFree = s.poolFree := rfl
@[simp] theorem State.modCal_seq (f : CalTable → CalTable) (s : State) : (s.modCal f).seq = s.seq := rfl
@[simp] theorem State.modCal_force (f : CalTable → CalTable) (s : State) : (s.modCal f).force = s.force := rfl
@[simp] theorem State.modCal_cap (f : CalTable → CalTable) (s : State) : (s.modCal f).cap = s.cap := rfl
@[simp] theorem State.modCal_engine (f : CalTable → CalTable) (s : State) : (s.modCal f).engine = s.engine := rfl
@[simp] theorem State.modCal_desk (f : CalTable → CalTable) (s : State) : (s.modCal f).desk = s.desk := rfl
@[simp] theorem State.modCal_store (f : CalTable → CalTable) (s : State) : (s.modCal f).store = s.store := rfl
@[simp] theorem State.modCal_cal (f : CalTable → CalTable) (s : State) : (s.modCal f).cal = f s.cal := rfl
@[simp] theorem State.modCal_inputs (f : CalTable → CalTable) (s : State) : (s.modCal f).inputs = s.inputs := rfl
@[simp] theorem State.modCal_lamps (f : CalTable → CalTable) (s : State) : (s.modCal f).lamps = s.lamps := rfl
@[simp] theorem State.modCal_pins (f : CalTable → CalTable) (s : State) : (s.modCal f).pins = s.pins := rfl
@[simp] theorem State.modCal_pending (f : CalTable → CalTable) (s : State) : (s.modCal f).pending = s.pending := rfl
@[simp] theorem State.modCal_port (f : CalTable → CalTable) (p : Port) (s : State) : (s.modCal f).port p = s.port p := by
  cases p <;> rfl

/-! ### modInputs -/

@[simp] theorem State.modInputs_portA (f : Inputs → Inputs) (s : State) : (s.modInputs f).portA = s.portA := rfl
@[simp] theorem State.modInputs_portB (f : Inputs → Inputs) (s : State) : (s.modInputs f).portB = s.portB := rfl
@[simp] theorem State.modInputs_straps (f : Inputs → Inputs) (s : State) : (s.modInputs f).straps = s.straps := rfl
@[simp] theorem State.modInputs_table (f : Inputs → Inputs) (s : State) : (s.modInputs f).table = s.table := rfl
@[simp] theorem State.modInputs_arb (f : Inputs → Inputs) (s : State) : (s.modInputs f).arb = s.arb := rfl
@[simp] theorem State.modInputs_poolFree (f : Inputs → Inputs) (s : State) : (s.modInputs f).poolFree = s.poolFree := rfl
@[simp] theorem State.modInputs_seq (f : Inputs → Inputs) (s : State) : (s.modInputs f).seq = s.seq := rfl
@[simp] theorem State.modInputs_force (f : Inputs → Inputs) (s : State) : (s.modInputs f).force = s.force := rfl
@[simp] theorem State.modInputs_cap (f : Inputs → Inputs) (s : State) : (s.modInputs f).cap = s.cap := rfl
@[simp] theorem State.modInputs_engine (f : Inputs → Inputs) (s : State) : (s.modInputs f).engine = s.engine := rfl
@[simp] theorem State.modInputs_desk (f : Inputs → Inputs) (s : State) : (s.modInputs f).desk = s.desk := rfl
@[simp] theorem State.modInputs_store (f : Inputs → Inputs) (s : State) : (s.modInputs f).store = s.store := rfl
@[simp] theorem State.modInputs_cal (f : Inputs → Inputs) (s : State) : (s.modInputs f).cal = s.cal := rfl
@[simp] theorem State.modInputs_inputs (f : Inputs → Inputs) (s : State) : (s.modInputs f).inputs = f s.inputs := rfl
@[simp] theorem State.modInputs_lamps (f : Inputs → Inputs) (s : State) : (s.modInputs f).lamps = s.lamps := rfl
@[simp] theorem State.modInputs_pins (f : Inputs → Inputs) (s : State) : (s.modInputs f).pins = s.pins := rfl
@[simp] theorem State.modInputs_pending (f : Inputs → Inputs) (s : State) : (s.modInputs f).pending = s.pending := rfl
@[simp] theorem State.modInputs_port (f : Inputs → Inputs) (p : Port) (s : State) : (s.modInputs f).port p = s.port p := by
  cases p <;> rfl

/-! ### modLamps -/

@[simp] theorem State.modLamps_portA (f : Lamps → Lamps) (s : State) : (s.modLamps f).portA = s.portA := rfl
@[simp] theorem State.modLamps_portB (f : Lamps → Lamps) (s : State) : (s.modLamps f).portB = s.portB := rfl
@[simp] theorem State.modLamps_straps (f : Lamps → Lamps) (s : State) : (s.modLamps f).straps = s.straps := rfl
@[simp] theorem State.modLamps_table (f : Lamps → Lamps) (s : State) : (s.modLamps f).table = s.table := rfl
@[simp] theorem State.modLamps_arb (f : Lamps → Lamps) (s : State) : (s.modLamps f).arb = s.arb := rfl
@[simp] theorem State.modLamps_poolFree (f : Lamps → Lamps) (s : State) : (s.modLamps f).poolFree = s.poolFree := rfl
@[simp] theorem State.modLamps_seq (f : Lamps → Lamps) (s : State) : (s.modLamps f).seq = s.seq := rfl
@[simp] theorem State.modLamps_force (f : Lamps → Lamps) (s : State) : (s.modLamps f).force = s.force := rfl
@[simp] theorem State.modLamps_cap (f : Lamps → Lamps) (s : State) : (s.modLamps f).cap = s.cap := rfl
@[simp] theorem State.modLamps_engine (f : Lamps → Lamps) (s : State) : (s.modLamps f).engine = s.engine := rfl
@[simp] theorem State.modLamps_desk (f : Lamps → Lamps) (s : State) : (s.modLamps f).desk = s.desk := rfl
@[simp] theorem State.modLamps_store (f : Lamps → Lamps) (s : State) : (s.modLamps f).store = s.store := rfl
@[simp] theorem State.modLamps_cal (f : Lamps → Lamps) (s : State) : (s.modLamps f).cal = s.cal := rfl
@[simp] theorem State.modLamps_inputs (f : Lamps → Lamps) (s : State) : (s.modLamps f).inputs = s.inputs := rfl
@[simp] theorem State.modLamps_lamps (f : Lamps → Lamps) (s : State) : (s.modLamps f).lamps = f s.lamps := rfl
@[simp] theorem State.modLamps_pins (f : Lamps → Lamps) (s : State) : (s.modLamps f).pins = s.pins := rfl
@[simp] theorem State.modLamps_pending (f : Lamps → Lamps) (s : State) : (s.modLamps f).pending = s.pending := rfl
@[simp] theorem State.modLamps_port (f : Lamps → Lamps) (p : Port) (s : State) : (s.modLamps f).port p = s.port p := by
  cases p <;> rfl

/-! ### modPins -/

@[simp] theorem State.modPins_portA (f : Pins → Pins) (s : State) : (s.modPins f).portA = s.portA := rfl
@[simp] theorem State.modPins_portB (f : Pins → Pins) (s : State) : (s.modPins f).portB = s.portB := rfl
@[simp] theorem State.modPins_straps (f : Pins → Pins) (s : State) : (s.modPins f).straps = s.straps := rfl
@[simp] theorem State.modPins_table (f : Pins → Pins) (s : State) : (s.modPins f).table = s.table := rfl
@[simp] theorem State.modPins_arb (f : Pins → Pins) (s : State) : (s.modPins f).arb = s.arb := rfl
@[simp] theorem State.modPins_poolFree (f : Pins → Pins) (s : State) : (s.modPins f).poolFree = s.poolFree := rfl
@[simp] theorem State.modPins_seq (f : Pins → Pins) (s : State) : (s.modPins f).seq = s.seq := rfl
@[simp] theorem State.modPins_force (f : Pins → Pins) (s : State) : (s.modPins f).force = s.force := rfl
@[simp] theorem State.modPins_cap (f : Pins → Pins) (s : State) : (s.modPins f).cap = s.cap := rfl
@[simp] theorem State.modPins_engine (f : Pins → Pins) (s : State) : (s.modPins f).engine = s.engine := rfl
@[simp] theorem State.modPins_desk (f : Pins → Pins) (s : State) : (s.modPins f).desk = s.desk := rfl
@[simp] theorem State.modPins_store (f : Pins → Pins) (s : State) : (s.modPins f).store = s.store := rfl
@[simp] theorem State.modPins_cal (f : Pins → Pins) (s : State) : (s.modPins f).cal = s.cal := rfl
@[simp] theorem State.modPins_inputs (f : Pins → Pins) (s : State) : (s.modPins f).inputs = s.inputs := rfl
@[simp] theorem State.modPins_lamps (f : Pins → Pins) (s : State) : (s.modPins f).lamps = s.lamps := rfl
@[simp] theorem State.modPins_pins (f : Pins → Pins) (s : State) : (s.modPins f).pins = f s.pins := rfl
@[simp] theorem State.modPins_pending (f : Pins → Pins) (s : State) : (s.modPins f).pending = s.pending := rfl
@[simp] theorem State.modPins_port (f : Pins → Pins) (p : Port) (s : State) : (s.modPins f).port p = s.port p := by
  cases p <;> rfl

/-! ### modTimers -/

@[simp] theorem State.modTimers_portA (f : CycleTimers → CycleTimers) (s : State) : (s.modTimers f).portA = s.portA := rfl
@[simp] theorem State.modTimers_portB (f : CycleTimers → CycleTimers) (s : State) : (s.modTimers f).portB = s.portB := rfl
@[simp] theorem State.modTimers_straps (f : CycleTimers → CycleTimers) (s : State) : (s.modTimers f).straps = s.straps := rfl
@[simp] theorem State.modTimers_table (f : CycleTimers → CycleTimers) (s : State) : (s.modTimers f).table = s.table := rfl
@[simp] theorem State.modTimers_arb (f : CycleTimers → CycleTimers) (s : State) : (s.modTimers f).arb = s.arb := rfl
@[simp] theorem State.modTimers_poolFree (f : CycleTimers → CycleTimers) (s : State) : (s.modTimers f).poolFree = s.poolFree := rfl
@[simp] theorem State.modTimers_seq (f : CycleTimers → CycleTimers) (s : State) : (s.modTimers f).seq = { s.seq with timers := f s.seq.timers } := rfl
@[simp] theorem State.modTimers_force (f : CycleTimers → CycleTimers) (s : State) : (s.modTimers f).force = s.force := rfl
@[simp] theorem State.modTimers_cap (f : CycleTimers → CycleTimers) (s : State) : (s.modTimers f).cap = s.cap := rfl
@[simp] theorem State.modTimers_engine (f : CycleTimers → CycleTimers) (s : State) : (s.modTimers f).engine = s.engine := rfl
@[simp] theorem State.modTimers_desk (f : CycleTimers → CycleTimers) (s : State) : (s.modTimers f).desk = s.desk := rfl
@[simp] theorem State.modTimers_store (f : CycleTimers → CycleTimers) (s : State) : (s.modTimers f).store = s.store := rfl
@[simp] theorem State.modTimers_cal (f : CycleTimers → CycleTimers) (s : State) : (s.modTimers f).cal = s.cal := rfl
@[simp] theorem State.modTimers_inputs (f : CycleTimers → CycleTimers) (s : State) : (s.modTimers f).inputs = s.inputs := rfl
@[simp] theorem State.modTimers_lamps (f : CycleTimers → CycleTimers) (s : State) : (s.modTimers f).lamps = s.lamps := rfl
@[simp] theorem State.modTimers_pins (f : CycleTimers → CycleTimers) (s : State) : (s.modTimers f).pins = s.pins := rfl
@[simp] theorem State.modTimers_pending (f : CycleTimers → CycleTimers) (s : State) : (s.modTimers f).pending = s.pending := rfl
@[simp] theorem State.modTimers_port (f : CycleTimers → CycleTimers) (p : Port) (s : State) : (s.modTimers f).port p = s.port p := by
  cases p <;> rfl

/-! ### modPort -/

@[simp] theorem State.modPort_straps (p : Port) (f : LinkPort → LinkPort) (s : State) :
    (s.modPort p f).straps = s.straps := by
  cases p <;> rfl
@[simp] theorem State.modPort_table (p : Port) (f : LinkPort → LinkPort) (s : State) :
    (s.modPort p f).table = s.table := by
  cases p <;> rfl
@[simp] theorem State.modPort_arb (p : Port) (f : LinkPort → LinkPort) (s : State) :
    (s.modPort p f).arb = s.arb := by
  cases p <;> rfl
@[simp] theorem State.modPort_poolFree (p : Port) (f : LinkPort → LinkPort) (s : State) :
    (s.modPort p f).poolFree = s.poolFree := by
  cases p <;> rfl
@[simp] theorem State.modPort_seq (p : Port) (f : LinkPort → LinkPort) (s : State) :
    (s.modPort p f).seq = s.seq := by
  cases p <;> rfl
@[simp] theorem State.modPort_force (p : Port) (f : LinkPort → LinkPort) (s : State) :
    (s.modPort p f).force = s.force := by
  cases p <;> rfl
@[simp] theorem State.modPort_cap (p : Port) (f : LinkPort → LinkPort) (s : State) :
    (s.modPort p f).cap = s.cap := by
  cases p <;> rfl
@[simp] theorem State.modPort_engine (p : Port) (f : LinkPort → LinkPort) (s : State) :
    (s.modPort p f).engine = s.engine := by
  cases p <;> rfl
@[simp] theorem State.modPort_desk (p : Port) (f : LinkPort → LinkPort) (s : State) :
    (s.modPort p f).desk = s.desk := by
  cases p <;> rfl
@[simp] theorem State.modPort_store (p : Port) (f : LinkPort → LinkPort) (s : State) :
    (s.modPort p f).store = s.store := by
  cases p <;> rfl
@[simp] theorem State.modPort_cal (p : Port) (f : LinkPort → LinkPort) (s : State) :
    (s.modPort p f).cal = s.cal := by
  cases p <;> rfl
@[simp] theorem State.modPort_inputs (p : Port) (f : LinkPort → LinkPort) (s : State) :
    (s.modPort p f).inputs = s.inputs := by
  cases p <;> rfl
@[simp] theorem State.modPort_lamps (p : Port) (f : LinkPort → LinkPort) (s : State) :
    (s.modPort p f).lamps = s.lamps := by
  cases p <;> rfl
@[simp] theorem State.modPort_pins (p : Port) (f : LinkPort → LinkPort) (s : State) :
    (s.modPort p f).pins = s.pins := by
  cases p <;> rfl
@[simp] theorem State.modPort_pending (p : Port) (f : LinkPort → LinkPort) (s : State) :
    (s.modPort p f).pending = s.pending := by
  cases p <;> rfl
@[simp] theorem State.modPort_A_portA (f : LinkPort → LinkPort) (s : State) : (s.modPort .A f).portA = f s.portA := rfl
@[simp] theorem State.modPort_A_portB (f : LinkPort → LinkPort) (s : State) : (s.modPort .A f).portB = s.portB := rfl
@[simp] theorem State.modPort_B_portA (f : LinkPort → LinkPort) (s : State) : (s.modPort .B f).portA = s.portA := rfl
@[simp] theorem State.modPort_B_portB (f : LinkPort → LinkPort) (s : State) : (s.modPort .B f).portB = f s.portB := rfl
@[simp] theorem State.port_A (s : State) : s.port .A = s.portA := rfl
@[simp] theorem State.port_B (s : State) : s.port .B = s.portB := rfl

/-- The port changed reads back changed. -/
@[simp] theorem State.modPort_port_self (p : Port) (f : LinkPort → LinkPort) (s : State) :
    (s.modPort p f).port p = f (s.port p) := by
  cases p <;> rfl

/-- The other port is left as it is. -/
theorem State.modPort_port_other {p q : Port} (h : q ≠ p) (f : LinkPort → LinkPort) (s : State) :
    (s.modPort p f).port q = s.port q := by
  cases p <;> cases q <;> first | rfl | exact absurd rfl h

@[simp] theorem Port.other_ne (p : Port) : p.other ≠ p := by
  cases p <;> decide

/-- Changing a port twice is changing it once. -/
@[simp] theorem State.modPort_modPort (p : Port) (f g : LinkPort → LinkPort) (s : State) :
    (s.modPort p g).modPort p f = s.modPort p (f ∘ g) := by
  cases p <;> rfl

/-- Changing nothing of a port changes nothing. -/
@[simp] theorem State.modPort_id (p : Port) (s : State) : s.modPort p (fun q => q) = s := by
  cases p <;> rfl

/-! ### What derived readings depend on -/

@[simp] theorem findOrder_modArb (id : Nat) (f : Arbiter → Arbiter) (s : State) :
    findOrder id (s.modArb f) = findOrder id s := rfl
@[simp] theorem findOrder_setPoolFree (id : Nat) (n : Nat) (s : State) :
    findOrder id (s.setPoolFree n) = findOrder id s := rfl
@[simp] theorem findOrder_modSeq (id : Nat) (f : Sequencer → Sequencer) (s : State) :
    findOrder id (s.modSeq f) = findOrder id s := rfl
@[simp] theorem findOrder_modForce (id : Nat) (f : ForceMonitor → ForceMonitor) (s : State) :
    findOrder id (s.modForce f) = findOrder id s := rfl
@[simp] theorem findOrder_modCap (id : Nat) (f : CaptureUnit → CaptureUnit) (s : State) :
    findOrder id (s.modCap f) = findOrder id s := rfl
@[simp] theorem findOrder_setEngine (id : Nat) (m : Option Measurement) (s : State) :
    findOrder id (s.setEngine m) = findOrder id s := rfl
@[simp] theorem findOrder_setDesk (id : Nat) (d : ReviewDesk) (s : State) :
    findOrder id (s.setDesk d) = findOrder id s := rfl
@[simp] theorem findOrder_modStore (id : Nat) (f : ResultStore → ResultStore) (s : State) :
    findOrder id (s.modStore f) = findOrder id s := rfl
@[simp] theorem findOrder_modCal (id : Nat) (f : CalTable → CalTable) (s : State) :
    findOrder id (s.modCal f) = findOrder id s := rfl
@[simp] theorem findOrder_modInputs (id : Nat) (f : Inputs → Inputs) (s : State) :
    findOrder id (s.modInputs f) = findOrder id s := rfl
@[simp] theorem findOrder_modLamps (id : Nat) (f : Lamps → Lamps) (s : State) :
    findOrder id (s.modLamps f) = findOrder id s := rfl
@[simp] theorem findOrder_modPins (id : Nat) (f : Pins → Pins) (s : State) :
    findOrder id (s.modPins f) = findOrder id s := rfl
@[simp] theorem findOrder_modTimers (id : Nat) (f : CycleTimers → CycleTimers) (s : State) :
    findOrder id (s.modTimers f) = findOrder id s := rfl
@[simp] theorem findOrder_modPort (id : Nat) (p : Port) (f : LinkPort → LinkPort) (s : State) :
    findOrder id (s.modPort p f) = findOrder id s := by
  cases p <;> rfl

@[simp] theorem ownerOf_setPoolFree (n : Nat) (s : State) :
    ownerOf (s.setPoolFree n) = ownerOf s := rfl
@[simp] theorem ownerOf_modSeq (f : Sequencer → Sequencer) (s : State) :
    ownerOf (s.modSeq f) = ownerOf s := rfl
@[simp] theorem ownerOf_modForce (f : ForceMonitor → ForceMonitor) (s : State) :
    ownerOf (s.modForce f) = ownerOf s := rfl
@[simp] theorem ownerOf_modCap (f : CaptureUnit → CaptureUnit) (s : State) :
    ownerOf (s.modCap f) = ownerOf s := rfl
@[simp] theorem ownerOf_setEngine (m : Option Measurement) (s : State) :
    ownerOf (s.setEngine m) = ownerOf s := rfl
@[simp] theorem ownerOf_setDesk (d : ReviewDesk) (s : State) :
    ownerOf (s.setDesk d) = ownerOf s := rfl
@[simp] theorem ownerOf_modStore (f : ResultStore → ResultStore) (s : State) :
    ownerOf (s.modStore f) = ownerOf s := rfl
@[simp] theorem ownerOf_modCal (f : CalTable → CalTable) (s : State) :
    ownerOf (s.modCal f) = ownerOf s := rfl
@[simp] theorem ownerOf_modInputs (f : Inputs → Inputs) (s : State) :
    ownerOf (s.modInputs f) = ownerOf s := rfl
@[simp] theorem ownerOf_modLamps (f : Lamps → Lamps) (s : State) :
    ownerOf (s.modLamps f) = ownerOf s := rfl
@[simp] theorem ownerOf_modPins (f : Pins → Pins) (s : State) :
    ownerOf (s.modPins f) = ownerOf s := rfl
@[simp] theorem ownerOf_modTimers (f : CycleTimers → CycleTimers) (s : State) :
    ownerOf (s.modTimers f) = ownerOf s := rfl
@[simp] theorem ownerOf_modPort (p : Port) (f : LinkPort → LinkPort) (s : State) :
    ownerOf (s.modPort p f) = ownerOf s := by
  cases p <;> rfl

@[simp] theorem doorClosed_modTable (f : OrderTable → OrderTable) (s : State) :
    doorClosed (s.modTable f) = doorClosed s := rfl
@[simp] theorem doorClosed_modArb (f : Arbiter → Arbiter) (s : State) :
    doorClosed (s.modArb f) = doorClosed s := rfl
@[simp] theorem doorClosed_setPoolFree (n : Nat) (s : State) :
    doorClosed (s.setPoolFree n) = doorClosed s := rfl
@[simp] theorem doorClosed_modSeq (f : Sequencer → Sequencer) (s : State) :
    doorClosed (s.modSeq f) = doorClosed s := rfl
@[simp] theorem doorClosed_modForce (f : ForceMonitor → ForceMonitor) (s : State) :
    doorClosed (s.modForce f) = doorClosed s := rfl
@[simp] theorem doorClosed_modCap (f : CaptureUnit → CaptureUnit) (s : State) :
    doorClosed (s.modCap f) = doorClosed s := rfl
@[simp] theorem doorClosed_setEngine (m : Option Measurement) (s : State) :
    doorClosed (s.setEngine m) = doorClosed s := rfl
@[simp] theorem doorClosed_setDesk (d : ReviewDesk) (s : State) :
    doorClosed (s.setDesk d) = doorClosed s := rfl
@[simp] theorem doorClosed_modStore (f : ResultStore → ResultStore) (s : State) :
    doorClosed (s.modStore f) = doorClosed s := rfl
@[simp] theorem doorClosed_modCal (f : CalTable → CalTable) (s : State) :
    doorClosed (s.modCal f) = doorClosed s := rfl
@[simp] theorem doorClosed_modLamps (f : Lamps → Lamps) (s : State) :
    doorClosed (s.modLamps f) = doorClosed s := rfl
@[simp] theorem doorClosed_modPins (f : Pins → Pins) (s : State) :
    doorClosed (s.modPins f) = doorClosed s := rfl
@[simp] theorem doorClosed_modTimers (f : CycleTimers → CycleTimers) (s : State) :
    doorClosed (s.modTimers f) = doorClosed s := rfl
@[simp] theorem doorClosed_modPort (p : Port) (f : LinkPort → LinkPort) (s : State) :
    doorClosed (s.modPort p f) = doorClosed s := by
  cases p <;> rfl

@[simp] theorem estopClear_modTable (f : OrderTable → OrderTable) (s : State) :
    estopClear (s.modTable f) = estopClear s := rfl
@[simp] theorem estopClear_modArb (f : Arbiter → Arbiter) (s : State) :
    estopClear (s.modArb f) = estopClear s := rfl
@[simp] theorem estopClear_setPoolFree (n : Nat) (s : State) :
    estopClear (s.setPoolFree n) = estopClear s := rfl
@[simp] theorem estopClear_modSeq (f : Sequencer → Sequencer) (s : State) :
    estopClear (s.modSeq f) = estopClear s := rfl
@[simp] theorem estopClear_modForce (f : ForceMonitor → ForceMonitor) (s : State) :
    estopClear (s.modForce f) = estopClear s := rfl
@[simp] theorem estopClear_modCap (f : CaptureUnit → CaptureUnit) (s : State) :
    estopClear (s.modCap f) = estopClear s := rfl
@[simp] theorem estopClear_setEngine (m : Option Measurement) (s : State) :
    estopClear (s.setEngine m) = estopClear s := rfl
@[simp] theorem estopClear_setDesk (d : ReviewDesk) (s : State) :
    estopClear (s.setDesk d) = estopClear s := rfl
@[simp] theorem estopClear_modStore (f : ResultStore → ResultStore) (s : State) :
    estopClear (s.modStore f) = estopClear s := rfl
@[simp] theorem estopClear_modCal (f : CalTable → CalTable) (s : State) :
    estopClear (s.modCal f) = estopClear s := rfl
@[simp] theorem estopClear_modLamps (f : Lamps → Lamps) (s : State) :
    estopClear (s.modLamps f) = estopClear s := rfl
@[simp] theorem estopClear_modPins (f : Pins → Pins) (s : State) :
    estopClear (s.modPins f) = estopClear s := rfl
@[simp] theorem estopClear_modTimers (f : CycleTimers → CycleTimers) (s : State) :
    estopClear (s.modTimers f) = estopClear s := rfl
@[simp] theorem estopClear_modPort (p : Port) (f : LinkPort → LinkPort) (s : State) :
    estopClear (s.modPort p f) = estopClear s := by
  cases p <;> rfl

@[simp] theorem stationReads_modTable (k : Nat) (f : OrderTable → OrderTable) (s : State) :
    stationReads k (s.modTable f) = stationReads k s := rfl
@[simp] theorem stationReads_modArb (k : Nat) (f : Arbiter → Arbiter) (s : State) :
    stationReads k (s.modArb f) = stationReads k s := rfl
@[simp] theorem stationReads_setPoolFree (k : Nat) (n : Nat) (s : State) :
    stationReads k (s.setPoolFree n) = stationReads k s := rfl
@[simp] theorem stationReads_modSeq (k : Nat) (f : Sequencer → Sequencer) (s : State) :
    stationReads k (s.modSeq f) = stationReads k s := rfl
@[simp] theorem stationReads_modForce (k : Nat) (f : ForceMonitor → ForceMonitor) (s : State) :
    stationReads k (s.modForce f) = stationReads k s := rfl
@[simp] theorem stationReads_modCap (k : Nat) (f : CaptureUnit → CaptureUnit) (s : State) :
    stationReads k (s.modCap f) = stationReads k s := rfl
@[simp] theorem stationReads_setEngine (k : Nat) (m : Option Measurement) (s : State) :
    stationReads k (s.setEngine m) = stationReads k s := rfl
@[simp] theorem stationReads_setDesk (k : Nat) (d : ReviewDesk) (s : State) :
    stationReads k (s.setDesk d) = stationReads k s := rfl
@[simp] theorem stationReads_modStore (k : Nat) (f : ResultStore → ResultStore) (s : State) :
    stationReads k (s.modStore f) = stationReads k s := rfl
@[simp] theorem stationReads_modCal (k : Nat) (f : CalTable → CalTable) (s : State) :
    stationReads k (s.modCal f) = stationReads k s := rfl
@[simp] theorem stationReads_modLamps (k : Nat) (f : Lamps → Lamps) (s : State) :
    stationReads k (s.modLamps f) = stationReads k s := rfl
@[simp] theorem stationReads_modPins (k : Nat) (f : Pins → Pins) (s : State) :
    stationReads k (s.modPins f) = stationReads k s := rfl
@[simp] theorem stationReads_modTimers (k : Nat) (f : CycleTimers → CycleTimers) (s : State) :
    stationReads k (s.modTimers f) = stationReads k s := rfl
@[simp] theorem stationReads_modPort (k : Nat) (p : Port) (f : LinkPort → LinkPort) (s : State) :
    stationReads k (s.modPort p f) = stationReads k s := by
  cases p <;> rfl

@[simp] theorem stationRecord_modTable (k : Nat) (f : OrderTable → OrderTable) (s : State) :
    stationRecord k (s.modTable f) = stationRecord k s := rfl
@[simp] theorem stationRecord_modArb (k : Nat) (f : Arbiter → Arbiter) (s : State) :
    stationRecord k (s.modArb f) = stationRecord k s := rfl
@[simp] theorem stationRecord_setPoolFree (k : Nat) (n : Nat) (s : State) :
    stationRecord k (s.setPoolFree n) = stationRecord k s := rfl
@[simp] theorem stationRecord_modSeq (k : Nat) (f : Sequencer → Sequencer) (s : State) :
    stationRecord k (s.modSeq f) = stationRecord k s := rfl
@[simp] theorem stationRecord_modForce (k : Nat) (f : ForceMonitor → ForceMonitor) (s : State) :
    stationRecord k (s.modForce f) = stationRecord k s := rfl
@[simp] theorem stationRecord_modCap (k : Nat) (f : CaptureUnit → CaptureUnit) (s : State) :
    stationRecord k (s.modCap f) = stationRecord k s := rfl
@[simp] theorem stationRecord_setEngine (k : Nat) (m : Option Measurement) (s : State) :
    stationRecord k (s.setEngine m) = stationRecord k s := rfl
@[simp] theorem stationRecord_setDesk (k : Nat) (d : ReviewDesk) (s : State) :
    stationRecord k (s.setDesk d) = stationRecord k s := rfl
@[simp] theorem stationRecord_modStore (k : Nat) (f : ResultStore → ResultStore) (s : State) :
    stationRecord k (s.modStore f) = stationRecord k s := rfl
@[simp] theorem stationRecord_modInputs (k : Nat) (f : Inputs → Inputs) (s : State) :
    stationRecord k (s.modInputs f) = stationRecord k s := rfl
@[simp] theorem stationRecord_modLamps (k : Nat) (f : Lamps → Lamps) (s : State) :
    stationRecord k (s.modLamps f) = stationRecord k s := rfl
@[simp] theorem stationRecord_modPins (k : Nat) (f : Pins → Pins) (s : State) :
    stationRecord k (s.modPins f) = stationRecord k s := rfl
@[simp] theorem stationRecord_modTimers (k : Nat) (f : CycleTimers → CycleTimers) (s : State) :
    stationRecord k (s.modTimers f) = stationRecord k s := rfl
@[simp] theorem stationRecord_modPort (k : Nat) (p : Port) (f : LinkPort → LinkPort) (s : State) :
    stationRecord k (s.modPort p f) = stationRecord k s := by
  cases p <;> rfl

@[simp] theorem objectiveFields_modTable (k : Nat) (f : OrderTable → OrderTable) (s : State) :
    objectiveFields k (s.modTable f) = objectiveFields k s := rfl
@[simp] theorem objectiveFields_modArb (k : Nat) (f : Arbiter → Arbiter) (s : State) :
    objectiveFields k (s.modArb f) = objectiveFields k s := rfl
@[simp] theorem objectiveFields_setPoolFree (k : Nat) (n : Nat) (s : State) :
    objectiveFields k (s.setPoolFree n) = objectiveFields k s := rfl
@[simp] theorem objectiveFields_modSeq (k : Nat) (f : Sequencer → Sequencer) (s : State) :
    objectiveFields k (s.modSeq f) = objectiveFields k s := rfl
@[simp] theorem objectiveFields_modForce (k : Nat) (f : ForceMonitor → ForceMonitor) (s : State) :
    objectiveFields k (s.modForce f) = objectiveFields k s := rfl
@[simp] theorem objectiveFields_modCap (k : Nat) (f : CaptureUnit → CaptureUnit) (s : State) :
    objectiveFields k (s.modCap f) = objectiveFields k s := rfl
@[simp] theorem objectiveFields_setEngine (k : Nat) (m : Option Measurement) (s : State) :
    objectiveFields k (s.setEngine m) = objectiveFields k s := rfl
@[simp] theorem objectiveFields_setDesk (k : Nat) (d : ReviewDesk) (s : State) :
    objectiveFields k (s.setDesk d) = objectiveFields k s := rfl
@[simp] theorem objectiveFields_modStore (k : Nat) (f : ResultStore → ResultStore) (s : State) :
    objectiveFields k (s.modStore f) = objectiveFields k s := rfl
@[simp] theorem objectiveFields_modInputs (k : Nat) (f : Inputs → Inputs) (s : State) :
    objectiveFields k (s.modInputs f) = objectiveFields k s := rfl
@[simp] theorem objectiveFields_modLamps (k : Nat) (f : Lamps → Lamps) (s : State) :
    objectiveFields k (s.modLamps f) = objectiveFields k s := rfl
@[simp] theorem objectiveFields_modPins (k : Nat) (f : Pins → Pins) (s : State) :
    objectiveFields k (s.modPins f) = objectiveFields k s := rfl
@[simp] theorem objectiveFields_modTimers (k : Nat) (f : CycleTimers → CycleTimers) (s : State) :
    objectiveFields k (s.modTimers f) = objectiveFields k s := rfl
@[simp] theorem objectiveFields_modPort (k : Nat) (p : Port) (f : LinkPort → LinkPort) (s : State) :
    objectiveFields k (s.modPort p f) = objectiveFields k s := by
  cases p <;> rfl

@[simp] theorem conditionOf_modTable (k : Nat) (f : OrderTable → OrderTable) (s : State) :
    conditionOf k (s.modTable f) = conditionOf k s := rfl
@[simp] theorem conditionOf_modArb (k : Nat) (f : Arbiter → Arbiter) (s : State) :
    conditionOf k (s.modArb f) = conditionOf k s := rfl
@[simp] theorem conditionOf_setPoolFree (k : Nat) (n : Nat) (s : State) :
    conditionOf k (s.setPoolFree n) = conditionOf k s := rfl
@[simp] theorem conditionOf_modSeq (k : Nat) (f : Sequencer → Sequencer) (s : State) :
    conditionOf k (s.modSeq f) = conditionOf k s := rfl
@[simp] theorem conditionOf_modForce (k : Nat) (f : ForceMonitor → ForceMonitor) (s : State) :
    conditionOf k (s.modForce f) = conditionOf k s := rfl
@[simp] theorem conditionOf_modCap (k : Nat) (f : CaptureUnit → CaptureUnit) (s : State) :
    conditionOf k (s.modCap f) = conditionOf k s := rfl
@[simp] theorem conditionOf_setEngine (k : Nat) (m : Option Measurement) (s : State) :
    conditionOf k (s.setEngine m) = conditionOf k s := rfl
@[simp] theorem conditionOf_setDesk (k : Nat) (d : ReviewDesk) (s : State) :
    conditionOf k (s.setDesk d) = conditionOf k s := rfl
@[simp] theorem conditionOf_modStore (k : Nat) (f : ResultStore → ResultStore) (s : State) :
    conditionOf k (s.modStore f) = conditionOf k s := rfl
@[simp] theorem conditionOf_modInputs (k : Nat) (f : Inputs → Inputs) (s : State) :
    conditionOf k (s.modInputs f) = conditionOf k s := rfl
@[simp] theorem conditionOf_modLamps (k : Nat) (f : Lamps → Lamps) (s : State) :
    conditionOf k (s.modLamps f) = conditionOf k s := rfl
@[simp] theorem conditionOf_modPins (k : Nat) (f : Pins → Pins) (s : State) :
    conditionOf k (s.modPins f) = conditionOf k s := rfl
@[simp] theorem conditionOf_modTimers (k : Nat) (f : CycleTimers → CycleTimers) (s : State) :
    conditionOf k (s.modTimers f) = conditionOf k s := rfl
@[simp] theorem conditionOf_modPort (k : Nat) (p : Port) (f : LinkPort → LinkPort) (s : State) :
    conditionOf k (s.modPort p f) = conditionOf k s := by
  cases p <;> rfl

@[simp] theorem gainInUse_modTable (f : OrderTable → OrderTable) (s : State) :
    gainInUse (s.modTable f) = gainInUse s := rfl
@[simp] theorem gainInUse_modArb (f : Arbiter → Arbiter) (s : State) :
    gainInUse (s.modArb f) = gainInUse s := rfl
@[simp] theorem gainInUse_setPoolFree (n : Nat) (s : State) :
    gainInUse (s.setPoolFree n) = gainInUse s := rfl
@[simp] theorem gainInUse_modSeq (f : Sequencer → Sequencer) (s : State) :
    gainInUse (s.modSeq f) = gainInUse s := rfl
@[simp] theorem gainInUse_modForce (f : ForceMonitor → ForceMonitor) (s : State) :
    gainInUse (s.modForce f) = gainInUse s := rfl
@[simp] theorem gainInUse_modCap (f : CaptureUnit → CaptureUnit) (s : State) :
    gainInUse (s.modCap f) = gainInUse s := rfl
@[simp] theorem gainInUse_setEngine (m : Option Measurement) (s : State) :
    gainInUse (s.setEngine m) = gainInUse s := rfl
@[simp] theorem gainInUse_setDesk (d : ReviewDesk) (s : State) :
    gainInUse (s.setDesk d) = gainInUse s := rfl
@[simp] theorem gainInUse_modStore (f : ResultStore → ResultStore) (s : State) :
    gainInUse (s.modStore f) = gainInUse s := rfl
@[simp] theorem gainInUse_modInputs (f : Inputs → Inputs) (s : State) :
    gainInUse (s.modInputs f) = gainInUse s := rfl
@[simp] theorem gainInUse_modLamps (f : Lamps → Lamps) (s : State) :
    gainInUse (s.modLamps f) = gainInUse s := rfl
@[simp] theorem gainInUse_modPins (f : Pins → Pins) (s : State) :
    gainInUse (s.modPins f) = gainInUse s := rfl
@[simp] theorem gainInUse_modTimers (f : CycleTimers → CycleTimers) (s : State) :
    gainInUse (s.modTimers f) = gainInUse s := rfl
@[simp] theorem gainInUse_modPort (p : Port) (f : LinkPort → LinkPort) (s : State) :
    gainInUse (s.modPort p f) = gainInUse s := by
  cases p <;> rfl

@[simp] theorem freeRoom_modTable (f : OrderTable → OrderTable) (s : State) :
    freeRoom (s.modTable f) = freeRoom s := rfl
@[simp] theorem freeRoom_modArb (f : Arbiter → Arbiter) (s : State) :
    freeRoom (s.modArb f) = freeRoom s := rfl
@[simp] theorem freeRoom_setPoolFree (n : Nat) (s : State) :
    freeRoom (s.setPoolFree n) = freeRoom s := rfl
@[simp] theorem freeRoom_modSeq (f : Sequencer → Sequencer) (s : State) :
    freeRoom (s.modSeq f) = freeRoom s := rfl
@[simp] theorem freeRoom_modForce (f : ForceMonitor → ForceMonitor) (s : State) :
    freeRoom (s.modForce f) = freeRoom s := rfl
@[simp] theorem freeRoom_modCap (f : CaptureUnit → CaptureUnit) (s : State) :
    freeRoom (s.modCap f) = freeRoom s := rfl
@[simp] theorem freeRoom_setEngine (m : Option Measurement) (s : State) :
    freeRoom (s.setEngine m) = freeRoom s := rfl
@[simp] theorem freeRoom_setDesk (d : ReviewDesk) (s : State) :
    freeRoom (s.setDesk d) = freeRoom s := rfl
@[simp] theorem freeRoom_modCal (f : CalTable → CalTable) (s : State) :
    freeRoom (s.modCal f) = freeRoom s := rfl
@[simp] theorem freeRoom_modInputs (f : Inputs → Inputs) (s : State) :
    freeRoom (s.modInputs f) = freeRoom s := rfl
@[simp] theorem freeRoom_modLamps (f : Lamps → Lamps) (s : State) :
    freeRoom (s.modLamps f) = freeRoom s := rfl
@[simp] theorem freeRoom_modPins (f : Pins → Pins) (s : State) :
    freeRoom (s.modPins f) = freeRoom s := rfl
@[simp] theorem freeRoom_modTimers (f : CycleTimers → CycleTimers) (s : State) :
    freeRoom (s.modTimers f) = freeRoom s := rfl
@[simp] theorem freeRoom_modPort (p : Port) (f : LinkPort → LinkPort) (s : State) :
    freeRoom (s.modPort p f) = freeRoom s := by
  cases p <;> rfl

@[simp] theorem listedPoints_modArb (f : Arbiter → Arbiter) (s : State) :
    listedPoints (s.modArb f) = listedPoints s := rfl
@[simp] theorem listedPoints_setPoolFree (n : Nat) (s : State) :
    listedPoints (s.setPoolFree n) = listedPoints s := rfl
@[simp] theorem listedPoints_modSeq (f : Sequencer → Sequencer) (s : State) :
    listedPoints (s.modSeq f) = listedPoints s := rfl
@[simp] theorem listedPoints_modForce (f : ForceMonitor → ForceMonitor) (s : State) :
    listedPoints (s.modForce f) = listedPoints s := rfl
@[simp] theorem listedPoints_modCap (f : CaptureUnit → CaptureUnit) (s : State) :
    listedPoints (s.modCap f) = listedPoints s := rfl
@[simp] theorem listedPoints_setEngine (m : Option Measurement) (s : State) :
    listedPoints (s.setEngine m) = listedPoints s := rfl
@[simp] theorem listedPoints_setDesk (d : ReviewDesk) (s : State) :
    listedPoints (s.setDesk d) = listedPoints s := rfl
@[simp] theorem listedPoints_modStore (f : ResultStore → ResultStore) (s : State) :
    listedPoints (s.modStore f) = listedPoints s := rfl
@[simp] theorem listedPoints_modCal (f : CalTable → CalTable) (s : State) :
    listedPoints (s.modCal f) = listedPoints s := rfl
@[simp] theorem listedPoints_modInputs (f : Inputs → Inputs) (s : State) :
    listedPoints (s.modInputs f) = listedPoints s := rfl
@[simp] theorem listedPoints_modLamps (f : Lamps → Lamps) (s : State) :
    listedPoints (s.modLamps f) = listedPoints s := rfl
@[simp] theorem listedPoints_modPins (f : Pins → Pins) (s : State) :
    listedPoints (s.modPins f) = listedPoints s := rfl
@[simp] theorem listedPoints_modTimers (f : CycleTimers → CycleTimers) (s : State) :
    listedPoints (s.modTimers f) = listedPoints s := rfl
@[simp] theorem listedPoints_modPort (p : Port) (f : LinkPort → LinkPort) (s : State) :
    listedPoints (s.modPort p f) = listedPoints s := by
  cases p <;> rfl

end Sys2Proof.Machine
end

