-- ==== Sys2Proof/Laws/Frames.lean ====
section
/-!
SUPPORT. The frame of every shared operation: the blocks of the state that it leaves as they are, one lemma per operation.
-/

namespace Sys2Proof.Machine

@[simp] theorem postTo_frame (p : Port) (n : Notice) (s : State) :
    (postTo p n s).straps = s.straps ∧ (postTo p n s).table = s.table ∧ (postTo p n s).arb = s.arb
      ∧ (postTo p n s).poolFree = s.poolFree ∧ (postTo p n s).seq = s.seq ∧ (postTo p n s).force = s.force
      ∧ (postTo p n s).cap = s.cap ∧ (postTo p n s).engine = s.engine ∧ (postTo p n s).desk = s.desk
      ∧ (postTo p n s).store = s.store ∧ (postTo p n s).cal = s.cal ∧ (postTo p n s).inputs = s.inputs
      ∧ (postTo p n s).lamps = s.lamps ∧ (postTo p n s).pins = s.pins ∧ (postTo p n s).pending = s.pending := by
  simp [postTo]

@[simp] theorem postBoth_frame (n : Notice) (s : State) :
    (postBoth n s).straps = s.straps ∧ (postBoth n s).table = s.table ∧ (postBoth n s).arb = s.arb
      ∧ (postBoth n s).poolFree = s.poolFree ∧ (postBoth n s).seq = s.seq ∧ (postBoth n s).force = s.force
      ∧ (postBoth n s).cap = s.cap ∧ (postBoth n s).engine = s.engine ∧ (postBoth n s).desk = s.desk
      ∧ (postBoth n s).store = s.store ∧ (postBoth n s).cal = s.cal ∧ (postBoth n s).inputs = s.inputs
      ∧ (postBoth n s).lamps = s.lamps ∧ (postBoth n s).pins = s.pins ∧ (postBoth n s).pending = s.pending := by
  simp [postBoth]

@[simp] theorem sendResponse_frame (src : Source) (kind : Nat) (st : Status) (body : List Byte) (s : State) :
    (sendResponse src kind st body s).straps = s.straps ∧ (sendResponse src kind st body s).table = s.table
      ∧ (sendResponse src kind st body s).arb = s.arb ∧ (sendResponse src kind st body s).poolFree = s.poolFree
      ∧ (sendResponse src kind st body s).seq = s.seq ∧ (sendResponse src kind st body s).force = s.force
      ∧ (sendResponse src kind st body s).cap = s.cap ∧ (sendResponse src kind st body s).engine = s.engine
      ∧ (sendResponse src kind st body s).desk = s.desk ∧ (sendResponse src kind st body s).store = s.store
      ∧ (sendResponse src kind st body s).cal = s.cal ∧ (sendResponse src kind st body s).inputs = s.inputs
      ∧ (sendResponse src kind st body s).lamps = s.lamps ∧ (sendResponse src kind st body s).pins = s.pins
      ∧ (sendResponse src kind st body s).pending = s.pending := by
  simp [sendResponse]

@[simp] theorem doneHandling_frame (cmd : Instr) (p : Port) (s : State) :
    (doneHandling cmd p s).straps = s.straps ∧ (doneHandling cmd p s).table = s.table
      ∧ (doneHandling cmd p s).arb = s.arb ∧ (doneHandling cmd p s).poolFree = s.poolFree
      ∧ (doneHandling cmd p s).seq = s.seq ∧ (doneHandling cmd p s).force = s.force
      ∧ (doneHandling cmd p s).cap = s.cap ∧ (doneHandling cmd p s).engine = s.engine
      ∧ (doneHandling cmd p s).desk = s.desk ∧ (doneHandling cmd p s).store = s.store
      ∧ (doneHandling cmd p s).cal = s.cal ∧ (doneHandling cmd p s).inputs = s.inputs
      ∧ (doneHandling cmd p s).lamps = s.lamps ∧ (doneHandling cmd p s).pins = s.pins
      ∧ (doneHandling cmd p s).pending = s.pending := by
  simp [doneHandling]

@[simp] theorem updOrder_frame (id : Nat) (f : Order → Order) (s : State) :
    (updOrder id f s).portA = s.portA ∧ (updOrder id f s).portB = s.portB ∧ (updOrder id f s).straps = s.straps
      ∧ (updOrder id f s).arb = s.arb ∧ (updOrder id f s).poolFree = s.poolFree ∧ (updOrder id f s).seq = s.seq
      ∧ (updOrder id f s).force = s.force ∧ (updOrder id f s).cap = s.cap ∧ (updOrder id f s).engine = s.engine
      ∧ (updOrder id f s).desk = s.desk ∧ (updOrder id f s).store = s.store ∧ (updOrder id f s).cal = s.cal
      ∧ (updOrder id f s).inputs = s.inputs ∧ (updOrder id f s).lamps = s.lamps ∧ (updOrder id f s).pins = s.pins
      ∧ (updOrder id f s).pending = s.pending := by
  simp [updOrder]

@[simp] theorem judgePointsLow_frame (s : State) :
    (judgePointsLow s).straps = s.straps ∧ (judgePointsLow s).arb = s.arb ∧ (judgePointsLow s).poolFree = s.poolFree
      ∧ (judgePointsLow s).seq = s.seq ∧ (judgePointsLow s).force = s.force ∧ (judgePointsLow s).cap = s.cap
      ∧ (judgePointsLow s).engine = s.engine ∧ (judgePointsLow s).desk = s.desk ∧ (judgePointsLow s).store = s.store
      ∧ (judgePointsLow s).cal = s.cal ∧ (judgePointsLow s).inputs = s.inputs ∧ (judgePointsLow s).lamps = s.lamps
      ∧ (judgePointsLow s).pins = s.pins ∧ (judgePointsLow s).pending = s.pending := by
  and_intros
  all_goals unfold judgePointsLow; (try dsimp only); repeat' split
  all_goals simp [*]

@[simp] theorem discardPoints_frame (o : Order) (s : State) :
    (discardPoints o s).portA = s.portA ∧ (discardPoints o s).portB = s.portB
      ∧ (discardPoints o s).straps = s.straps ∧ (discardPoints o s).arb = s.arb ∧ (discardPoints o s).seq = s.seq
      ∧ (discardPoints o s).force = s.force ∧ (discardPoints o s).cap = s.cap
      ∧ (discardPoints o s).engine = s.engine ∧ (discardPoints o s).desk = s.desk
      ∧ (discardPoints o s).store = s.store ∧ (discardPoints o s).cal = s.cal
      ∧ (discardPoints o s).inputs = s.inputs ∧ (discardPoints o s).lamps = s.lamps
      ∧ (discardPoints o s).pins = s.pins ∧ (discardPoints o s).pending = s.pending := by
  simp [discardPoints]

@[simp] theorem appendRecord_frame (r : Record) (s : State) :
    (appendRecord r s).portA = s.portA ∧ (appendRecord r s).portB = s.portB ∧ (appendRecord r s).straps = s.straps
      ∧ (appendRecord r s).table = s.table ∧ (appendRecord r s).arb = s.arb
      ∧ (appendRecord r s).poolFree = s.poolFree ∧ (appendRecord r s).seq = s.seq
      ∧ (appendRecord r s).force = s.force ∧ (appendRecord r s).cap = s.cap ∧ (appendRecord r s).engine = s.engine
      ∧ (appendRecord r s).desk = s.desk ∧ (appendRecord r s).cal = s.cal ∧ (appendRecord r s).inputs = s.inputs
      ∧ (appendRecord r s).lamps = s.lamps ∧ (appendRecord r s).pins = s.pins
      ∧ (appendRecord r s).pending = s.pending := by
  simp [appendRecord]

@[simp] theorem postResultsWaiting_frame (o : Order) (seq : Nat) (s : State) :
    (postResultsWaiting o seq s).straps = s.straps ∧ (postResultsWaiting o seq s).table = s.table
      ∧ (postResultsWaiting o seq s).arb = s.arb ∧ (postResultsWaiting o seq s).poolFree = s.poolFree
      ∧ (postResultsWaiting o seq s).seq = s.seq ∧ (postResultsWaiting o seq s).force = s.force
      ∧ (postResultsWaiting o seq s).cap = s.cap ∧ (postResultsWaiting o seq s).engine = s.engine
      ∧ (postResultsWaiting o seq s).desk = s.desk ∧ (postResultsWaiting o seq s).cal = s.cal
      ∧ (postResultsWaiting o seq s).inputs = s.inputs ∧ (postResultsWaiting o seq s).lamps = s.lamps
      ∧ (postResultsWaiting o seq s).pins = s.pins ∧ (postResultsWaiting o seq s).pending = s.pending := by
  simp [postResultsWaiting]

@[simp] theorem countWaiting_frame (o : Order) (seq : Nat) (s : State) :
    (countWaiting o seq s).straps = s.straps ∧ (countWaiting o seq s).table = s.table
      ∧ (countWaiting o seq s).arb = s.arb ∧ (countWaiting o seq s).poolFree = s.poolFree
      ∧ (countWaiting o seq s).seq = s.seq ∧ (countWaiting o seq s).force = s.force
      ∧ (countWaiting o seq s).cap = s.cap ∧ (countWaiting o seq s).engine = s.engine
      ∧ (countWaiting o seq s).desk = s.desk ∧ (countWaiting o seq s).cal = s.cal
      ∧ (countWaiting o seq s).inputs = s.inputs ∧ (countWaiting o seq s).lamps = s.lamps
      ∧ (countWaiting o seq s).pins = s.pins ∧ (countWaiting o seq s).pending = s.pending := by
  and_intros
  all_goals unfold countWaiting; (try dsimp only); repeat' split
  all_goals simp [*]

@[simp] theorem writeRecord_frame (o : Order) (r : Record) (s : State) :
    (writeRecord o r s).straps = s.straps ∧ (writeRecord o r s).arb = s.arb
      ∧ (writeRecord o r s).poolFree = s.poolFree ∧ (writeRecord o r s).seq = s.seq
      ∧ (writeRecord o r s).force = s.force ∧ (writeRecord o r s).cap = s.cap
      ∧ (writeRecord o r s).engine = s.engine ∧ (writeRecord o r s).desk = s.desk ∧ (writeRecord o r s).cal = s.cal
      ∧ (writeRecord o r s).inputs = s.inputs ∧ (writeRecord o r s).lamps = s.lamps
      ∧ (writeRecord o r s).pins = s.pins ∧ (writeRecord o r s).pending = s.pending := by
  and_intros
  all_goals unfold writeRecord; (try dsimp only); repeat' split
  all_goals simp [*]

@[simp] theorem dropCurrent_frame (s : State) :
    (dropCurrent s).portA = s.portA ∧ (dropCurrent s).portB = s.portB ∧ (dropCurrent s).straps = s.straps
      ∧ (dropCurrent s).table = s.table ∧ (dropCurrent s).arb = s.arb ∧ (dropCurrent s).poolFree = s.poolFree
      ∧ (dropCurrent s).force = s.force ∧ (dropCurrent s).cap = s.cap ∧ (dropCurrent s).engine = s.engine
      ∧ (dropCurrent s).desk = s.desk ∧ (dropCurrent s).store = s.store ∧ (dropCurrent s).cal = s.cal
      ∧ (dropCurrent s).inputs = s.inputs ∧ (dropCurrent s).lamps = s.lamps ∧ (dropCurrent s).pins = s.pins
      ∧ (dropCurrent s).pending = s.pending := by
  simp [dropCurrent]

@[simp] theorem recordCurrent_frame (o : Order) (st : RecState) (why : Reason) (s : State) :
    (recordCurrent o st why s).straps = s.straps ∧ (recordCurrent o st why s).arb = s.arb
      ∧ (recordCurrent o st why s).poolFree = s.poolFree ∧ (recordCurrent o st why s).force = s.force
      ∧ (recordCurrent o st why s).cap = s.cap ∧ (recordCurrent o st why s).engine = s.engine
      ∧ (recordCurrent o st why s).desk = s.desk ∧ (recordCurrent o st why s).cal = s.cal
      ∧ (recordCurrent o st why s).inputs = s.inputs ∧ (recordCurrent o st why s).lamps = s.lamps
      ∧ (recordCurrent o st why s).pins = s.pins ∧ (recordCurrent o st why s).pending = s.pending := by
  and_intros
  all_goals unfold recordCurrent; (try dsimp only); repeat' split
  all_goals simp [*]

@[simp] theorem recordImpressions_frame (o : Order) (why : Reason) (l : List Impression) (s : State) :
    (recordImpressions o why l s).straps = s.straps ∧ (recordImpressions o why l s).arb = s.arb
      ∧ (recordImpressions o why l s).poolFree = s.poolFree ∧ (recordImpressions o why l s).seq = s.seq
      ∧ (recordImpressions o why l s).force = s.force ∧ (recordImpressions o why l s).cap = s.cap
      ∧ (recordImpressions o why l s).engine = s.engine ∧ (recordImpressions o why l s).desk = s.desk
      ∧ (recordImpressions o why l s).cal = s.cal ∧ (recordImpressions o why l s).inputs = s.inputs
      ∧ (recordImpressions o why l s).lamps = s.lamps ∧ (recordImpressions o why l s).pins = s.pins
      ∧ (recordImpressions o why l s).pending = s.pending := by
  induction l generalizing s with
  | nil => simp [recordImpressions]
  | cons i rest ih => simp [recordImpressions, ih]

@[simp] theorem flushImpressions_frame (o : Order) (why : Reason) (s : State) :
    (flushImpressions o why s).straps = s.straps ∧ (flushImpressions o why s).arb = s.arb
      ∧ (flushImpressions o why s).poolFree = s.poolFree ∧ (flushImpressions o why s).force = s.force
      ∧ (flushImpressions o why s).cap = s.cap ∧ (flushImpressions o why s).engine = s.engine
      ∧ (flushImpressions o why s).desk = s.desk ∧ (flushImpressions o why s).cal = s.cal
      ∧ (flushImpressions o why s).inputs = s.inputs ∧ (flushImpressions o why s).lamps = s.lamps
      ∧ (flushImpressions o why s).pins = s.pins ∧ (flushImpressions o why s).pending = s.pending := by
  simp [flushImpressions]

@[simp] theorem enterState_frame (q : SeqState) (s : State) :
    (enterState q s).portA = s.portA ∧ (enterState q s).portB = s.portB ∧ (enterState q s).straps = s.straps
      ∧ (enterState q s).table = s.table ∧ (enterState q s).arb = s.arb ∧ (enterState q s).poolFree = s.poolFree
      ∧ (enterState q s).cap = s.cap ∧ (enterState q s).engine = s.engine ∧ (enterState q s).desk = s.desk
      ∧ (enterState q s).store = s.store ∧ (enterState q s).cal = s.cal ∧ (enterState q s).inputs = s.inputs
      ∧ (enterState q s).lamps = s.lamps ∧ (enterState q s).pins = s.pins ∧ (enterState q s).pending = s.pending := by
  simp [enterState]

@[simp] theorem stopStage_frame (s : State) :
    (stopStage s).portA = s.portA ∧ (stopStage s).portB = s.portB ∧ (stopStage s).straps = s.straps
      ∧ (stopStage s).table = s.table ∧ (stopStage s).arb = s.arb ∧ (stopStage s).poolFree = s.poolFree
      ∧ (stopStage s).seq = s.seq ∧ (stopStage s).force = s.force ∧ (stopStage s).cap = s.cap
      ∧ (stopStage s).engine = s.engine ∧ (stopStage s).desk = s.desk ∧ (stopStage s).store = s.store
      ∧ (stopStage s).cal = s.cal ∧ (stopStage s).inputs = s.inputs ∧ (stopStage s).lamps = s.lamps
      ∧ (stopStage s).pending = s.pending := by
  and_intros
  all_goals unfold stopStage; (try dsimp only); repeat' split
  all_goals simp [*]

@[simp] theorem stopMoveTimers_frame (s : State) :
    (stopMoveTimers s).portA = s.portA ∧ (stopMoveTimers s).portB = s.portB ∧ (stopMoveTimers s).straps = s.straps
      ∧ (stopMoveTimers s).table = s.table ∧ (stopMoveTimers s).arb = s.arb
      ∧ (stopMoveTimers s).poolFree = s.poolFree ∧ (stopMoveTimers s).force = s.force
      ∧ (stopMoveTimers s).cap = s.cap ∧ (stopMoveTimers s).engine = s.engine ∧ (stopMoveTimers s).desk = s.desk
      ∧ (stopMoveTimers s).store = s.store ∧ (stopMoveTimers s).cal = s.cal ∧ (stopMoveTimers s).inputs = s.inputs
      ∧ (stopMoveTimers s).lamps = s.lamps ∧ (stopMoveTimers s).pins = s.pins
      ∧ (stopMoveTimers s).pending = s.pending := by
  simp [stopMoveTimers]

@[simp] theorem issueMove_frame (n : Nat) (s : State) :
    (issueMove n s).portA = s.portA ∧ (issueMove n s).portB = s.portB ∧ (issueMove n s).straps = s.straps
      ∧ (issueMove n s).table = s.table ∧ (issueMove n s).arb = s.arb ∧ (issueMove n s).poolFree = s.poolFree
      ∧ (issueMove n s).force = s.force ∧ (issueMove n s).cap = s.cap ∧ (issueMove n s).engine = s.engine
      ∧ (issueMove n s).desk = s.desk ∧ (issueMove n s).store = s.store ∧ (issueMove n s).cal = s.cal
      ∧ (issueMove n s).inputs = s.inputs ∧ (issueMove n s).lamps = s.lamps ∧ (issueMove n s).pending = s.pending := by
  and_intros
  all_goals unfold issueMove; (try dsimp only); repeat' split
  all_goals simp [*]

@[simp] theorem enterMoveIndent_frame (o : Order) (s : State) :
    (enterMoveIndent o s).portA = s.portA ∧ (enterMoveIndent o s).portB = s.portB
      ∧ (enterMoveIndent o s).straps = s.straps ∧ (enterMoveIndent o s).table = s.table
      ∧ (enterMoveIndent o s).arb = s.arb ∧ (enterMoveIndent o s).poolFree = s.poolFree
      ∧ (enterMoveIndent o s).cap = s.cap ∧ (enterMoveIndent o s).engine = s.engine
      ∧ (enterMoveIndent o s).desk = s.desk ∧ (enterMoveIndent o s).store = s.store
      ∧ (enterMoveIndent o s).cal = s.cal ∧ (enterMoveIndent o s).inputs = s.inputs
      ∧ (enterMoveIndent o s).lamps = s.lamps ∧ (enterMoveIndent o s).pending = s.pending := by
  simp [enterMoveIndent]

@[simp] theorem enterMoveView_frame (o : Order) (s : State) :
    (enterMoveView o s).portA = s.portA ∧ (enterMoveView o s).portB = s.portB
      ∧ (enterMoveView o s).straps = s.straps ∧ (enterMoveView o s).table = s.table
      ∧ (enterMoveView o s).arb = s.arb ∧ (enterMoveView o s).poolFree = s.poolFree
      ∧ (enterMoveView o s).cap = s.cap ∧ (enterMoveView o s).engine = s.engine ∧ (enterMoveView o s).desk = s.desk
      ∧ (enterMoveView o s).store = s.store ∧ (enterMoveView o s).cal = s.cal
      ∧ (enterMoveView o s).inputs = s.inputs ∧ (enterMoveView o s).lamps = s.lamps
      ∧ (enterMoveView o s).pending = s.pending := by
  simp [enterMoveView]

@[simp] theorem enterTare_frame (s : State) :
    (enterTare s).portA = s.portA ∧ (enterTare s).portB = s.portB ∧ (enterTare s).straps = s.straps
      ∧ (enterTare s).table = s.table ∧ (enterTare s).arb = s.arb ∧ (enterTare s).poolFree = s.poolFree
      ∧ (enterTare s).cap = s.cap ∧ (enterTare s).engine = s.engine ∧ (enterTare s).desk = s.desk
      ∧ (enterTare s).store = s.store ∧ (enterTare s).cal = s.cal ∧ (enterTare s).inputs = s.inputs
      ∧ (enterTare s).lamps = s.lamps ∧ (enterTare s).pins = s.pins ∧ (enterTare s).pending = s.pending := by
  simp [enterTare]

@[simp] theorem enterApproach_frame (s : State) :
    (enterApproach s).portA = s.portA ∧ (enterApproach s).portB = s.portB ∧ (enterApproach s).straps = s.straps
      ∧ (enterApproach s).table = s.table ∧ (enterApproach s).arb = s.arb ∧ (enterApproach s).poolFree = s.poolFree
      ∧ (enterApproach s).cap = s.cap ∧ (enterApproach s).engine = s.engine ∧ (enterApproach s).desk = s.desk
      ∧ (enterApproach s).store = s.store ∧ (enterApproach s).cal = s.cal ∧ (enterApproach s).inputs = s.inputs
      ∧ (enterApproach s).lamps = s.lamps ∧ (enterApproach s).pins = s.pins ∧ (enterApproach s).pending = s.pending := by
  simp [enterApproach]

@[simp] theorem enterUnload_frame (s : State) :
    (enterUnload s).portA = s.portA ∧ (enterUnload s).portB = s.portB ∧ (enterUnload s).straps = s.straps
      ∧ (enterUnload s).table = s.table ∧ (enterUnload s).arb = s.arb ∧ (enterUnload s).poolFree = s.poolFree
      ∧ (enterUnload s).cap = s.cap ∧ (enterUnload s).engine = s.engine ∧ (enterUnload s).desk = s.desk
      ∧ (enterUnload s).store = s.store ∧ (enterUnload s).cal = s.cal ∧ (enterUnload s).inputs = s.inputs
      ∧ (enterUnload s).lamps = s.lamps ∧ (enterUnload s).pins = s.pins ∧ (enterUnload s).pending = s.pending := by
  simp [enterUnload]

@[simp] theorem enterRetract_frame (why : RetractPurpose) (s : State) :
    (enterRetract why s).portA = s.portA ∧ (enterRetract why s).portB = s.portB
      ∧ (enterRetract why s).straps = s.straps ∧ (enterRetract why s).table = s.table
      ∧ (enterRetract why s).arb = s.arb ∧ (enterRetract why s).poolFree = s.poolFree
      ∧ (enterRetract why s).cap = s.cap ∧ (enterRetract why s).engine = s.engine
      ∧ (enterRetract why s).desk = s.desk ∧ (enterRetract why s).store = s.store ∧ (enterRetract why s).cal = s.cal
      ∧ (enterRetract why s).inputs = s.inputs ∧ (enterRetract why s).lamps = s.lamps
      ∧ (enterRetract why s).pins = s.pins ∧ (enterRetract why s).pending = s.pending := by
  simp [enterRetract]

@[simp] theorem enterPaused_frame (s : State) :
    (enterPaused s).portA = s.portA ∧ (enterPaused s).portB = s.portB ∧ (enterPaused s).straps = s.straps
      ∧ (enterPaused s).table = s.table ∧ (enterPaused s).arb = s.arb ∧ (enterPaused s).poolFree = s.poolFree
      ∧ (enterPaused s).cap = s.cap ∧ (enterPaused s).engine = s.engine ∧ (enterPaused s).desk = s.desk
      ∧ (enterPaused s).store = s.store ∧ (enterPaused s).cal = s.cal ∧ (enterPaused s).inputs = s.inputs
      ∧ (enterPaused s).lamps = s.lamps ∧ (enterPaused s).pins = s.pins ∧ (enterPaused s).pending = s.pending := by
  simp [enterPaused]

@[simp] theorem enterAwaitPoints_frame (o : Order) (s : State) :
    (enterAwaitPoints o s).portA = s.portA ∧ (enterAwaitPoints o s).portB = s.portB
      ∧ (enterAwaitPoints o s).straps = s.straps ∧ (enterAwaitPoints o s).table = s.table
      ∧ (enterAwaitPoints o s).arb = s.arb ∧ (enterAwaitPoints o s).poolFree = s.poolFree
      ∧ (enterAwaitPoints o s).cap = s.cap ∧ (enterAwaitPoints o s).engine = s.engine
      ∧ (enterAwaitPoints o s).desk = s.desk ∧ (enterAwaitPoints o s).store = s.store
      ∧ (enterAwaitPoints o s).cal = s.cal ∧ (enterAwaitPoints o s).inputs = s.inputs
      ∧ (enterAwaitPoints o s).lamps = s.lamps ∧ (enterAwaitPoints o s).pins = s.pins
      ∧ (enterAwaitPoints o s).pending = s.pending := by
  simp [enterAwaitPoints]

@[simp] theorem enterStoreWait_frame (s : State) :
    (enterStoreWait s).portA = s.portA ∧ (enterStoreWait s).portB = s.portB ∧ (enterStoreWait s).straps = s.straps
      ∧ (enterStoreWait s).table = s.table ∧ (enterStoreWait s).arb = s.arb
      ∧ (enterStoreWait s).poolFree = s.poolFree ∧ (enterStoreWait s).cap = s.cap
      ∧ (enterStoreWait s).engine = s.engine ∧ (enterStoreWait s).desk = s.desk ∧ (enterStoreWait s).store = s.store
      ∧ (enterStoreWait s).cal = s.cal ∧ (enterStoreWait s).inputs = s.inputs ∧ (enterStoreWait s).lamps = s.lamps
      ∧ (enterStoreWait s).pins = s.pins ∧ (enterStoreWait s).pending = s.pending := by
  simp [enterStoreWait]

@[simp] theorem startView_frame (o : Order) (s : State) :
    (startView o s).portA = s.portA ∧ (startView o s).portB = s.portB ∧ (startView o s).straps = s.straps
      ∧ (startView o s).table = s.table ∧ (startView o s).arb = s.arb ∧ (startView o s).poolFree = s.poolFree
      ∧ (startView o s).seq = s.seq ∧ (startView o s).force = s.force ∧ (startView o s).engine = s.engine
      ∧ (startView o s).desk = s.desk ∧ (startView o s).store = s.store ∧ (startView o s).cal = s.cal
      ∧ (startView o s).inputs = s.inputs ∧ (startView o s).lamps = s.lamps ∧ (startView o s).pins = s.pins
      ∧ (startView o s).pending = s.pending := by
  simp [startView]

@[simp] theorem enterSettle_frame (o : Order) (s : State) :
    (enterSettle o s).portA = s.portA ∧ (enterSettle o s).portB = s.portB ∧ (enterSettle o s).straps = s.straps
      ∧ (enterSettle o s).table = s.table ∧ (enterSettle o s).arb = s.arb ∧ (enterSettle o s).poolFree = s.poolFree
      ∧ (enterSettle o s).engine = s.engine ∧ (enterSettle o s).desk = s.desk ∧ (enterSettle o s).store = s.store
      ∧ (enterSettle o s).cal = s.cal ∧ (enterSettle o s).inputs = s.inputs ∧ (enterSettle o s).lamps = s.lamps
      ∧ (enterSettle o s).pins = s.pins ∧ (enterSettle o s).pending = s.pending := by
  simp [enterSettle]

@[simp] theorem stopView_frame (s : State) :
    (stopView s).portA = s.portA ∧ (stopView s).portB = s.portB ∧ (stopView s).straps = s.straps
      ∧ (stopView s).table = s.table ∧ (stopView s).arb = s.arb ∧ (stopView s).poolFree = s.poolFree
      ∧ (stopView s).force = s.force ∧ (stopView s).desk = s.desk ∧ (stopView s).store = s.store
      ∧ (stopView s).cal = s.cal ∧ (stopView s).inputs = s.inputs ∧ (stopView s).lamps = s.lamps
      ∧ (stopView s).pins = s.pins ∧ (stopView s).pending = s.pending := by
  simp [stopView]

@[simp] theorem endOrder_frame (id : Nat) (out : OrderOutcome) (why : Option AbortReason) (s : State) :
    (endOrder id out why s).straps = s.straps ∧ (endOrder id out why s).arb = s.arb
      ∧ (endOrder id out why s).poolFree = s.poolFree ∧ (endOrder id out why s).seq = s.seq
      ∧ (endOrder id out why s).force = s.force ∧ (endOrder id out why s).cap = s.cap
      ∧ (endOrder id out why s).engine = s.engine ∧ (endOrder id out why s).desk = s.desk
      ∧ (endOrder id out why s).cal = s.cal ∧ (endOrder id out why s).inputs = s.inputs
      ∧ (endOrder id out why s).lamps = s.lamps ∧ (endOrder id out why s).pins = s.pins
      ∧ (endOrder id out why s).pending = s.pending := by
  and_intros
  all_goals unfold endOrder; (try dsimp only); repeat' split
  all_goals simp [*]

@[simp] theorem releaseHead_frame (s : State) :
    (releaseHead s).portA = s.portA ∧ (releaseHead s).portB = s.portB ∧ (releaseHead s).straps = s.straps
      ∧ (releaseHead s).table = s.table ∧ (releaseHead s).poolFree = s.poolFree ∧ (releaseHead s).cap = s.cap
      ∧ (releaseHead s).engine = s.engine ∧ (releaseHead s).desk = s.desk ∧ (releaseHead s).store = s.store
      ∧ (releaseHead s).cal = s.cal ∧ (releaseHead s).inputs = s.inputs ∧ (releaseHead s).lamps = s.lamps
      ∧ (releaseHead s).pins = s.pins ∧ (releaseHead s).pending = s.pending := by
  simp [releaseHead]

@[simp] theorem considerGrant_frame (s : State) :
    (considerGrant s).1.straps = s.straps ∧ (considerGrant s).1.poolFree = s.poolFree
      ∧ (considerGrant s).1.seq = s.seq ∧ (considerGrant s).1.force = s.force ∧ (considerGrant s).1.cap = s.cap
      ∧ (considerGrant s).1.engine = s.engine ∧ (considerGrant s).1.desk = s.desk
      ∧ (considerGrant s).1.store = s.store ∧ (considerGrant s).1.cal = s.cal
      ∧ (considerGrant s).1.inputs = s.inputs ∧ (considerGrant s).1.lamps = s.lamps
      ∧ (considerGrant s).1.pins = s.pins ∧ (considerGrant s).1.pending = s.pending := by
  and_intros
  all_goals unfold considerGrant; (try dsimp only); repeat' split
  all_goals simp [*]

@[simp] theorem endOwner_frame (id : Nat) (out : OrderOutcome) (why : Option AbortReason) (s : State) :
    (endOwner id out why s).1.straps = s.straps ∧ (endOwner id out why s).1.poolFree = s.poolFree
      ∧ (endOwner id out why s).1.cap = s.cap ∧ (endOwner id out why s).1.engine = s.engine
      ∧ (endOwner id out why s).1.desk = s.desk ∧ (endOwner id out why s).1.cal = s.cal
      ∧ (endOwner id out why s).1.inputs = s.inputs ∧ (endOwner id out why s).1.lamps = s.lamps
      ∧ (endOwner id out why s).1.pins = s.pins ∧ (endOwner id out why s).1.pending = s.pending := by
  and_intros
  all_goals unfold endOwner; (try dsimp only); repeat' split
  all_goals simp [*]

@[simp] theorem completeCancel_frame (o : Order) (s : State) :
    (completeCancel o s).1.straps = s.straps ∧ (completeCancel o s).1.cap = s.cap
      ∧ (completeCancel o s).1.engine = s.engine ∧ (completeCancel o s).1.desk = s.desk
      ∧ (completeCancel o s).1.cal = s.cal ∧ (completeCancel o s).1.inputs = s.inputs
      ∧ (completeCancel o s).1.lamps = s.lamps ∧ (completeCancel o s).1.pins = s.pins
      ∧ (completeCancel o s).1.pending = s.pending := by
  and_intros
  all_goals unfold completeCancel; (try dsimp only); repeat' split
  all_goals simp [*]

@[simp] theorem takeImpression_frame (o : Order) (s : State) :
    (takeImpression o s).1.straps = s.straps ∧ (takeImpression o s).1.arb = s.arb
      ∧ (takeImpression o s).1.poolFree = s.poolFree ∧ (takeImpression o s).1.cap = s.cap
      ∧ (takeImpression o s).1.engine = s.engine ∧ (takeImpression o s).1.desk = s.desk
      ∧ (takeImpression o s).1.cal = s.cal ∧ (takeImpression o s).1.inputs = s.inputs
      ∧ (takeImpression o s).1.lamps = s.lamps ∧ (takeImpression o s).1.pending = s.pending := by
  and_intros
  all_goals unfold takeImpression; (try dsimp only); repeat' split
  all_goals simp [*]

@[simp] theorem takePoint_frame (o : Order) (s : State) :
    (takePoint o s).1.straps = s.straps ∧ (takePoint o s).1.arb = s.arb ∧ (takePoint o s).1.cap = s.cap
      ∧ (takePoint o s).1.engine = s.engine ∧ (takePoint o s).1.desk = s.desk ∧ (takePoint o s).1.cal = s.cal
      ∧ (takePoint o s).1.inputs = s.inputs ∧ (takePoint o s).1.lamps = s.lamps
      ∧ (takePoint o s).1.pending = s.pending := by
  and_intros
  all_goals unfold takePoint; (try dsimp only); repeat' split
  all_goals simp [*]

@[simp] theorem boundaryTake_frame (o : Order) (s : State) :
    (boundaryTake o s).1.straps = s.straps ∧ (boundaryTake o s).1.cap = s.cap
      ∧ (boundaryTake o s).1.engine = s.engine ∧ (boundaryTake o s).1.desk = s.desk
      ∧ (boundaryTake o s).1.cal = s.cal ∧ (boundaryTake o s).1.inputs = s.inputs
      ∧ (boundaryTake o s).1.lamps = s.lamps ∧ (boundaryTake o s).1.pending = s.pending := by
  and_intros
  all_goals unfold boundaryTake; (try dsimp only); repeat' split
  all_goals simp [*]

@[simp] theorem boundaryRun_frame (o : Order) (s : State) :
    (boundaryRun o s).1.straps = s.straps ∧ (boundaryRun o s).1.cap = s.cap ∧ (boundaryRun o s).1.engine = s.engine
      ∧ (boundaryRun o s).1.desk = s.desk ∧ (boundaryRun o s).1.cal = s.cal ∧ (boundaryRun o s).1.inputs = s.inputs
      ∧ (boundaryRun o s).1.lamps = s.lamps ∧ (boundaryRun o s).1.pending = s.pending := by
  and_intros
  all_goals unfold boundaryRun; (try dsimp only); repeat' split
  all_goals simp [*]

@[simp] theorem boundaryPause_frame (o : Order) (s : State) :
    (boundaryPause o s).portA = s.portA ∧ (boundaryPause o s).portB = s.portB
      ∧ (boundaryPause o s).straps = s.straps ∧ (boundaryPause o s).table = s.table
      ∧ (boundaryPause o s).arb = s.arb ∧ (boundaryPause o s).poolFree = s.poolFree
      ∧ (boundaryPause o s).cap = s.cap ∧ (boundaryPause o s).engine = s.engine ∧ (boundaryPause o s).desk = s.desk
      ∧ (boundaryPause o s).store = s.store ∧ (boundaryPause o s).cal = s.cal
      ∧ (boundaryPause o s).inputs = s.inputs ∧ (boundaryPause o s).lamps = s.lamps
      ∧ (boundaryPause o s).pins = s.pins ∧ (boundaryPause o s).pending = s.pending := by
  and_intros
  all_goals unfold boundaryPause; (try dsimp only); repeat' split
  all_goals simp [*]

@[simp] theorem boundaryStep_frame (s : State) :
    (boundaryStep s).1.straps = s.straps ∧ (boundaryStep s).1.cap = s.cap ∧ (boundaryStep s).1.engine = s.engine
      ∧ (boundaryStep s).1.desk = s.desk ∧ (boundaryStep s).1.cal = s.cal ∧ (boundaryStep s).1.inputs = s.inputs
      ∧ (boundaryStep s).1.lamps = s.lamps ∧ (boundaryStep s).1.pending = s.pending := by
  and_intros
  all_goals unfold boundaryStep; (try dsimp only); repeat' split
  all_goals simp [*]

@[simp] theorem boundaryLoop_frame (n : Nat) (s : State) :
    (boundaryLoop n s).straps = s.straps ∧ (boundaryLoop n s).cap = s.cap ∧ (boundaryLoop n s).engine = s.engine
      ∧ (boundaryLoop n s).desk = s.desk ∧ (boundaryLoop n s).cal = s.cal ∧ (boundaryLoop n s).inputs = s.inputs
      ∧ (boundaryLoop n s).lamps = s.lamps ∧ (boundaryLoop n s).pending = s.pending := by
  induction n generalizing s with
  | zero => simp [boundaryLoop]
  | succ n ih =>
    have h := boundaryStep_frame s
    unfold boundaryLoop
    split <;> rename_i hb <;> rw [hb] at h <;> simp_all

@[simp] theorem boundary_frame (s : State) :
    (boundary s).straps = s.straps ∧ (boundary s).cap = s.cap ∧ (boundary s).engine = s.engine
      ∧ (boundary s).desk = s.desk ∧ (boundary s).cal = s.cal ∧ (boundary s).inputs = s.inputs
      ∧ (boundary s).lamps = s.lamps ∧ (boundary s).pending = s.pending := by
  simp [boundary]

@[simp] theorem grant_frame (s : State) :
    (grant s).straps = s.straps ∧ (grant s).cap = s.cap ∧ (grant s).engine = s.engine ∧ (grant s).desk = s.desk
      ∧ (grant s).cal = s.cal ∧ (grant s).inputs = s.inputs ∧ (grant s).lamps = s.lamps
      ∧ (grant s).pending = s.pending := by
  and_intros
  all_goals unfold grant afterGrant; (try dsimp only); repeat' split
  all_goals simp [*]

@[simp] theorem openReview_frame (o : Order) (why : Reason) (s : State) :
    (openReview o why s).straps = s.straps ∧ (openReview o why s).arb = s.arb
      ∧ (openReview o why s).poolFree = s.poolFree ∧ (openReview o why s).cap = s.cap
      ∧ (openReview o why s).engine = s.engine ∧ (openReview o why s).cal = s.cal
      ∧ (openReview o why s).inputs = s.inputs ∧ (openReview o why s).lamps = s.lamps
      ∧ (openReview o why s).pins = s.pins ∧ (openReview o why s).pending = s.pending := by
  and_intros
  all_goals unfold openReview; (try dsimp only); repeat' split
  all_goals simp [*]

@[simp] theorem clearDesk_frame (s : State) :
    (clearDesk s).portA = s.portA ∧ (clearDesk s).portB = s.portB ∧ (clearDesk s).straps = s.straps
      ∧ (clearDesk s).table = s.table ∧ (clearDesk s).arb = s.arb ∧ (clearDesk s).poolFree = s.poolFree
      ∧ (clearDesk s).seq = s.seq ∧ (clearDesk s).force = s.force ∧ (clearDesk s).cap = s.cap
      ∧ (clearDesk s).engine = s.engine ∧ (clearDesk s).store = s.store ∧ (clearDesk s).cal = s.cal
      ∧ (clearDesk s).inputs = s.inputs ∧ (clearDesk s).lamps = s.lamps ∧ (clearDesk s).pins = s.pins
      ∧ (clearDesk s).pending = s.pending := by
  simp [clearDesk]

@[simp] theorem postReviewClosed_frame (r : Review) (out : ReviewOutcome) (s : State) :
    (postReviewClosed r out s).straps = s.straps ∧ (postReviewClosed r out s).table = s.table
      ∧ (postReviewClosed r out s).arb = s.arb ∧ (postReviewClosed r out s).poolFree = s.poolFree
      ∧ (postReviewClosed r out s).seq = s.seq ∧ (postReviewClosed r out s).force = s.force
      ∧ (postReviewClosed r out s).cap = s.cap ∧ (postReviewClosed r out s).engine = s.engine
      ∧ (postReviewClosed r out s).desk = s.desk ∧ (postReviewClosed r out s).store = s.store
      ∧ (postReviewClosed r out s).cal = s.cal ∧ (postReviewClosed r out s).inputs = s.inputs
      ∧ (postReviewClosed r out s).lamps = s.lamps ∧ (postReviewClosed r out s).pins = s.pins
      ∧ (postReviewClosed r out s).pending = s.pending := by
  and_intros
  all_goals unfold postReviewClosed; (try dsimp only); repeat' split
  all_goals simp [*]

@[simp] theorem closeReview_frame (out : ReviewOutcome) (change : Record → Record) (s : State) :
    (closeReview out change s).straps = s.straps ∧ (closeReview out change s).arb = s.arb
      ∧ (closeReview out change s).poolFree = s.poolFree ∧ (closeReview out change s).seq = s.seq
      ∧ (closeReview out change s).force = s.force ∧ (closeReview out change s).cap = s.cap
      ∧ (closeReview out change s).engine = s.engine ∧ (closeReview out change s).cal = s.cal
      ∧ (closeReview out change s).inputs = s.inputs ∧ (closeReview out change s).lamps = s.lamps
      ∧ (closeReview out change s).pins = s.pins ∧ (closeReview out change s).pending = s.pending := by
  and_intros
  all_goals unfold closeReview; (try dsimp only); repeat' split
  all_goals simp [*]

@[simp] theorem supersedeReview_frame (o : Order) (s : State) :
    (supersedeReview o s).straps = s.straps ∧ (supersedeReview o s).table = s.table
      ∧ (supersedeReview o s).arb = s.arb ∧ (supersedeReview o s).poolFree = s.poolFree
      ∧ (supersedeReview o s).cap = s.cap ∧ (supersedeReview o s).engine = s.engine
      ∧ (supersedeReview o s).cal = s.cal ∧ (supersedeReview o s).inputs = s.inputs
      ∧ (supersedeReview o s).lamps = s.lamps ∧ (supersedeReview o s).pending = s.pending := by
  and_intros
  all_goals unfold supersedeReview; (try dsimp only); repeat' split
  all_goals simp [*]

@[simp] theorem handleFailure_frame (why : Reason) (s : State) :
    (handleFailure why s).straps = s.straps ∧ (handleFailure why s).cap = s.cap
      ∧ (handleFailure why s).engine = s.engine ∧ (handleFailure why s).cal = s.cal
      ∧ (handleFailure why s).inputs = s.inputs ∧ (handleFailure why s).lamps = s.lamps
      ∧ (handleFailure why s).pending = s.pending := by
  and_intros
  all_goals unfold handleFailure; (try dsimp only); repeat' split
  all_goals simp [*]

@[simp] theorem abortRecords_frame (why : AbortReason) (s : State) :
    (abortRecords why s).straps = s.straps ∧ (abortRecords why s).cap = s.cap
      ∧ (abortRecords why s).engine = s.engine ∧ (abortRecords why s).desk = s.desk
      ∧ (abortRecords why s).cal = s.cal ∧ (abortRecords why s).inputs = s.inputs
      ∧ (abortRecords why s).lamps = s.lamps ∧ (abortRecords why s).pending = s.pending := by
  and_intros
  all_goals unfold abortRecords afterGrant; (try dsimp only); repeat' split
  all_goals simp [*]

@[simp] theorem abortPath_frame (why : AbortReason) (spent : Bool) (s : State) :
    (abortPath why spent s).straps = s.straps ∧ (abortPath why spent s).cal = s.cal
      ∧ (abortPath why spent s).inputs = s.inputs ∧ (abortPath why spent s).lamps = s.lamps
      ∧ (abortPath why spent s).pending = s.pending := by
  and_intros
  all_goals unfold abortPath; (try dsimp only); repeat' split
  all_goals simp [*]

@[simp] theorem resumeOwner_frame (o : Order) (s : State) :
    (resumeOwner o s).straps = s.straps ∧ (resumeOwner o s).cap = s.cap ∧ (resumeOwner o s).engine = s.engine
      ∧ (resumeOwner o s).cal = s.cal ∧ (resumeOwner o s).inputs = s.inputs ∧ (resumeOwner o s).lamps = s.lamps
      ∧ (resumeOwner o s).pending = s.pending := by
  and_intros
  all_goals unfold resumeOwner; (try dsimp only); repeat' split
  all_goals simp [*]

@[simp] theorem finishRetract_frame (s : State) :
    (finishRetract s).straps = s.straps ∧ (finishRetract s).cap = s.cap ∧ (finishRetract s).engine = s.engine
      ∧ (finishRetract s).desk = s.desk ∧ (finishRetract s).cal = s.cal ∧ (finishRetract s).inputs = s.inputs
      ∧ (finishRetract s).lamps = s.lamps ∧ (finishRetract s).pending = s.pending := by
  and_intros
  all_goals unfold finishRetract; (try dsimp only); repeat' split
  all_goals simp [*]

@[simp] theorem returnPoint_frame (o : Order) (s : State) :
    (returnPoint o s).portA = s.portA ∧ (returnPoint o s).portB = s.portB ∧ (returnPoint o s).straps = s.straps
      ∧ (returnPoint o s).arb = s.arb ∧ (returnPoint o s).force = s.force ∧ (returnPoint o s).cap = s.cap
      ∧ (returnPoint o s).engine = s.engine ∧ (returnPoint o s).desk = s.desk ∧ (returnPoint o s).store = s.store
      ∧ (returnPoint o s).cal = s.cal ∧ (returnPoint o s).inputs = s.inputs ∧ (returnPoint o s).lamps = s.lamps
      ∧ (returnPoint o s).pins = s.pins ∧ (returnPoint o s).pending = s.pending := by
  and_intros
  all_goals unfold returnPoint; (try dsimp only); repeat' split
  all_goals simp [*]

@[simp] theorem finishStop_frame (s : State) :
    (finishStop s).straps = s.straps ∧ (finishStop s).cap = s.cap ∧ (finishStop s).engine = s.engine
      ∧ (finishStop s).desk = s.desk ∧ (finishStop s).cal = s.cal ∧ (finishStop s).inputs = s.inputs
      ∧ (finishStop s).lamps = s.lamps ∧ (finishStop s).pending = s.pending := by
  and_intros
  all_goals unfold finishStop; (try dsimp only); repeat' split
  all_goals simp [*]

@[simp] theorem finishUnload_frame (s : State) :
    (finishUnload s).straps = s.straps ∧ (finishUnload s).cap = s.cap ∧ (finishUnload s).engine = s.engine
      ∧ (finishUnload s).desk = s.desk ∧ (finishUnload s).cal = s.cal ∧ (finishUnload s).inputs = s.inputs
      ∧ (finishUnload s).lamps = s.lamps ∧ (finishUnload s).pending = s.pending := by
  and_intros
  all_goals unfold finishUnload; (try dsimp only); repeat' split
  all_goals simp [*]

@[simp] theorem judgeRest_frame (motion : Bool) (s : State) :
    (judgeRest motion s).straps = s.straps ∧ (judgeRest motion s).cap = s.cap
      ∧ (judgeRest motion s).engine = s.engine ∧ (judgeRest motion s).desk = s.desk
      ∧ (judgeRest motion s).cal = s.cal ∧ (judgeRest motion s).inputs = s.inputs
      ∧ (judgeRest motion s).lamps = s.lamps ∧ (judgeRest motion s).pending = s.pending := by
  and_intros
  all_goals unfold judgeRest; (try dsimp only); repeat' split
  all_goals simp [*]

@[simp] theorem judgeMove_frame (s : State) :
    (judgeMove s).portA = s.portA ∧ (judgeMove s).portB = s.portB ∧ (judgeMove s).straps = s.straps
      ∧ (judgeMove s).table = s.table ∧ (judgeMove s).arb = s.arb ∧ (judgeMove s).poolFree = s.poolFree
      ∧ (judgeMove s).engine = s.engine ∧ (judgeMove s).desk = s.desk ∧ (judgeMove s).store = s.store
      ∧ (judgeMove s).cal = s.cal ∧ (judgeMove s).inputs = s.inputs ∧ (judgeMove s).lamps = s.lamps
      ∧ (judgeMove s).pins = s.pins ∧ (judgeMove s).pending = s.pending := by
  and_intros
  all_goals unfold judgeMove; (try dsimp only); repeat' split
  all_goals simp [*]

@[simp] theorem judgeTurret_frame (s : State) :
    (judgeTurret s).portA = s.portA ∧ (judgeTurret s).portB = s.portB ∧ (judgeTurret s).straps = s.straps
      ∧ (judgeTurret s).table = s.table ∧ (judgeTurret s).arb = s.arb ∧ (judgeTurret s).poolFree = s.poolFree
      ∧ (judgeTurret s).engine = s.engine ∧ (judgeTurret s).desk = s.desk ∧ (judgeTurret s).store = s.store
      ∧ (judgeTurret s).cal = s.cal ∧ (judgeTurret s).inputs = s.inputs ∧ (judgeTurret s).lamps = s.lamps
      ∧ (judgeTurret s).pins = s.pins ∧ (judgeTurret s).pending = s.pending := by
  and_intros
  all_goals unfold judgeTurret; (try dsimp only); repeat' split
  all_goals simp [*]

@[simp] theorem stopStarvation_frame (s : State) :
    (stopStarvation s).portA = s.portA ∧ (stopStarvation s).portB = s.portB ∧ (stopStarvation s).straps = s.straps
      ∧ (stopStarvation s).table = s.table ∧ (stopStarvation s).arb = s.arb
      ∧ (stopStarvation s).poolFree = s.poolFree ∧ (stopStarvation s).force = s.force
      ∧ (stopStarvation s).cap = s.cap ∧ (stopStarvation s).engine = s.engine ∧ (stopStarvation s).desk = s.desk
      ∧ (stopStarvation s).store = s.store ∧ (stopStarvation s).cal = s.cal ∧ (stopStarvation s).inputs = s.inputs
      ∧ (stopStarvation s).lamps = s.lamps ∧ (stopStarvation s).pins = s.pins
      ∧ (stopStarvation s).pending = s.pending := by
  simp [stopStarvation]

@[simp] theorem pauseWaiting_frame (s : State) :
    (pauseWaiting s).portA = s.portA ∧ (pauseWaiting s).portB = s.portB ∧ (pauseWaiting s).straps = s.straps
      ∧ (pauseWaiting s).table = s.table ∧ (pauseWaiting s).arb = s.arb ∧ (pauseWaiting s).poolFree = s.poolFree
      ∧ (pauseWaiting s).cap = s.cap ∧ (pauseWaiting s).engine = s.engine ∧ (pauseWaiting s).desk = s.desk
      ∧ (pauseWaiting s).store = s.store ∧ (pauseWaiting s).cal = s.cal ∧ (pauseWaiting s).inputs = s.inputs
      ∧ (pauseWaiting s).lamps = s.lamps ∧ (pauseWaiting s).pins = s.pins ∧ (pauseWaiting s).pending = s.pending := by
  simp [pauseWaiting]

@[simp] theorem holdOwner_frame (o : Order) (e : Holds → Holds) (f : PendingHolds → PendingHolds) (s : State) :
    (holdOwner o e f s).portA = s.portA ∧ (holdOwner o e f s).portB = s.portB
      ∧ (holdOwner o e f s).straps = s.straps ∧ (holdOwner o e f s).arb = s.arb
      ∧ (holdOwner o e f s).poolFree = s.poolFree ∧ (holdOwner o e f s).cap = s.cap
      ∧ (holdOwner o e f s).engine = s.engine ∧ (holdOwner o e f s).desk = s.desk
      ∧ (holdOwner o e f s).store = s.store ∧ (holdOwner o e f s).cal = s.cal
      ∧ (holdOwner o e f s).inputs = s.inputs ∧ (holdOwner o e f s).lamps = s.lamps
      ∧ (holdOwner o e f s).pins = s.pins ∧ (holdOwner o e f s).pending = s.pending := by
  and_intros
  all_goals unfold holdOwner; (try dsimp only); repeat' split
  all_goals simp [*]

@[simp] theorem holdAllEffect_frame (s : State) :
    (holdAllEffect s).portA = s.portA ∧ (holdAllEffect s).portB = s.portB ∧ (holdAllEffect s).straps = s.straps
      ∧ (holdAllEffect s).poolFree = s.poolFree ∧ (holdAllEffect s).cap = s.cap
      ∧ (holdAllEffect s).engine = s.engine ∧ (holdAllEffect s).desk = s.desk ∧ (holdAllEffect s).store = s.store
      ∧ (holdAllEffect s).cal = s.cal ∧ (holdAllEffect s).inputs = s.inputs ∧ (holdAllEffect s).lamps = s.lamps
      ∧ (holdAllEffect s).pins = s.pins ∧ (holdAllEffect s).pending = s.pending := by
  and_intros
  all_goals unfold holdAllEffect; (try dsimp only); repeat' split
  all_goals simp [*]

@[simp] theorem resumeAllEffect_frame (s : State) :
    (resumeAllEffect s).straps = s.straps ∧ (resumeAllEffect s).cap = s.cap ∧ (resumeAllEffect s).engine = s.engine
      ∧ (resumeAllEffect s).cal = s.cal ∧ (resumeAllEffect s).inputs = s.inputs
      ∧ (resumeAllEffect s).lamps = s.lamps ∧ (resumeAllEffect s).pending = s.pending := by
  and_intros
  all_goals unfold resumeAllEffect; (try dsimp only); repeat' split
  all_goals simp [*]

@[simp] theorem setLock_frame (holder : Option Port) (s : State) :
    (setLock holder s).straps = s.straps ∧ (setLock holder s).cap = s.cap ∧ (setLock holder s).engine = s.engine
      ∧ (setLock holder s).desk = s.desk ∧ (setLock holder s).cal = s.cal ∧ (setLock holder s).inputs = s.inputs
      ∧ (setLock holder s).lamps = s.lamps ∧ (setLock holder s).pending = s.pending := by
  simp [setLock]

@[simp] theorem afterClose_frame (s : State) :
    (afterClose s).straps = s.straps ∧ (afterClose s).cap = s.cap ∧ (afterClose s).engine = s.engine
      ∧ (afterClose s).desk = s.desk ∧ (afterClose s).cal = s.cal ∧ (afterClose s).inputs = s.inputs
      ∧ (afterClose s).lamps = s.lamps ∧ (afterClose s).pending = s.pending := by
  and_intros
  all_goals unfold afterClose; (try dsimp only); repeat' split
  all_goals simp [*]

end Sys2Proof.Machine
end

