-- ==== Sys2Proof/Laws/Ops.lean ====
section
/-!
SUPPORT. What the shared operations do, said once each: how a request is answered, how a notice joins a queue, what a write does to the
store, what entering a sequencer state sets, when the head is at rest, how an invariant passes over the boundary's passes, which order
a choice falls on, and what the byte fields of a frame hold.
-/

namespace Sys2Proof.Machine

/-! ## States block by block -/

/-- Two states that agree in every block are equal. -/
theorem State.eq_of_blocks {a b : State} (h1 : a.portA = b.portA) (h2 : a.portB = b.portB) (h3 : a.straps = b.straps)
    (h4 : a.table = b.table) (h5 : a.arb = b.arb) (h6 : a.poolFree = b.poolFree) (h7 : a.seq = b.seq)
    (h8 : a.force = b.force) (h9 : a.cap = b.cap) (h10 : a.engine = b.engine) (h11 : a.desk = b.desk)
    (h12 : a.store = b.store) (h13 : a.cal = b.cal) (h14 : a.inputs = b.inputs) (h15 : a.lamps = b.lamps)
    (h16 : a.pins = b.pins) (h17 : a.pending = b.pending) : a = b := by
  cases a; cases b; simp_all

/-! ## Answering a request (R157, R184) -/

/-- Once the load has completed a request is answered as its owner decides. -/
theorem serve_loaded {cmd : Instr} {src : Source} {d : State → Answer} {s : State} (h : s.cal.loaded = true) :
    serve cmd src d s = answered cmd src (d s).status (d s).body (d s).state := by
  unfold serve answered
  simp only [h, sendResponse, doneHandling, responseFrame, responseAddress]
  obtain ⟨p, a⟩ := src
  cases p <;> simp [State.modPort, bytesOf]
  all_goals repeat' (first | split | rfl | simp_all)

/-- Before the load has completed every request but READ STATE is answered NOT_READY. -/
theorem serve_notLoaded {cmd : Instr} {src : Source} {d : State → Answer} {s : State} (h : s.cal.loaded = false)
    (hk : (kindOf cmd).getD 0 ≠ 1) : serve cmd src d s = answered cmd src .notReady [] s := by
  unfold serve answered
  simp only [h, sendResponse, doneHandling, responseFrame, responseAddress, Answer.refuse]
  obtain ⟨p, a⟩ := src
  cases p <;> simp [State.modPort, bytesOf, hk]
  all_goals repeat' (first | split | rfl | simp_all)

/-- READ STATE is answered at any time. -/
theorem serve_readState {src : Source} {d : State → Answer} {s : State} :
    serve (.readState src) src d s = answered (.readState src) src (d s).status (d s).body (d s).state := by
  unfold serve answered
  simp only [sendResponse, doneHandling, responseFrame, responseAddress, kindOf]
  obtain ⟨p, a⟩ := src
  cases p <;> simp [State.modPort, bytesOf]
  all_goals repeat' (first | split | rfl | simp_all)

/-- Answering touches nothing but the asking port: every other block is what the owner left, or as it was where the request was
answered NOT_READY. -/
theorem serve_rest (cmd : Instr) (src : Source) (d : State → Answer) (s : State) :
    let t := if s.cal.loaded = false ∧ (kindOf cmd).getD 0 ≠ 1 then s else (d s).state
    (serve cmd src d s).straps = t.straps ∧ (serve cmd src d s).table = t.table ∧ (serve cmd src d s).arb = t.arb
      ∧ (serve cmd src d s).poolFree = t.poolFree ∧ (serve cmd src d s).seq = t.seq
      ∧ (serve cmd src d s).force = t.force ∧ (serve cmd src d s).cap = t.cap
      ∧ (serve cmd src d s).engine = t.engine ∧ (serve cmd src d s).desk = t.desk
      ∧ (serve cmd src d s).store = t.store ∧ (serve cmd src d s).cal = t.cal
      ∧ (serve cmd src d s).inputs = t.inputs ∧ (serve cmd src d s).lamps = t.lamps
      ∧ (serve cmd src d s).pins = t.pins ∧ (serve cmd src d s).pending = t.pending
      ∧ (serve cmd src d s).port src.port.other = t.port src.port.other := by
  simp only [serve, Answer.refuse]
  obtain ⟨p, a⟩ := src
  split <;> cases p <;> simp [Port.other, sendResponse, doneHandling, State.modPort, State.port]

/-- What `answered` leaves: every block but the asking port is as in the state it is given. -/
@[simp] theorem answered_frame (cmd : Instr) (src : Source) (st : Status) (body : List Byte) (s : State) :
    (answered cmd src st body s).straps = s.straps ∧ (answered cmd src st body s).table = s.table
      ∧ (answered cmd src st body s).arb = s.arb ∧ (answered cmd src st body s).poolFree = s.poolFree
      ∧ (answered cmd src st body s).seq = s.seq ∧ (answered cmd src st body s).force = s.force
      ∧ (answered cmd src st body s).cap = s.cap ∧ (answered cmd src st body s).engine = s.engine
      ∧ (answered cmd src st body s).desk = s.desk ∧ (answered cmd src st body s).store = s.store
      ∧ (answered cmd src st body s).cal = s.cal ∧ (answered cmd src st body s).inputs = s.inputs
      ∧ (answered cmd src st body s).lamps = s.lamps ∧ (answered cmd src st body s).pins = s.pins
      ∧ (answered cmd src st body s).pending = s.pending
      ∧ (answered cmd src st body s).port src.port.other = s.port src.port.other := by
  obtain ⟨p, a⟩ := src
  cases p <;> simp [answered, State.modPort, State.port, Port.other]

/-! ## Notices (R189, R190) -/

/-- A notice joins a queue that has room and asserts the attention line. -/
theorem LinkPort.post_room {q : LinkPort} {n : Notice} (h : q.notices.length < 32) :
    q.post n = { q with notices := q.notices ++ [n], attention := true } := if_pos h

/-- A notice to a full queue is counted lost. -/
theorem LinkPort.post_full {q : LinkPort} {n : Notice} (h : ¬q.notices.length < 32) :
    q.post n = { q with lost := saturatingSucc q.lost } := if_neg h

/-- Posting changes the queue, its attention line and its lost count alone. -/
@[simp] theorem LinkPort.post_rest (q : LinkPort) (n : Notice) :
    (q.post n).rx = q.rx ∧ (q.post n).buffers = q.buffers ∧ (q.post n).handling = q.handling
      ∧ (q.post n).responses = q.responses ∧ (q.post n).options = q.options ∧ (q.post n).counters = q.counters
      ∧ (q.post n).inBreak = q.inBreak := by
  unfold LinkPort.post; split <;> simp

/-- Posting keeps R190. -/
theorem LinkPort.post_noticesOk {q : LinkPort} {n : Notice} (h : q.NoticesOk) : (q.post n).NoticesOk := by
  obtain ⟨h1, h2⟩ := h
  unfold LinkPort.NoticesOk LinkPort.post
  split
  · rename_i h3; simp; omega
  · exact ⟨h1, h2⟩

/-- A counter that stops at 65,535 stays within it. -/
theorem saturatingSucc_le {n : Nat} (h : n ≤ Config.counterMax) : saturatingSucc n ≤ Config.counterMax := by
  simp only [saturatingSucc, Config.counterMax] at *; split <;> omega

/-! ## Orders -/

/-- `updOrder` in terms of the list of orders. -/
@[simp] theorem updOrder_orders (id : Nat) (f : Order → Order) (s : State) :
    (updOrder id f s).table.orders = s.table.orders.map fun o => if o.id = id then f o else o := rfl

/-- The order found has the id asked for and is in the table. -/
theorem findOrder_some {id : Nat} {s : State} {o : Order} (h : findOrder id s = .some o) :
    o ∈ s.table.orders ∧ o.id = id :=
  ⟨List.mem_of_find?_eq_some h, by simpa using List.find?_some h⟩

/-- Where ids are distinct an order of the table is the one found under its id. -/
theorem findOrder_eq {s : State} {o : Order} (h : (s.table.orders.map (·.id)).Nodup) (ho : o ∈ s.table.orders) :
    findOrder o.id s = .some o := by
  unfold findOrder
  revert h ho
  generalize s.table.orders = l
  intro h ho
  induction l with
  | nil => simp at ho
  | cons a l ih =>
    simp only [List.map_cons, List.nodup_cons, List.mem_map, not_exists, not_and] at h
    rcases List.mem_cons.1 ho with rfl | hm
    · simp
    · have : a.id ≠ o.id := fun e => h.1 o hm e.symm
      simpa [List.find?_cons, this] using ih h.2 hm

/-- The owner found is in the table under the owner's id. -/
theorem ownerOf_some {s : State} {o : Order} (h : ownerOf s = .some o) :
    o ∈ s.table.orders ∧ s.arb.owner = .some o.id := by
  unfold ownerOf at h
  cases ha : s.arb.owner with
  | none => simp [ha] at h
  | some id =>
    obtain ⟨h1, h2⟩ := findOrder_some (by simpa [ha] using h)
    exact ⟨h1, by simp [h2]⟩

/-- Nothing is earliest in an empty list alone. -/
theorem earliest_none (l : List Order) : earliest l = .none ↔ l = [] := by
  cases l with
  | nil => simp [earliest]
  | cons a l => simp only [earliest]; cases earliest l <;> simp; split <;> simp

/-- The earliest order is in the list and no other has a lower rank. -/
theorem earliest_some {l : List Order} {o : Order} (h : earliest l = .some o) : o ∈ l ∧ ∀ p ∈ l, o.rank ≤ p.rank := by
  induction l generalizing o with
  | nil => simp [earliest] at h
  | cons a l ih =>
    simp only [earliest] at h
    cases he : earliest l with
    | none =>
      have : l = [] := (earliest_none l).1 he
      simp_all
    | some p =>
      obtain ⟨m, q⟩ := ih he
      simp only [he] at h
      split at h <;> simp only [Option.some.injEq] at h <;> subst h
      · refine ⟨by simp [m], fun x hx => ?_⟩
        rcases List.mem_cons.1 hx with rfl | hx
        · omega
        · exact q x hx
      · refine ⟨by simp, fun x hx => ?_⟩
        rcases List.mem_cons.1 hx with rfl | hx
        · omega
        · have := q x hx; omega

/-! ## Writing a record (R139, R140, R145) -/

/-- The store after RESULTS WAITING is posted differs in the armed flag alone. -/
@[simp] theorem postResultsWaiting_store (o : Order) (seq : Nat) (s : State) :
    (postResultsWaiting o seq s).store = s.store.setArmed o.origin false := by
  simp [postResultsWaiting]

/-- A port's waiting count rises by one and nothing else of the store but an armed flag changes. -/
theorem countWaiting_store (o : Order) (seq : Nat) (s : State) :
    (countWaiting o seq s).store.records = s.store.records ∧ (countWaiting o seq s).store.nextSeq = s.store.nextSeq
      ∧ (countWaiting o seq s).store.waitingA = (if o.origin = .A then s.store.waitingA + 1 else s.store.waitingA)
      ∧ (countWaiting o seq s).store.waitingB = (if o.origin = .B then s.store.waitingB + 1 else s.store.waitingB) := by
  unfold countWaiting
  dsimp only
  split <;> cases ho : o.origin <;>
    simp [ho, State.modStore, ResultStore.setArmed, ResultStore.setWaiting, ResultStore.waiting]

/-- A write puts the record, under the next sequence number, after every record held, and counts it for its order's port. -/
theorem writeRecord_store (o : Order) (r : Record) (s : State) :
    (writeRecord o r s).store.records = s.store.records ++ [{ r with seq := s.store.nextSeq }]
      ∧ (writeRecord o r s).store.nextSeq = s.store.nextSeq + 1
      ∧ (writeRecord o r s).store.waitingA = (if o.origin = .A then s.store.waitingA + 1 else s.store.waitingA)
      ∧ (writeRecord o r s).store.waitingB = (if o.origin = .B then s.store.waitingB + 1 else s.store.waitingB) := by
  have h := countWaiting_store o s.store.nextSeq (updOrder o.id (noteSeq s.store.nextSeq) (appendRecord r s))
  simp only [writeRecord]
  split <;> simpa [appendRecord, State.modStore] using h

/-- Recording the current point writes one record where there is a point, and nothing where there is none. -/
theorem recordCurrent_cases (o : Order) (st : RecState) (why : Reason) (s : State) :
    (s.seq.cur = .none ∧ recordCurrent o st why s = s)
      ∨ ∃ c, s.seq.cur = .some c ∧ recordCurrent o st why s = dropCurrent (writeRecord o (recordOf o c st why s) s) := by
  unfold recordCurrent
  cases s.seq.cur with
  | none => exact .inl ⟨rfl, rfl⟩
  | some c => exact .inr ⟨c, rfl, rfl⟩

/-- Recording the current point leaves the sequencer as it was but for the point. -/
@[simp] theorem recordCurrent_seq (o : Order) (st : RecState) (why : Reason) (s : State) :
    (recordCurrent o st why s).seq = { s.seq with cur := .none } := by
  unfold recordCurrent
  split
  · rename_i h; cases hs : s.seq; simp_all
  · simp [dropCurrent]

/-! ## Entering a sequencer state (R73) -/

/-- Entering a state sets the state, and the set-point to zero unless the state is RAMP or DWELL. -/
theorem enterState_eq (q : SeqState) (s : State) :
    enterState q s = { s with seq := { s.seq with state := q }
                              force := { s.force with setPoint := if q.forcing then s.force.setPoint else 0 } } := by
  cases q <;> rfl

/-! ## The force and the head at rest (R61, R62, R68, R158) -/

/-- The last force sample that a count gives: in mN where a gain is in use, in counts above tare where none is. -/
theorem sampleForce_gainInUse (count tare : Int) (s : State) :
    sampleForce count tare (gainInUse s)
      = if s.cal.loaded = false ∨ conditionOf 6 s = .loadFault then count - tare
        else roundAway ((count - tare) * s.cal.gain) 1000 := by
  unfold gainInUse
  split <;> rfl

/-- A retract or an interlock stop of an order's head is complete on the four conditions of R61. -/
theorem headAtRest_iff {o : Order} {s : State} (h : ownerOf s = .some o) :
    headAtRest s = true ↔ s.pins.actRaised = true ∧ s.force.lastForce < contactThreshold o.forceCode
      ∧ s.seq.stageOutstanding = false ∧ s.seq.turretOutstanding = false := by
  simp [headAtRest, liftedOff, h, and_assoc]

/-! ## The boundary (R47, R48) -/

/-- What one pass over the boundary steps keeps, the boundary keeps. -/
theorem boundary_keeps {P : State → Prop} (h : ∀ s, P s → P (boundaryStep s).1) (s : State) (hs : P s) : P (boundary s) := by
  unfold boundary
  generalize boundaryBound s = n
  induction n generalizing s with
  | zero => exact hs
  | succ n ih =>
    have h1 := h s hs
    unfold boundaryLoop
    split
    · rename_i s1 he; rw [he] at h1; exact ih s1 h1
    · rename_i s1 he; rw [he] at h1; exact h1

/-- What considering a grant and the boundary keep, a grant keeps. -/
theorem grant_keeps {P : State → Prop} (hb : ∀ s, P s → P (boundaryStep s).1) (hg : ∀ s, P s → P (considerGrant s).1)
    (s : State) (hs : P s) : P (grant s) := by
  unfold grant afterGrant
  split
  · exact boundary_keeps hb _ (hg s hs)
  · exact hg s hs

/-! ## Bytes (R194) -/

/-- The number of a run of bytes with one more. -/
theorem natOf_append1 (bs : List Byte) (b : Byte) : natOf (bs ++ [b]) = natOf bs * 256 + b.toNat := by simp [natOf]

/-- A number written in `w` bytes reads back modulo their range. -/
theorem natOf_bytesOf (w n : Nat) : natOf (bytesOf w n) = n % 256 ^ w := by
  induction w generalizing n with
  | zero => simp [bytesOf, natOf, Nat.mod_one]
  | succ w ih =>
    rw [bytesOf, natOf_append1, ih, BitVec.toNat_ofNat]
    have := Nat.mod_mul (a := 256) (b := 256 ^ w) (x := n)
    rw [show 256 ^ (w + 1) = 256 * 256 ^ w by ring, this]; omega

@[simp] theorem length_bytesOf (w n : Nat) : (bytesOf w n).length = w := by
  induction w generalizing n with
  | zero => rfl
  | succ w ih => simp [bytesOf, ih]

@[simp] theorem length_signedBytes (w : Nat) (v : Int) : (signedBytes w v).length = w := by simp [signedBytes]

/-- A signed number in range reads back from its bytes. -/
theorem signedOf_signedBytes (w : Nat) (v : Int) (h1 : -(256 ^ w : Nat) ≤ 2 * v) (h2 : 2 * v < (256 ^ w : Nat)) :
    signedOf (signedBytes w v) = v := by
  have hp : (0 : Int) < (256 ^ w : Nat) := by positivity
  have e : natOf (signedBytes w v) = (v % (256 ^ w : Nat)).toNat := by
    rw [signedBytes, natOf_bytesOf, Nat.mod_eq_of_lt]
    have := Int.emod_lt_of_pos v hp
    have := Int.emod_nonneg v hp.ne'
    omega
  rw [signedOf, e, length_signedBytes]
  have hm := Int.emod_nonneg v hp.ne'
  have hn : ((256 ^ w : Nat) : Int) = (256 : Int) ^ w := by push_cast; rfl
  rcases le_or_gt 0 v with h | h
  · rw [Int.emod_eq_of_lt h (by omega), if_pos (by omega)]; omega
  · have : v % (256 ^ w : Nat) = v + (256 ^ w : Nat) := by
      rw [← Int.add_emod_right, Int.emod_eq_of_lt (by omega) (by omega)]
    rw [this, if_neg (by omega)]; omega

/-- A number that fits its field reads back from it. -/
theorem natOf_bytes {w n : Nat} (h : fitsBytes w n = true) : natOf (bytesOf w n) = n := by
  rw [natOf_bytesOf, Nat.mod_eq_of_lt]; simpa [fitsBytes] using h

/-- A signed number that fits its field reads back from it. -/
theorem signedOf_bytes {w : Nat} {v : Int} (h : fitsSigned w v = true) : signedOf (signedBytes w v) = v := by
  simp only [fitsSigned, Bool.and_eq_true, decide_eq_true_eq] at h
  exact signedOf_signedBytes w v h.1 h.2

/-- A field of a run of bytes is the number of the bytes that stand there. -/
theorem field_eq {before mid after bs : List Byte} {i w : Nat} (h : bs = before ++ mid ++ after) (hi : before.length = i)
    (hw : mid.length = w) : field bs i w = natOf mid := by
  subst h hi hw; simp [field]

/-- The same of a signed field. -/
theorem signedField_eq {before mid after bs : List Byte} {i w : Nat} (h : bs = before ++ mid ++ after)
    (hi : before.length = i) (hw : mid.length = w) : signedField bs i w = signedOf mid := by
  subst h hi hw; simp [signedField]

end Sys2Proof.Machine
end

