-- ==== Sys2Proof/Laws/PerInstr.lean ====
section
/-!
SUPPORT. One lemma per constructor of `Instr` for the family PayloadLength: a well-formed request has a payload of the length that its
KIND requires, and every other command is no request.
-/

namespace Sys2Proof.Laws.PayloadLength
open Sys2Proof.Machine

/-- The command, where it is a well-formed request, is sent with a payload of the length its KIND requires (R184, R192). -/
def Statement (i : Instr) : Prop :=
  i.wf = true → ∀ k, kindOf i = .some k → isRequestKind k = true ∧ lengthRight k (payloadOf i) = true

/-- A payload of the fixed length of its kind has the right length. -/
theorem lengthRight_of {k n : Nat} {bs : List Byte} (h : fixedLength k = .some n) (hl : bs.length = n) :
    lengthRight k bs = true := by
  simp [lengthRight, h, hl]

/-- The length of a run of point entries. -/
theorem length_pointEntries (l : List PointEntry) : (l.flatMap pointEntryBytes).length = 16 * l.length := by
  induction l with
  | nil => rfl
  | cons a l ih => simp [ih, pointEntryBytes]; omega

theorem coldReset (pins : ResetPins) : Statement (.coldReset pins) := by
  intro _ k hk; simp [kindOf] at hk

theorem startupLoadComplete (unreadable : List Nat) : Statement (.startupLoadComplete unreadable) := by
  intro _ k hk; simp [kindOf] at hk

theorem commitComplete (readBack : ReadBack) : Statement (.commitComplete readBack) := by
  intro _ k hk; simp [kindOf] at hk

theorem frameReceived (p : Port) (chars : List LinkChar) : Statement (.frameReceived p chars) := by
  intro _ k hk; simp [kindOf] at hk

theorem receiveGap (p : Port) : Statement (.receiveGap p) := by
  intro _ k hk; simp [kindOf] at hk

theorem frameTaken (p : Port) : Statement (.frameTaken p) := by
  intro _ k hk; simp [kindOf] at hk

theorem responseSent (p : Port) : Statement (.responseSent p) := by
  intro _ k hk; simp [kindOf] at hk

theorem lineBreak (p : Port) : Statement (.lineBreak p) := by
  intro _ k hk; simp [kindOf] at hk

theorem portReset (p : Port) : Statement (.portReset p) := by
  intro _ k hk; simp [kindOf] at hk

theorem readState (src : Source) : Statement (.readState src) := by
  intro _ k hk
  simp only [kindOf, Option.some.injEq] at hk
  subst hk
  exact ⟨rfl, lengthRight_of (n := 0) (by decide +kernel) (by simp [payloadOf])⟩

theorem readNotices (src : Source) : Statement (.readNotices src) := by
  intro _ k hk
  simp only [kindOf, Option.some.injEq] at hk
  subst hk
  exact ⟨rfl, lengthRight_of (n := 0) (by decide +kernel) (by simp [payloadOf])⟩

theorem setLink (src : Source) (r : SetLinkReq) : Statement (.setLink src r) := by
  intro _ k hk
  simp only [kindOf, Option.some.injEq] at hk
  subst hk
  exact ⟨rfl, lengthRight_of (n := 5) (by decide +kernel) (by simp [payloadOf])⟩

theorem openOrder (src : Source) (r : OpenOrderReq) : Statement (.openOrder src r) := by
  intro _ k hk
  simp only [kindOf, Option.some.injEq] at hk
  subst hk
  exact ⟨rfl, lengthRight_of (n := 40) (by decide +kernel) (by simp [payloadOf, openOrderBytes])⟩

theorem addPoints (src : Source) (r : AddPointsReq) : Statement (.addPoints src r) := by
  intro h k hk
  simp only [kindOf, Option.some.injEq] at hk
  subst hk
  simp only [Instr.wf, AddPointsReq.wf, Bool.and_eq_true] at h
  refine ⟨rfl, ?_⟩
  have hf : field (payloadOf (.addPoints src r)) 2 1 = r.points.length := by
    have e : payloadOf (.addPoints src r)
        = bytesOf 2 r.orderId ++ bytesOf 1 r.points.length
          ++ (bytesOf 1 (flagCode r.last) ++ r.points.flatMap pointEntryBytes) := by
      simp [payloadOf]
    rw [field_eq e (by simp) (by simp), natOf_bytes h.2.1.2]
  have hl : (payloadOf (.addPoints src r)).length = 4 + 16 * r.points.length := by
    simp only [payloadOf, List.length_append, length_bytesOf, length_pointEntries]
  have h5 : fixedLength 5 = .none := by decide +kernel
  simp [lengthRight, h5, hf, hl]

theorem cancelOrder (src : Source) (id : Nat) : Statement (.cancelOrder src id) := by
  intro _ k hk
  simp only [kindOf, Option.some.injEq] at hk
  subst hk
  exact ⟨rfl, lengthRight_of (n := 2) (by decide +kernel) (by simp [payloadOf])⟩

theorem holdOrder (src : Source) (id : Nat) : Statement (.holdOrder src id) := by
  intro _ k hk
  simp only [kindOf, Option.some.injEq] at hk
  subst hk
  exact ⟨rfl, lengthRight_of (n := 2) (by decide +kernel) (by simp [payloadOf])⟩

theorem resumeOrder (src : Source) (id : Nat) : Statement (.resumeOrder src id) := by
  intro _ k hk
  simp only [kindOf, Option.some.injEq] at hk
  subst hk
  exact ⟨rfl, lengthRight_of (n := 2) (by decide +kernel) (by simp [payloadOf])⟩

theorem holdAll (src : Source) : Statement (.holdAll src) := by
  intro _ k hk
  simp only [kindOf, Option.some.injEq] at hk
  subst hk
  exact ⟨rfl, lengthRight_of (n := 0) (by decide +kernel) (by simp [payloadOf])⟩

theorem resumeAll (src : Source) : Statement (.resumeAll src) := by
  intro _ k hk
  simp only [kindOf, Option.some.injEq] at hk
  subst hk
  exact ⟨rfl, lengthRight_of (n := 0) (by decide +kernel) (by simp [payloadOf])⟩

theorem takeHead (src : Source) : Statement (.takeHead src) := by
  intro _ k hk
  simp only [kindOf, Option.some.injEq] at hk
  subst hk
  exact ⟨rfl, lengthRight_of (n := 0) (by decide +kernel) (by simp [payloadOf])⟩

theorem freeHead (src : Source) : Statement (.freeHead src) := by
  intro _ k hk
  simp only [kindOf, Option.some.injEq] at hk
  subst hk
  exact ⟨rfl, lengthRight_of (n := 0) (by decide +kernel) (by simp [payloadOf])⟩

theorem claimReview (src : Source) (seq : Nat) : Statement (.claimReview src seq) := by
  intro _ k hk
  simp only [kindOf, Option.some.injEq] at hk
  subst hk
  exact ⟨rfl, lengthRight_of (n := 4) (by decide +kernel) (by simp [payloadOf])⟩

theorem enterDiagonals (src : Source) (seq : Nat) (d1 : Nat) (d2 : Nat) : Statement (.enterDiagonals src seq d1 d2) := by
  intro _ k hk
  simp only [kindOf, Option.some.injEq] at hk
  subst hk
  exact ⟨rfl, lengthRight_of (n := 12) (by decide +kernel) (by simp [payloadOf])⟩

theorem rejectImpression (src : Source) (seq : Nat) : Statement (.rejectImpression src seq) := by
  intro _ k hk
  simp only [kindOf, Option.some.injEq] at hk
  subst hk
  exact ⟨rfl, lengthRight_of (n := 4) (by decide +kernel) (by simp [payloadOf])⟩

theorem readResults (src : Source) (first : Nat) (maxN : Nat) : Statement (.readResults src first maxN) := by
  intro _ k hk
  simp only [kindOf, Option.some.injEq] at hk
  subst hk
  exact ⟨rfl, lengthRight_of (n := 5) (by decide +kernel) (by simp [payloadOf])⟩

theorem releaseResults (src : Source) (through : Nat) : Statement (.releaseResults src through) := by
  intro _ k hk
  simp only [kindOf, Option.some.injEq] at hk
  subst hk
  exact ⟨rfl, lengthRight_of (n := 4) (by decide +kernel) (by simp [payloadOf])⟩

theorem readSummary (src : Source) (id : Nat) : Statement (.readSummary src id) := by
  intro _ k hk
  simp only [kindOf, Option.some.injEq] at hk
  subst hk
  exact ⟨rfl, lengthRight_of (n := 2) (by decide +kernel) (by simp [payloadOf])⟩

theorem readCalibration (src : Source) (rec : Nat) : Statement (.readCalibration src rec) := by
  intro _ k hk
  simp only [kindOf, Option.some.injEq] at hk
  subst hk
  exact ⟨rfl, lengthRight_of (n := 1) (by decide +kernel) (by simp [payloadOf])⟩

theorem writeCalibration (src : Source) (rec : Nat) (f : CalFields) : Statement (.writeCalibration src rec f) := by
  intro _ k hk
  simp only [kindOf, Option.some.injEq] at hk
  subst hk
  exact ⟨rfl, lengthRight_of (n := 22) (by decide +kernel) (by simp [payloadOf, calFieldsBytes])⟩

theorem setLamp (src : Source) (green : Nat) (amber : Nat) (red : Nat) : Statement (.setLamp src green amber red) := by
  intro _ k hk
  simp only [kindOf, Option.some.injEq] at hk
  subst hk
  exact ⟨rfl, lengthRight_of (n := 3) (by decide +kernel) (by simp [payloadOf])⟩

theorem setInputs (src : Source) (door : Nat) (estop : Nat) (station : Nat) : Statement (.setInputs src door estop station) := by
  intro _ k hk
  simp only [kindOf, Option.some.injEq] at hk
  subst hk
  exact ⟨rfl, lengthRight_of (n := 3) (by decide +kernel) (by simp [payloadOf])⟩

theorem inputChange (c : LineChange) : Statement (.inputChange c) := by
  intro _ k hk; simp [kindOf] at hk

theorem stabilityTimerExpiry (i : InputName) : Statement (.stabilityTimerExpiry i) := by
  intro _ k hk; simp [kindOf] at hk

theorem stgDone : Statement (.stgDone) := by
  intro _ k hk; simp [kindOf] at hk

theorem stgFault : Statement (.stgFault) := by
  intro _ k hk; simp [kindOf] at hk

theorem turDone : Statement (.turDone) := by
  intro _ k hk; simp [kindOf] at hk

theorem stageTimerExpiry : Statement (.stageTimerExpiry) := by
  intro _ k hk; simp [kindOf] at hk

theorem turretTimerExpiry : Statement (.turretTimerExpiry) := by
  intro _ k hk; simp [kindOf] at hk

theorem loadSample (count : Int) : Statement (.loadSample count) := by
  intro _ k hk; simp [kindOf] at hk

theorem actRaised (level : Bool) : Statement (.actRaised level) := by
  intro _ k hk; simp [kindOf] at hk

theorem approachTimerExpiry : Statement (.approachTimerExpiry) := by
  intro _ k hk; simp [kindOf] at hk

theorem unloadTimerExpiry : Statement (.unloadTimerExpiry) := by
  intro _ k hk; simp [kindOf] at hk

theorem retractTimerExpiry : Statement (.retractTimerExpiry) := by
  intro _ k hk; simp [kindOf] at hk

theorem starvationTimerExpiry : Statement (.starvationTimerExpiry) := by
  intro _ k hk; simp [kindOf] at hk

theorem frameStart : Statement (.frameStart) := by
  intro _ k hk; simp [kindOf] at hk

theorem frameCompletion : Statement (.frameCompletion) := by
  intro _ k hk; simp [kindOf] at hk

theorem scoreReady : Statement (.scoreReady) := by
  intro _ k hk; simp [kindOf] at hk

theorem frameTimerExpiry : Statement (.frameTimerExpiry) := by
  intro _ k hk; simp [kindOf] at hk

theorem measurementReport : Statement (.measurementReport) := by
  intro _ k hk; simp [kindOf] at hk

theorem windowTimerExpiry : Statement (.windowTimerExpiry) := by
  intro _ k hk; simp [kindOf] at hk

theorem lampTimebaseTick : Statement (.lampTimebaseTick) := by
  intro _ k hk; simp [kindOf] at hk

theorem lineMarker (rise : Bool) : Statement (.lineMarker rise) := by
  intro _ k hk; simp [kindOf] at hk

theorem pixelTaken (value : Nat) : Statement (.pixelTaken value) := by
  intro _ k hk; simp [kindOf] at hk

end Sys2Proof.Laws.PayloadLength
end

