-- ==== Sys2Proof/Tests/Slice0.lean ====
section
/-!
SUPPORT. The model's own tests: ill-formed commands that WellFormed refuses, the spec's worked examples, small steps of the commands, and
for every statement with hypotheses a witness, a concrete state and operands that meet them, one for each clause.
-/

namespace Sys2Proof.Tests
set_option Elab.async false
open Sys2Proof.Machine

/-! ## Helpers -/

/-- The state a command answers; the state itself where it does not go on. -/
def after (c : Instr) (s : State) : State :=
  match exec c s with
  | .next t => t
  | .fault _ => s
  | .refused _ => s

/-- The command answers a next state. -/
def goes (c : Instr) (s : State) : Bool :=
  match exec c s with
  | .next _ => true
  | .fault _ => false
  | .refused _ => false

/-- A step is taken. -/
def steps (s : State) : Bool :=
  match step s with
  | .next _ => true
  | .fault _ => false
  | .refused _ => false

def srcA : Source := ⟨.A, 3⟩
def srcB : Source := ⟨.B, 1⟩

/-- A request for a PATTERN order of method VICKERS at force code 8 (19,613 mN) with every parameter at its default. -/
def req : OpenOrderReq :=
  { kind := 1, method := 0, forceCode := 8, indenter := 0, objective := 2, mode := 0, dwell := 0, ramp := 0, window := 0
    starvation := 0, lowWater := 0, threshold := 0, lower := 0, upper := 0, caseLimit := 0, rh := 0, rv := 0, offCentre := 0
    bandW := 0, contrast := 0, asymmetry := 0, frameLimit := 0, defaults := 0x1FFF }

def vickersStation : Station := { kind := .vickersIndenter, x := 10, y := 20, objective := .none }
def lens : Station := { kind := .objective, x := 100, y := 200, objective := .some ⟨20000, 0, 5⟩ }

/-- The part with the load complete, stations 0 and 2 fitted, the door closed, the e-stop clear and the indenter raised. -/
def idle : State :=
  { State.reset with
    cal := { State.reset.cal with
      loaded := true, stations := [vickersStation, Station.substitute, lens, Station.substitute, Station.substitute, Station.substitute] }
    inputs := { door := ⟨.some .isClosed, .none, .none, 16⟩, estop := ⟨.some .clear, .none, .none, 4⟩
                station := ⟨.some 0, .none, .none, 4⟩ }
    pins := { State.reset.pins with actRaised := true } }

def pt (tag : Nat) : Point := { tag := tag, x := 1000, y := 2000, depth := .none }

/-- An OPEN order of port A with these points. -/
def order (points : List Point) : Order := { newOrder srcA req 1 1 with points := points }

/-- The part with these orders, the pool reduced by their points. -/
def holding (l : List Order) (s : State) : State :=
  { s with table := { nextId := 9, orders := l }, poolFree := 512 - (l.map (·.points.length)).sum }

/-- The part with order 1 holding the head and the sequencer in a state, with a current point or none. -/
def working (st : SeqState) (cur : Option CurPoint) (o : Order) : State :=
  let s := holding [o] idle
  { s with arb := { s.arb with owner := .some 1 }, seq := { s.seq with state := st, cur := cur } }

def running (points : List Point) : Order := { order points with status := .running }
def held (points : List Point) : Order := { order points with status := .held, holds := ⟨true, false, false⟩ }
def cp : CurPoint := CurPoint.ofPoint (pt 7)
def contacted : CurPoint := { cp with indented := true }

/-- A deferred order, and impressions in the list, the first unmarked or marked. -/
def deferred : Order := { running [pt 8] with mode := .deferred }
def listing (m : Option Mark) : State :=
  let s := working .unload .none deferred
  { s with seq := { s.seq with impressions := [{ Impression.ofPoint contacted with mark := m }], round := .measure } }

/-- A move with its stage and turret outstanding, and either part done. -/
def moving (st : SeqState) (stageOut turretOut stagePart turretPart : Bool) : State :=
  let s := working st (.some cp) (running [pt 8])
  { s with seq := { s.seq with stageOutstanding := stageOut, turretOutstanding := turretOut
                               stagePart := stagePart, turretPart := turretPart
                               timers := { s.seq.timers with stage := .some 10000, turret := .some 5000 } } }

/-! ## WellFormed refuses an ill-formed term of each check -/

theorem test_wf_refuses_source : (Instr.readState ⟨.A, 256⟩).wf = false := by decide +kernel

theorem test_wf_refuses_pins :
    [ResetPins.mk 4 0 true true 0, ⟨0, 32, true, true, 0⟩, ⟨0, 0, true, true, 8⟩].all
      (fun p => !(Instr.coldReset p).wf) = true := by decide +kernel

theorem test_wf_refuses_load_and_slot :
    (Instr.startupLoadComplete [7] :: ([NvSlot.mk ⟨256, 0, 0, 0, 0, 0, 0⟩ 0, ⟨⟨0, 2147483648, 0, 0, 0, 0, 0⟩, 0⟩,
      ⟨⟨0, 0, -2147483649, 0, 0, 0, 0⟩, 0⟩, ⟨⟨0, 0, 0, 4294967296, 0, 0, 0⟩, 0⟩, ⟨⟨0, 0, 0, 0, 32768, 0, 0⟩, 0⟩,
      ⟨⟨0, 0, 0, 0, 0, 4294967296, 0⟩, 0⟩, ⟨⟨0, 0, 0, 0, 0, 0, 65536⟩, 0⟩, ⟨CalFields.zero, 65536⟩].map
      fun n => .commitComplete (.differs n))).all (fun i => !i.wf) = true := by decide +kernel

theorem test_wf_refuses_setLink :
    [SetLinkReq.mk 256 0 0 0 0, ⟨0, 256, 0, 0, 0⟩, ⟨0, 0, 256, 0, 0⟩, ⟨0, 0, 0, 256, 0⟩, ⟨0, 0, 0, 0, 256⟩].all
      (fun r => !(Instr.setLink srcA r).wf) = true := by decide +kernel

theorem test_wf_refuses_openOrder :
    [{ req with kind := 256 }, { req with method := 256 }, { req with forceCode := 256 }, { req with indenter := 256 },
     { req with objective := 256 }, { req with mode := 256 }, { req with dwell := 65536 }, { req with ramp := 65536 },
     { req with window := 65536 }, { req with starvation := 256 }, { req with lowWater := 256 },
     { req with threshold := 65536 }, { req with lower := 4294967296 }, { req with upper := 4294967296 },
     { req with caseLimit := 4294967296 }, { req with rh := 65536 }, { req with rv := 65536 },
     { req with offCentre := 65536 }, { req with bandW := 256 }, { req with contrast := 256 },
     { req with asymmetry := 256 }, { req with frameLimit := 256 }, { req with defaults := 65536 }].all
      (fun r => !(Instr.openOrder srcA r).wf) = true := by decide +kernel

theorem test_wf_refuses_addPoints :
    [AddPointsReq.mk 65536 true [], ⟨1, true, List.replicate 256 ⟨0, 0, 0, 0⟩⟩, ⟨1, true, [⟨65536, 0, 0, 0⟩]⟩,
     ⟨1, true, [⟨0, 2147483648, 0, 0⟩]⟩, ⟨1, true, [⟨0, 0, -2147483649, 0⟩]⟩, ⟨1, true, [⟨0, 0, 0, 4294967296⟩]⟩].all
      (fun r => !(Instr.addPoints srcA r).wf) = true := by decide +kernel

theorem test_wf_refuses_other_requests :
    [Instr.cancelOrder srcA 65536, .holdOrder srcA 65536, .resumeOrder srcA 65536, .claimReview srcA 4294967296,
     .enterDiagonals srcA 4294967296 1 1, .enterDiagonals srcA 1 4294967296 1, .enterDiagonals srcA 1 1 4294967296,
     .rejectImpression srcA 4294967296, .readResults srcA 4294967296 0, .readResults srcA 0 256,
     .releaseResults srcA 4294967296, .readSummary srcA 65536, .readCalibration srcA 256,
     .writeCalibration srcA 256 CalFields.zero, .setLamp srcA 256 0 0, .setLamp srcA 0 256 0, .setLamp srcA 0 0 256,
     .setInputs srcA 256 0 0, .setInputs srcA 0 256 0, .setInputs srcA 0 0 256].all (fun i => !i.wf) = true := by
  decide +kernel

theorem test_wf_refuses_events :
    [Instr.inputChange (.station 8), .loadSample 8388608, .loadSample (-8388609), .pixelTaken 1024].all
      (fun i => !i.wf) = true := by decide +kernel

/-! ## Worked examples of the spec -/

/-- The check of the nine digits (11.8): 0x29B1. -/
theorem test_crc_of_the_nine_digits :
    crc16 [0x31#8, 0x32#8, 0x33#8, 0x34#8, 0x35#8, 0x36#8, 0x37#8, 0x38#8, 0x39#8] = 0x29B1#16 := by decide +kernel

/-- The horizontal and vertical profiles of 6.6, at the samples that the working names. -/
def profileH : List Nat :=
  [List.replicate 520 48000, [30100, 26100], List.replicate 116 20000, [9000], List.replicate 120 20000, [25500, 29500],
   List.replicate 519 48000].flatten
def profileV : List Nat :=
  [List.replicate 391 46000, [29000, 24000], List.replicate 121 20000, [10000], List.replicate 117 20000, [25600, 30100],
   List.replicate 390 46000].flatten

def engine66 : EngineInputs :=
  { bandW := 32, rh := 400, rv := 320, contrast := 40, asymmetry := 50, offCentre := 100, method := .vickers, forceCode := 7
    lower := .none, upper := .none, nominal := 9807, scale := 175000, diagOffset := 85, generation := 3 }

/-- The measurement of 6.6, VICKERS at HV1. -/
theorem test_measurement_of_the_vickers_example :
    (measureReport ⟨engine66, EngineWork.start⟩ profileH profileV).toOption.map
        (fun m => (m.d1, m.d2, m.hardness, m.dx, m.dy, m.verdict))
      = .some (41976, 42326, 10437, 11, -22, .none) := by decide +kernel

/-- So the pair of profiles measures. -/
theorem profiles_measure : ∃ x, measureReport ⟨engine66, EngineWork.start⟩ profileH profileV = .ok x := by
  have h := test_measurement_of_the_vickers_example
  cases hm : measureReport ⟨engine66, EngineWork.start⟩ profileH profileV with
  | error e => rw [hm] at h; simp [Except.toOption] at h
  | ok x => exact ⟨x, rfl⟩

/-- A measurement that reports an impression measured the horizontal profile first. -/
theorem horizontal_of_report {m : Measurement} {H V : List Nat} {x : Measured} (h : measureReport m H V = .ok x) :
    ∃ w1, measureProfile m.inputs .horizontal H m.work = .ok w1 := by
  unfold measureReport at h
  split at h
  · cases h
  · exact ⟨_, ‹_›⟩

/-- And the vertical one after it. -/
theorem vertical_of_report {m : Measurement} {H V : List Nat} {x : Measured} (h : measureReport m H V = .ok x) :
    ∃ w1 w2, measureProfile m.inputs .vertical V w1 = .ok w2 := by
  unfold measureReport at h
  split at h
  · cases h
  · split at h
    · cases h
    · exact ⟨_, _, ‹_›⟩

theorem vertical_measures : ∃ w1 w2, measureProfile engine66 .vertical profileV w1 = .ok w2 := by
  obtain ⟨x, h⟩ := profiles_measure
  exact vertical_of_report (m := ⟨engine66, EngineWork.start⟩) h

theorem horizontal_measures : ∃ w1, measureProfile engine66 .horizontal profileH EngineWork.start = .ok w1 := by
  obtain ⟨x, h⟩ := profiles_measure
  exact horizontal_of_report (m := ⟨engine66, EngineWork.start⟩) h

/-- The verdicts of 6.6 with limits 10,000 and 10,400, and 10,000 and 10,437. -/
theorem test_verdicts_of_the_vickers_example :
    (evaluatePair .vickers 9807 50 (.some 10000) (.some 10400) 41976 42326).verdict = .high
      ∧ (evaluatePair .vickers 9807 50 (.some 10000) (.some 10437) 41976 42326).verdict = .inBand := by decide +kernel

/-- The pair of 6.7, KNOOP at HK0.1, and the entered pair of 7.8. -/
theorem test_pairs_of_the_knoop_and_entry_examples :
    evaluatePair .knoop 981 50 (.some 1450) .none 100087 14151 = ⟨1421, .low, false, false, false⟩
      ∧ (evaluatePair .vickers 9807 50 .none .none 41800 42200).hardness = 10513 := by decide +kernel

/-- The search of 6.7 with a half-width of 250 ends EDGE_LOST: the edge lies outside the region. -/
theorem test_edge_lost_outside_the_region :
    (match measureReport ⟨{ engine66 with rh := 100 }, EngineWork.start⟩ profileH profileV with
      | .error why => why
      | .ok _ => .none) = .edgeLost := by decide +kernel

/-- The ramp of 4.8: force code 7 with 5,000 samples. -/
theorem test_set_points_of_the_ramp_example :
    [1, 2500, 4999, 5000].map (rampSetPoint 7 5000) = [197, 5001, 9805, 9807]
      ∧ [53, 54].map (rampSetPoint 0 5000) = [5, 6] := by decide +kernel

/-- The sixteen counts of 4.8 leave the tare at 1,204; the first of them, under the old tare of 1,198, reads 10 mN. -/
theorem test_tare_of_the_force_example :
    let counts : List Int :=
      [1203, 1205, 1204, 1204, 1206, 1203, 1204, 1205, 1204, 1203, 1204, 1205, 1204, 1204, 1203, 1204]
    counts.sum = 19265 ∧ counts.sum / 16 = 1204 ∧ sampleForce 1203 1198 (.some 1960) = 10
      ∧ [1200, 1210, 1303, 1304].map (sampleForce · 1204 (.some 1960)) = [-8, 12, 194, 196] := by decide +kernel

/-- The spacing check of 2.11, with a reference diagonal of 42,151 nm. -/
theorem test_spacing_example :
    let o := { order [] with refDiagonal := .some 42151, lastIndent := .some (1000000, 0) }
    spacingPasses o { pt 1 with x := 1100000, y := 0 } = false ∧ spacingPasses o { pt 1 with x := 1106000, y := 0 } = true := by
  decide +kernel

/-- A final measured record of a depth and a hardness. -/
def measured (st : RecState) (z h : Nat) (v : Verdict) : Record :=
  { recordOf (order []) { cp with depth := .some z } st .none idle with
    d1 := .some 40000, d2 := .some 40000, hardness := .some h, verdict := v }

/-- The traverse of 8.12: counts, sums, case depth and mean. -/
theorem test_case_depth_of_the_traverse_example :
    let o := [measured .auto 100000 6820 .inBand, measured .auto 300000 6510 .inBand,
        recordOf (order []) { cp with depth := .some 400000 } .unmeasured .reviewExpired idle,
        measured .auto 500000 6030 .inBand, measured .manual 700000 5710 .inBand, measured .auto 900000 5380 .inBand,
        measured .auto 1100000 4900 .low, measured .auto 1300000 5560 .inBand].foldl
      (fun o r => reportRecord r o) { order [] with caseLimit := .some 5500, caseStatus := .pending }
    let m := summaryOf o .completed .none
    (m.counts.auto, m.counts.manual, m.counts.unmeasured, m.counts.inBand, m.counts.low) = (6, 1, 1, 6, 1)
      ∧ (m.minHardness, m.maxHardness, m.mean) = (.some 4900, .some 6820, .some 5844)
      ∧ (m.caseStatus, m.caseValue) = (.found, .some 827272) := by decide +kernel

/-- The search of 5.10: frame e's 1,860 leaves bank 1 BEST, and frame g's 2,455 takes its place. -/
theorem test_scores_of_the_focus_example :
    let bank (sum : Nat) : Bank :=
      { Bank.reset with role := .filling, closed := true, hProfile := List.replicate 240 0 ++ [0, sum] ++ List.replicate 1038 sum }
    let unit (sum : Nat) : CaptureUnit :=
      { CaptureUnit.reset with bank0 := bank sum, bank1 := { Bank.reset with role := .best, score := .some 1870 }
                               scoring := [.zero] }
    let v : ViewParams := { bandW := 32, rh := 400, frameLimit := 6, threshold := 2400 }
    ((unit 59520).enterScore .zero v).bank0.role = .free ∧ ((unit 59520).enterScore .zero v).bank1.role = .best
      ∧ ((unit 78560).enterScore .zero v).bank0.score = .some 2455
      ∧ ((unit 78560).enterScore .zero v).bank1.role = .free := by decide +kernel

/-- The batches of 2.10: the depth order, the travel, the accepted batch and the port that is not the owner. -/
theorem test_batches_of_the_traverse_example :
    let stations : List Station :=
      [{ vickersStation with x := -1500000, y := 0 }, Station.substitute, { lens with x := 1200000, y := 40000 }]
    let o := { order [] with kind := .traverse, origin := .B, lastDepth := .some 500000, status := .opened }
    let s : State :=
      { idle with table := ⟨2, [o]⟩, poolFree := 300, cal := { idle.cal with stations := stations }
                  arb := { idle.arb with deviceHold := true } }
    let ask (src : Source) (l : List (Int × Int × Nat)) : State :=
      after (.addPoints src ⟨1, false, l.map fun e => ⟨0, e.1, e.2.1, e.2.2⟩⟩) s
    let status (p : Port) (t : State) : List Byte := (t.port p).responses.flatMap (·.payload.take 1)
    status .B (ask srcB [(1000000, 0, 600000), (1000000, 50000, 600000)]) = [0x1E#8]
      ∧ status .B (ask srcB [(1000000, 0, 450000)]) = [0x1E#8]
      ∧ status .B (ask srcB [(48900000, 0, 600000), (48900000, 0, 700000)]) = [0x1F#8]
      ∧ status .B (ask srcB [(1000000, 0, 600000), (1000000, 0, 700000)]) = [0#8]
      ∧ (ask srcB [(1000000, 0, 600000), (1000000, 0, 700000)]).poolFree = 298
      ∧ status .A (ask srcA [(1000000, 0, 800000)]) = [0x14#8] := by decide +kernel

/-- Reading and releasing with two ports, 8.11: port B's release through 400 leaves its record in REVIEW and port A's alone. -/
theorem test_release_of_the_two_port_example :
    let r (n : Nat) (p : Port) (st : RecState) : Record :=
      { recordOf (order []) cp st .none idle with seq := n, origin := p }
    let s : State := { idle with store :=
      { records := [r 298 .A .auto, r 299 .A .auto, r 300 .A .auto, r 301 .B .auto, r 302 .B .auto, r 303 .B .auto,
                    r 304 .B .auto, r 305 .B .review]
        nextSeq := 306, waitingA := 3, waitingB := 5, armedA := false, armedB := false } }
    let t := after (.releaseResults srcB 400) s
    t.store.records.map (·.seq) = [298, 299, 300, 305] ∧ (t.store.waitingA, t.store.waitingB) = (3, 1)
      ∧ (t.store.armedA, t.store.armedB) = (false, true)
      ∧ t.portB.responses.map (·.payload) = [[0#8, 0#8, 4#8, 0#8, 1#8, 0#8, 4#8]]
      ∧ (after (.readResults srcA 0 0) s).portA.responses.map (·.payload.take 7)
          = [[0#8, 4#8, 0#8, 0#8, 1#8, 0x2E#8, 1#8]] := by decide +kernel

/-! ## Witnesses: the machine -/

/-- A record in a state, with a reason of that state, under a seq, of order 1. -/
def kept (n : Nat) (p : Port) (st : RecState) : Record :=
  { recordOf (order []) cp st (st.reasons.headD .none) idle with seq := n, origin := p }

/-- The part in RAMP with a record of each port in the store, and a sample waiting. -/
def busy : State :=
  { working .ramp (.some contacted) (running [pt 8, pt 9]) with
    store := { records := [kept 4 .A .auto, kept 6 .B .skipped], nextSeq := 7, waitingA := 1, waitingB := 1
               armedA := false, armedB := true }
    force := { ForceMonitor.reset with setPoint := 400 }
    portA := { LinkPort.reset .A with notices := [orderNotice .orderStarted (order []) 0 0], attention := true }
    pending := [.loadSample 500, .stgDone] }

/-- The part with a review open over record 6 of order 1, claimed by port A. -/
def reviewing : State :=
  { working .reviewWait .none (running [pt 8]) with
    store := { records := [kept 4 .A .auto, kept 6 .A .review], nextSeq := 7, waitingA := 2, waitingB := 0
               armedA := false, armedB := true }
    desk := { review := .some ⟨6, 1, .some .A⟩, window := .some 120000 }
    pending := [.windowTimerExpiry] }

theorem witness_EveryCommandKeepsItsFrame :
    [Instr.loadSample 500, .stgDone, .holdAll srcA, .readState srcB].all (goes · busy) = true := by decide +kernel

theorem witness_EveryRequestIsAnsweredOnce :
    sourceOf (.holdAll srcA) = .some srcA ∧ kindOf (.holdAll srcA) ≠ .some 1 ∧ State.reset.cal.loaded = false
      ∧ sourceOf (.readState srcB) = .some srcB := by decide +kernel

/-- The part whose orders have each one point taken, the one in hand. -/
def balanced (s : State) : State :=
  { s with table := { s.table with orders := s.table.orders.map fun o => { o with counts := { o.counts with taken := 1 } } } }

/-- The premises of every statement that a step keeps an invariant, on the part at work and on the part with a review open. -/
theorem witness_StepKeeps :
    (steps busy = true ∧ busy.NoticesOk ∧ busy.LinksOk ∧ busy.StoreOk ∧ busy.RoomOk ∧ busy.PoolOk ∧ busy.ReviewOk
        ∧ busy.ForceOk ∧ busy.InputsOk ∧ busy.CalOk ∧ busy.CaptureOk ∧ busy.InterlockOk)
      ∧ (steps reviewing = true ∧ reviewing.PoolOk ∧ reviewing.ReviewOk ∧ reviewing.InterlockOk)
      ∧ (busy.RecordsOk ∧ busy.SetPointOk ∧ busy.force.setPoint = 400 ∧ reviewing.RecordsOk ∧ reviewing.SetPointOk)
      ∧ (steps (balanced busy) = true ∧ (balanced busy).CountsOk ∧ steps (balanced reviewing) = true
          ∧ (balanced reviewing).CountsOk) := by
  and_intros <;> decide +kernel

theorem witness_RecordsKeepTheirSeqAndValues :
    reviewing.StoreOk ∧ reviewing.ReviewOk ∧ goes .windowTimerExpiry reviewing = true
      ∧ (∃ r ∈ reviewing.store.records, r.state ≠ .review
          ∧ ∃ r' ∈ (after .windowTimerExpiry reviewing).store.records, r'.seq = r.seq) := by decide +kernel

/-! ## Witnesses: the links -/

/-- Requests at the ends of their fields' ranges: the greatest unsigned values, the least and the greatest signed ones. -/
theorem witness_RequestsSurviveTheWire :
    [Instr.addPoints ⟨.B, 255⟩ ⟨65535, true, [⟨65535, -2147483648, 2147483647, 4294967295⟩, ⟨0, -1, 0, 0⟩]⟩,
      .writeCalibration srcA 255 ⟨255, -2147483648, 2147483647, 4294967295, -32768, 0, 65535⟩,
      .openOrder srcB { req with window := 65535, lower := 4294967295 }].all
      (fun i => i.wf && (kindOf i).isSome && (sourceOf i).isSome) = true := by decide +kernel

/-- A record, a notice and a summary with every field at the end of its range. -/
def widestRecord : Record :=
  { kept 4294967295 .B .manual with
    orderId := 65535, tag := 65535, forceCode := 255, framesUsed := 255, depth := .some 4294967294, d1 := .some 4294967295
    d2 := .some 4294967295, hardness := .some 99999, achieved := 65535, generation := 65535, x := -2147483648
    y := 2147483647, peak := 2147483647, dx := -2147483648, dy := 2147483647 }
def widestNotice : Notice := orderNotice .resultsWaiting { order [] with id := 65535 } 4294967295 4294967295
def widestSummary : Summary :=
  { summaryOf { order [] with id := 65535 } .aborted (.some .estop) with
    forceCode := 255, counts := ⟨4294967295, 1, 2, 3, 4, 5, 6, 7, 4294967295⟩, minHardness := .some 1, maxHardness := .some 99999
    mean := .some 5, caseStatus := .notReached, caseValue := .some 4294967294, firstSeq := .some 1, lastSeq := .some 4294967295 }

theorem witness_LayoutsOfTheWire :
    (let r := widestRecord;
      r.seq < 2 ^ 32 ∧ r.orderId < 2 ^ 16 ∧ r.tag < 2 ^ 16 ∧ r.forceCode < 2 ^ 8 ∧ r.framesUsed < 2 ^ 8 ∧ r.depth.getD 0 < 2 ^ 32
        ∧ r.d1.getD 0 < 2 ^ 32 ∧ r.d2.getD 0 < 2 ^ 32 ∧ r.hardness.getD 0 < 2 ^ 32 ∧ r.achieved < 2 ^ 16 ∧ r.generation < 2 ^ 16
        ∧ ∀ v ∈ [r.x, r.y, r.peak, r.dx, r.dy], -2 ^ 31 ≤ v ∧ v < 2 ^ 31)
      ∧ (widestNotice.orderId < 2 ^ 16 ∧ widestNotice.seq < 2 ^ 32 ∧ widestNotice.value < 2 ^ 32)
      ∧ (let m := widestSummary;
        m.orderId < 2 ^ 16 ∧ m.forceCode < 2 ^ 8 ∧ m.caseStatus ≠ .pending
          ∧ (∀ v ∈ [m.counts.taken, m.counts.auto, m.counts.manual, m.counts.unmeasured, m.counts.skipped, m.counts.discarded,
              m.counts.inBand, m.counts.low, m.counts.high], v < 2 ^ 32)
          ∧ ∀ v ∈ [m.minHardness, m.maxHardness, m.mean, m.caseValue, m.firstSeq, m.lastSeq], v.getD 0 < 2 ^ 32) := by
  decide +kernel

/-- Addresses that port B takes, its own and 0, and one that it does not; payloads and LENGTHs at the limit and one above it; buffers
with room and full, with overrun-clear on and off, the notice queue with room and full; and a wrong check. -/
theorem witness_WholeFrameIsReceived :
    (idle.portA.rx = Receiver.hunt ∧ idle.portA.inBreak = false ∧ idle.portB.rx = Receiver.hunt ∧ idle.portB.inBreak = false)
      ∧ ((1#8).toNat = idle.straps.station ∧ idle.portB.options.broadcast = true ∧ (2#8).toNat ≠ idle.straps.station
          ∧ (2#8).toNat ≠ idle.portB.options.group)
      ∧ (idle.portB.options.longFrames = false ∧ (List.replicate 256 0x5A#8).length ≤ 256 ∧ 256 < 257)
      ∧ idle.portB.buffers.length < 2 ∧ idle.portB.options.overrunClear = false
      ∧ (after (.setLink srcA ⟨0, 0, 0xFF, 2, 0⟩) idle).portA.options.overrunClear = true
      ∧ (after (.frameReceived .A ((frameBytes 3#8 1#8 []).map charOfByte))
          (after (.frameReceived .A ((frameBytes 3#8 1#8 []).map charOfByte)) idle)).portA.buffers.length = 2
      ∧ (idle.portA.notices.length < 32 ∧ 32 ≤ (List.replicate 32 (plainNotice .headLock 1)).length)
      ∧ [0#8, 0#8] ≠ checkBytes (frameCore 200#8 1#8 []) := by
  and_intros <;> decide +kernel

/-- A character of even data with its parity bit set, and one whose stop bit reads space. -/
theorem witness_GapAndErrorEndTheFrame :
    idle.portA.inBreak = false ∧ charIsError ⟨0#8, true, true⟩ = true ∧ charIsError ⟨0#8, false, false⟩ = true := by
  decide +kernel

/-- The part with one frame buffered at a port. -/
def buffered (p : Port) (kind : Byte) (shared : Bool) (payload : List Byte) (s : State) : State :=
  s.modPort p fun q => { q with buffers := [⟨1#8, kind, shared, payload⟩] }

/-- Kinds 0 and 0x17 name no request, 0x16 before the load, OPEN ORDER of 39 bytes, HOLD ORDER of 2; then the shared frames. -/
theorem witness_FrameTakenIsScreened :
    (((buffered .A 0#8 false [] idle).port .A).handling = .none ∧ ((buffered .A 0#8 false [] idle).port .A).responses = []
        ∧ ((buffered .A 0#8 false [] idle).port .A).inBreak = false
        ∧ ¬(1 ≤ (0#8).toNat ∧ (0#8).toNat ≤ 0x16) ∧ ¬(1 ≤ (0x17#8).toNat ∧ (0x17#8).toNat ≤ 0x16))
      ∧ (State.reset.cal.loaded = false ∧ 1 ≤ (0x16#8).toNat ∧ (0x16#8).toNat ≤ 0x16 ∧ (0x16#8) ≠ 0x01#8)
      ∧ (idle.cal.loaded = true ∧ lengthRight 4 (List.replicate 39 0#8) = false ∧ lengthRight 7 [0#8, 1#8] = true)
      ∧ (State.reset.cal.loaded = false ∧ lengthRight 1 [] = true)
      ∧ ((buffered .B 0x15#8 true [5#8, 0#8, 5#8] idle).portB.handling = .none
          ∧ (buffered .B 0x15#8 true [5#8, 0#8, 5#8] idle).portB.inBreak = false
          ∧ [5#8, 0#8, 5#8].all (·.toNat ≤ 5) = true ∧ lengthRight 0x15 [6#8, 0#8, 0#8] = true
          ∧ lengthRight 9 [0#8] = false) := by
  and_intros <;> decide +kernel

theorem witness_ResponseSentFreesTheTransmitter :
    ((after (.holdAll srcA) idle).port .A).responses.length = 1 := by decide +kernel

/-- The part with a port at the end of a line break, and notices waiting there. -/
def breaking (p : Port) : State :=
  idle.modPort p fun q => { q with inBreak := true, notices := [plainNotice .headLock 1], lost := 3 }

/-- The part with the head lock held. -/
def withLock (h : Option Port) (s : State) : State := { s with arb := { s.arb with lock := h } }

/-- Each port at the end of a break, without the lock and with it. -/
theorem witness_PortResetTakesItsSteps :
    ∀ p : Port, ((breaking p).port p).inBreak = true ∧ (breaking p).arb.lock ≠ .some p
      ∧ ((withLock (.some p) (breaking p)).port p).inBreak = true ∧ (withLock (.some p) (breaking p)).arb.lock = .some p := by
  intro p; cases p <;> decide +kernel

/-- The part with the greatest dwell count and the least force that READ STATE has room for, and the greatest score in a bank BEST or
READING. -/
def extreme : State := { busy with force := { busy.force with lastForce := -2147483648, dwellCount := 60000 } }
def scoring (b : BankId) (role : BankRole) : State :=
  extreme.modCap (CaptureUnit.modBank b fun k => { k with role := role, score := .some 9427968 })

theorem witness_ReadStateReportsTheState :
    extreme.PoolOk ∧ extreme.RoomOk ∧ extreme.CalOk ∧ extreme.LinksOk ∧ extreme.CaptureOk ∧ extreme.arb.owner.getD 0 ≤ 65535
      ∧ extreme.inputs.station.level.getD 0 ≤ 7 ∧ extreme.force.dwellCount ≤ 60000 ∧ extreme.seq.impressions.length ≤ 64
      ∧ -2147483648 ≤ extreme.force.lastForce ∧ extreme.force.lastForce < 2147483648
      ∧ ([BankId.zero, .one].all fun b => [BankRole.best, .reading].all fun r =>
          let s := scoring b r
          decide s.PoolOk && decide s.RoomOk && decide s.CalOk && decide s.LinksOk && decide s.CaptureOk
            && decide (s.cap.bank0.score.getD 0 ≤ 9427968 ∧ s.cap.bank1.score.getD 0 ≤ 9427968 ∧ (s.cap.bank b).role = r)
            && decide (s.cap.findBank (fun k => k.role = .best ∨ k.role = .reading) = .some b)) = true := by
  and_intros <;> decide +kernel

/-- Queues of 8, of 9 and of 32 notices. -/
theorem witness_ReadNoticesHandsOverTheOldest :
    [8, 9, 32].all (fun n => decide
      ({ idle with portA := { idle.portA with notices := List.replicate n (plainNotice .headLock 1), attention := true }
         : State }.NoticesOk)) = true ∧ idle.cal.loaded = true := by decide +kernel

theorem witness_SetLinkSetsItsOwnPort :
    idle.cal.loaded = true
      ∧ [0, 32, 63, 0xFF].all (fun g => decide (g = 0 ∨ (32 ≤ g ∧ g ≤ 63) ∨ g = 0xFF)) = true
      ∧ [1, 31, 64].all (fun g => decide (¬(g = 0 ∨ (32 ≤ g ∧ g ≤ 63) ∨ g = 0xFF))) = true := by decide +kernel

/-! ## Witnesses: orders and the head -/

/-- Order `n` of port A, ENDED, with its summary. -/
def ended (n : Nat) : Order :=
  let o := { newOrder srcA req n n with status := .ended, outcome := .some .completed }
  { o with summary := .some (summaryOf o .completed .none) }

/-- The part with eight orders, all OPEN, and with the third ENDED. -/
def fullTable : State := holding ((List.range 8).map fun n => newOrder srcA req (n + 1) (n + 1)) idle
def oneEnded : State :=
  holding ((List.range 8).map fun n => if n = 2 then ended 3 else newOrder srcA req (n + 1) (n + 1)) idle

/-- Kind 3, force code 12 and crossed limits; stations 6, empty and of the wrong kind; a full table; and requests that pass, one as it is
and one with an odd band width. -/
theorem witness_OpenOrderIsCheckedAndOpened :
    idle.cal.loaded = true
      ∧ [{ req with kind := 3 }, { req with forceCode := 12 }, { req with caseLimit := 1 }, { req with lower := 9, upper := 8 }].all
          (fun r => openOrderCheck r idle = .some .badValue) = true
      ∧ [{ req with indenter := 6 }, { req with indenter := 1 }, { req with method := 1 }, { req with objective := 0 }].all
          (fun r => openOrderCheck r idle = .some .badStation) = true
      ∧ openOrderCheck req fullTable = .some .full ∧ oneEnded.HeadOk ∧ openOrderCheck req oneEnded = .none
      ∧ openOrderCheck req idle = .none ∧ idle.HeadOk ∧ 1 ≤ idle.table.nextId
      ∧ ((stationRecord req.indenter idle).kind = .vickersIndenter ∧ (stationRecord req.objective idle).kind = .objective
          ∧ req.caseLimit = 0 ∧ req.lower = 0 ∧ idle.table.orders.length < 8)
      ∧ (wasClamped req = false ∧ wasClamped { req with bandW := 9, defaults := 0x1FBF } = true
          ∧ openOrderCheck { req with bandW := 9, defaults := 0x1FBF } idle = .none)
      ∧ ({ oneEnded with table := { oneEnded.table with nextId := 65535 } } : State).HeadOk := by
  and_intros <;> decide +kernel

/-- A TRAVERSE order of port A whose last depth is 500. -/
def traverse : Order := { order [] with kind := .traverse, lastDepth := .some 500, status := .opened }

/-- One clause each: an ENDED order, port B, a closed list, a SINGLE order with two points and a depth above 20,000,000, an equal
depth, a target past the travel, no room in the pool, the four ways in which an accepted batch goes on, and an id not in the table. -/
theorem witness_AddPointsIsCheckedAndAppended :
    (holding [ended 1] idle).HeadOk ∧ (ended 1).status = .ended
      ∧ (holding [order []] idle).HeadOk ∧ (order []).origin ≠ srcB.port ∧ (order []).origin = srcA.port
      ∧ { order [] with lastReceived := true }.lastReceived = true
      ∧ ({ order [] with kind := .single }.kind = .single ∧ [pt 1, pt 2].length ≠ 1)
      ∧ (traverse.kind = .traverse ∧ 20000000 < 20000001)
      ∧ ¬(traverse.lastDepth.toList ++ [500]).Pairwise (· < ·)
      ∧ (traverse.lastDepth.toList ++ [501, 502]).Pairwise (· < ·)
      ∧ ((stationRecord 2 idle).x = 100 ∧ ¬(49999901 + (stationRecord 2 idle).x ≤ 50000000)
          ∧ 49999900 + (stationRecord 2 idle).x ≤ 50000000)
      ∧ ({ idle with poolFree := 0 }.poolFree - returnReserve idle < 1 ∧ ¬(idle.poolFree - returnReserve idle < 512))
      ∧ (order [pt 1]).status = .opened
      ∧ (working .awaitPoints .none (running [])).HeadOk ∧ (working .awaitPoints .none (running [])).seq.state = .awaitPoints
      ∧ findOrder 1 (working .awaitPoints .none (running [])) = .some (running [])
      ∧ busy.HeadOk ∧ busy.seq.state ≠ .awaitPoints
      ∧ busy.cal.loaded = true ∧ (∀ o ∈ busy.table.orders, o.id ≠ 2) := by
  and_intros <;> decide +kernel

theorem witness_CancelEndsAnOpenOrder :
    (holding [order [pt 1, pt 2]] idle).HeadOk ∧ findOrder 1 (holding [order [pt 1, pt 2]] idle) = .some (order [pt 1, pt 2])
      ∧ (order [pt 1, pt 2]).status = .opened ∧ (List.replicate 30 (plainNotice .headLock 1)).length ≤ 30
      ∧ ((listing .none).HeadOk ∧ ownerOf (listing .none) = .some deferred ∧ (listing .none).seq.impressions.length = 1
          ∧ ((listing .none).port deferred.origin).notices.length ≤ 29) := by
  and_intros <;> decide +kernel

/-- An id that a part with one order, OPEN or ENDED, has, and one it has not, with a port that did not open it. -/
def refusals (id : Nat) : Prop :=
  (holding [order []] idle).cal.loaded = true ∧ (∀ o ∈ (holding [order []] idle).table.orders, o.id ≠ id + 1)
    ∧ findOrder id (holding [ended 1] idle) = .some (ended 1) ∧ (ended 1).status = .ended
    ∧ findOrder id (holding [order []] idle) = .some (order []) ∧ (order []).status ≠ .ended ∧ (order []).origin ≠ srcB.port

/-- The head owner in every state that a cancel finds it in, with nothing under way to an abort; a RETRACT on the abort path; an id not
in the table, an ENDED order, and an order of the other port. -/
theorem witness_CancelActsOnTheWorkInHand :
    ([SeqState.moveIndent, .tare, .approach, .ramp, .dwell, .unload, .moveView, .settle, .focus, .measure, .retract,
        .awaitPoints, .storeWait, .paused].all fun st =>
      abortReasonHeld (working st (.some cp) (running [pt 8])) = .none
        && findOrder 1 (working st (.some cp) (running [pt 8])) = .some (running [pt 8])) = true
      ∧ abortReasonHeld reviewing = .none ∧ findOrder 1 reviewing = .some (running [pt 8])
      ∧ (held [pt 8]).status = .held ∧ (running [pt 8]).cancelPending = false
      ∧ { running [pt 8] with cancelPending := true }.cancelPending = true
      ∧ (abortReasonHeld (working .retract (.some cp) (running [pt 8]) |>.modSeq fun q => { q with purpose := .some (.abort .estop) })
          = .some .estop)
      ∧ refusals 1 := by
  unfold refusals
  and_intros <;> decide +kernel

/-- No such order, an ENDED one, one of the other port, a cause already there, and an OPEN, a HELD and a RUNNING order. -/
theorem witness_HoldOrderActsByState :
    findOrder 2 (holding [order []] idle) = .none ∧ findOrder 1 (holding [ended 1] idle) = .some (ended 1)
      ∧ (ended 1).status = .ended ∧ (order []).origin ≠ srcB.port ∧ (held []).holds.own = true
      ∧ ((order []).status = .opened ∧ (order []).holds.own = false ∧ (order []).pendingHolds.own = false)
      ∧ { held [] with holds := ⟨false, true, false⟩ }.holds.own = false
      ∧ findOrder 1 (working .storeWait .none (running [pt 1])) = .some (running [pt 1])
      ∧ (working .storeWait .none (running [pt 1])).seq.state ∈ [.awaitPoints, .storeWait]
      ∧ findOrder 1 busy = .some (running [pt 8, pt 9]) ∧ busy.seq.state ∉ [.awaitPoints, .storeWait] := by
  and_intros <;> decide +kernel

/-- The door open; nothing to remove; DEVICE left behind; an OPEN, a RUNNING and a HELD order that are resumed; and the refused ones. -/
theorem witness_ResumeOrderRemovesItsCauses :
    doorClosed { idle with inputs := { idle.inputs with door := ⟨.some .isOpen, .none, .none, 16⟩ } } = false
      ∧ doorClosed idle = true
      ∧ ((order []).holds.own = false ∧ (order []).holds.interlock = false ∧ (order []).pendingHolds.own = false)
      ∧ { held [] with holds := ⟨true, true, false⟩ }.holds.device = true
      ∧ { order [] with holds := ⟨true, false, false⟩ }.status = .opened
      ∧ { running [] with pendingHolds := ⟨true, false⟩ }.pendingHolds.own = true
      ∧ (findOrder 1 (working .paused (.some contacted) (held [pt 8])) = .some (held [pt 8])
          ∧ (working .paused (.some contacted) (held [pt 8])).seq.cur.isSome = true)
      ∧ (working .paused .none (held [pt 8])).seq.cur = .none ∧ (working .reviewWait .none (held [])).seq.state = .reviewWait
      ∧ (working .unload (.some contacted) (held [])).seq.state ≠ .paused
      ∧ refusals 1 := by
  unfold refusals
  and_intros <;> decide +kernel

/-- The part with the device hold flag set or clear. -/
def withDevice (b : Bool) (s : State) : State := { s with arb := { s.arb with deviceHold := b } }

theorem witness_HoldAllAndResumeAll :
    (withDevice true busy).HeadOk ∧ ownerOf idle = .none ∧ idle.arb.deviceHold = false ∧ idle.arb.owner = .none
      ∧ ownerOf busy = .some (running [pt 8, pt 9])
      ∧ (working .paused .none (held [])).HeadOk ∧ ownerOf (working .paused .none (held [])) = .some (held [])
      ∧ (working .awaitPoints .none (running [])).HeadOk
      ∧ { held [] with holds := ⟨false, true, false⟩ }.holds.device = true
      ∧ (working .paused (.some contacted) { held [] with holds := ⟨false, true, false⟩ }).HeadOk
      ∧ (working .paused .none { held [] with holds := ⟨false, true, false⟩ }).HeadOk
      ∧ (working .reviewWait .none { held [] with holds := ⟨false, true, false⟩ }).HeadOk
      ∧ (working .unload (.some contacted) { held [] with holds := ⟨false, true, false⟩ }).HeadOk := by
  and_intros <;> decide +kernel

theorem witness_TakeHeadAndFreeHead :
    idle.arb.lock = .none ∧ (withLock (.some .A) idle).arb.lock = .some srcA.port
      ∧ (withLock (.some .B) idle).arb.lock = .some srcA.port.other
      ∧ (chooseOrder (withLock (.some .A) (holding [order [pt 1]] idle))).isSome = true ∧ busy.arb.owner.isSome = true := by
  and_intros <;> decide +kernel

/-- One order to choose, at its low-water count and above it; the choice between the ports; and a full queue of the chosen order. -/
theorem witness_GrantGoesToTheRightOrder :
    chooseOrder (holding [order [pt 1]] idle) = .some (order [pt 1]) ∧ (holding [order [pt 1]] idle).HeadOk
      ∧ chooseOrder (holding [order ((List.range 9).map pt)] idle) = .some (order ((List.range 9).map pt))
      ∧ chooseOrder idle = .none ∧ busy.arb.owner ≠ .none
      ∧ (order [pt 1]).origin ≠ idle.arb.lastGranted
      ∧ (let full := (holding [order [pt 1]] idle).modPort .A fun q =>
            { q with notices := List.replicate 32 (plainNotice .headLock 1), attention := true };
          chooseOrder full = .some (order [pt 1]) ∧ full.HeadOk ∧ full.arb.owner = .none ∧ (full.port .A).notices.length = 32)
      ∧ (chooseOrder (holding [{ order [pt 1] with origin := .B }] idle)).map (·.origin) = .some idle.arb.lastGranted := by
  and_intros <;> decide +kernel

/-- The head owner waiting in AWAIT_POINTS with its starvation timer running. -/
def starving : State :=
  let s := working .awaitPoints .none (running [])
  { s with seq := { s.seq with timers := { s.seq.timers with starvation := .some 10000 } } }

theorem witness_StarvedOrderYields :
    idle.seq.timers.starvation = .none ∧ ownerOf starving = .some (running [])
      ∧ starving.seq.timers.starvation.isSome = true ∧ starving.seq.state = .awaitPoints ∧ starving.seq.cur = .none
      ∧ starving.seq.impressions = [] ∧ starving.seq.purpose = .none ∧ starving.seq.stopFlag = false := by
  and_intros <;> decide +kernel

theorem witness_ReadSummaryFreesTheSlot :
    idle.PoolOk ∧ (holding [ended 1, { order [] with id := 2 }] idle).PoolOk ∧ (ended 1).origin = srcA.port
      ∧ (ended 1).status = .ended ∧ (ended 1).origin ≠ srcB.port ∧ (order []).status ≠ .ended := by
  and_intros <;> decide +kernel

/-! ## Witnesses: results, review and calibration -/

/-- More records than the limit of a read, and the store empty. -/
theorem witness_ReadResultsAndReleaseResults :
    idle.cal.loaded = true ∧ busy.StoreOk ∧ busy.cal.loaded = true
      ∧ (busy.store.records.filter fun r => r.origin = .A && decide (r.seq ≤ 4) && r.state ≠ .review).length = 1
      ∧ (working .storeWait .none (running [pt 1])).StoreOk := by
  and_intros <;> decide +kernel

/-- No review; another seq; no claimant; the claimant itself; the other port; and diagonals out of range. -/
theorem witness_ReviewIsClaimedAndChecked :
    idle.desk.review = .none ∧ reviewing.desk.review = .some ⟨6, 1, .some .A⟩ ∧ (6 : Nat) ≠ 5
      ∧ (Review.mk 6 1 .none).claimant = .none ∧ (Review.mk 6 1 (.some .A)).claimant = .some srcA.port
      ∧ (Review.mk 6 1 (.some .A)).claimant = .some srcB.port.other ∧ 3000000 < 3000001 := by
  and_intros <;> decide +kernel

/-- The least and the greatest diagonals, by the claimant, over the record in REVIEW. -/
theorem witness_ReviewClosesInOrder :
    reviewing.ReviewOk ∧ reviewing.desk.review = .some ⟨6, 1, .some srcA.port⟩ ∧ ownerOf reviewing = .some (running [pt 8])
      ∧ kept 6 .A .review ∈ reviewing.store.records ∧ reviewing.portA.notices.length < 32
      ∧ reviewing.portB.notices.length < 32 ∧ 1 ≤ 3000000 := by
  and_intros <;> decide +kernel

/-- The part before its load, and with the second slot of record 6 in commit. -/
def committing : State :=
  { idle with cal := { idle.cal with
    nvBusy := true, commit := .some { record := 6, writer := .A, generation := 65535, fields := ⟨0, 0, 0, 0, 0, 0, 5000⟩ } } }

theorem witness_StartupLoadAndCommit :
    State.reset.cal.loaded = false ∧ idle.cal.loaded = true ∧ idle.cal.commit = .none
      ∧ committing.cal.commit = .some ⟨6, .A, 65535, ⟨0, 0, 0, 0, 0, 0, 5000⟩⟩ ∧ committing.cal.nv.length = 7
      ∧ calFieldsInRange 6 ⟨0, 0, 0, 0, 0, 0, 5000⟩ = true ∧ slotPasses 6 ⟨⟨0, 0, 0, 0, 0, 0, 5001⟩, 0⟩ = false := by
  and_intros <;> decide +kernel

/-- Record 7; the table busy; a station of an order, the force record under a head owner; gains of 0, 1, 5,000 and 5,001; and station
fields at the ends of their ranges and past them, by kind. -/
theorem witness_CalibrationIsReadAndWritten :
    idle.cal.loaded = true ∧ 6 < 7 ∧ committing.cal.nvBusy = true
      ∧ (∃ o ∈ (holding [order []] idle).table.orders, o.status ≠ .ended ∧ o.indenter = 0) ∧ busy.arb.owner ≠ .none
      ∧ [0, 1, 5000, 5001].map (fun g => calFieldsInRange 6 ⟨0, 0, 0, 0, 0, 0, g⟩) = [false, true, true, false]
      ∧ ([⟨3, -2000000, 2000000, 20000, -5000, 1, 0⟩, ⟨3, 2000000, -2000000, 2000000, 5000, 1000000, 9⟩, ⟨0, 0, 0, 0, 0, 0, 0⟩,
            ⟨2, 2000000, 2000000, 0, 0, 0, 0⟩] : List CalFields).all (fun f => calFieldsInRange 0 f) = true
      ∧ ([⟨0, -2000001, 0, 0, 0, 0, 0⟩, ⟨0, 0, 2000001, 0, 0, 0, 0⟩, ⟨4, 0, 0, 0, 0, 0, 0⟩, ⟨1, 0, 0, 20000, 0, 0, 0⟩,
            ⟨2, 0, 0, 0, 1, 0, 0⟩, ⟨0, 0, 0, 0, 0, 1, 0⟩, ⟨3, 0, 0, 19999, 0, 1, 0⟩, ⟨3, 0, 0, 20000, -5001, 1, 0⟩,
            ⟨3, 0, 0, 20000, 0, 0, 0⟩, ⟨3, 0, 0, 20000, 0, 1000001, 0⟩] : List CalFields).all
          (fun f => !calFieldsInRange 0 f) = true
      ∧ conditionOf 6 { idle with cal := { idle.cal with conditions := List.replicate 7 .loadFault } } = .loadFault := by
  and_intros <;> decide +kernel

/-! ## Witnesses: inputs and lamps -/

/-- The part with the door's, the e-stop's and the station's candidate at its time. -/
def pressing (door : Debounced DoorLevel) (estop : Debounced EstopLevel) (station : Debounced Nat) (s : State) : State :=
  { s with inputs := { door := door, estop := estop, station := station } }

/-- A level with a candidate, its timer running. -/
def cand {α : Type} (l : Option α) (c : α) : Debounced α := { level := l, candidate := .some c, timer := .some 4, time := 4 }
def rest {α : Type} (l : α) : Debounced α := { level := .some l, candidate := .none, timer := .none, time := 4 }

/-- Back at the level, at the candidate, and at neither, before the first level and after; and the times of SET INPUTS. -/
theorem witness_InputsJudgeTheirLines :
    idle.inputs.door.level = .some .isClosed ∧ idle.inputs.door.level ≠ .some .isOpen
      ∧ (cand (.some DoorLevel.isClosed) .isOpen).candidate = .some .isOpen ∧ State.reset.inputs.door.level ≠ .some .isClosed
      ∧ State.reset.inputs.door.candidate ≠ .some .isClosed ∧ idle.inputs.station.level = .some 0
      ∧ (cand (.some 0) 7).candidate = .some 7 ∧ idle.cal.loaded = true
      ∧ [0, 1, 4, 16, 64].all (fun v => decide (v ∈ [0, 1, 4, 16, 64])) = true
      ∧ [2, 15, 63, 65, 255].all (fun v => decide (v ∉ [0, 1, 4, 16, 64])) = true := by
  and_intros <;> decide +kernel

/-- The door opening with the head owner in each state. -/
def opening (st : SeqState) : State :=
  pressing (cand (.some .isClosed) .isOpen) (rest .clear) (rest 0) (working st (.some contacted) (running [pt 8]))

theorem witness_DoorIsAcceptedAndActsByState :
    idle.inputs.door.timer = .none
      ∧ (State.reset.inputs.door.timer.isSome = true ∧ State.reset.inputs.door.level = .none
          ∧ State.reset.inputs.door.candidate = .some .isOpen)
      ∧ (after (.coldReset ⟨0, 0, true, true, 0⟩) idle).inputs.door.candidate = .some .isClosed
      ∧ (cand (.some DoorLevel.isOpen) .isClosed).timer.isSome = true
      ∧ (ownerOf idle = .none ∧ idle.seq.state = .idle)
      ∧ ([SeqState.unload, .reviewWait, .retract, .paused, .awaitPoints, .storeWait, .moveIndent, .tare, .approach, .moveView,
            .settle, .focus, .measure, .ramp, .dwell].all fun st =>
          (opening st).inputs.door.timer.isSome && ownerOf (opening st) = .some (running [pt 8])
            && !(opening st).seq.stopFlag) = true
      ∧ ({ (opening .tare).seq with stopFlag := true } : Sequencer).stopFlag = true := by
  and_intros <;> decide +kernel

/-- The e-stop asserted with an owner and without, and released; the station code that a move waits for, another, and an odd one; and
the one it waits for with the stage part done, in both move phases. -/
theorem witness_EstopAndStationAreAccepted :
    (State.reset.inputs.estop.level = .none ∧ State.reset.inputs.estop.candidate = .some .asserted)
      ∧ (after (.coldReset ⟨0, 0, true, true, 0⟩) idle).inputs.estop.candidate = .some .clear
      ∧ (cand (.some EstopLevel.asserted) .clear).timer.isSome = true
      ∧ abortReasonHeld busy = .none ∧ ownerOf idle = .none ∧ idle.inputs.station.timer = .none
      ∧ (cand (.some 1) 0).timer.isSome = true ∧ inMove idle = false
      ∧ (ownerOf (working .moveIndent (.some cp) (running [])) = .some (running [])
          ∧ inMove (working .moveIndent (.some cp) (running [])) = true
          ∧ (working .moveIndent (.some cp) (running [])).seq.turretPart = false
          ∧ (working .moveIndent (.some cp) (running [])).seq.turretOutstanding = false
          ∧ (working .moveIndent (.some cp) (running [])).seq.stagePart = false
          ∧ requestedStation (running []) (working .moveIndent (.some cp) (running [])) = 0
          ∧ requestedStation (running []) (working .moveView (.some cp) (running [])) = 2)
      ∧ ([(SeqState.moveIndent, 0), (.moveView, 2)].all fun q =>
          let s := pressing (rest .isClosed) (rest .clear) (cand (.some 1) q.2) (moving q.1 false false true false)
          decide (ownerOf s = .some (running [pt 8]) ∧ inMove s = true ∧ s.seq.turretPart = false
            ∧ s.seq.turretOutstanding = false ∧ s.seq.stagePart = true ∧ requestedStation (running [pt 8]) s = q.2
            ∧ s.inputs.station.candidate = .some q.2 ∧ s.inputs.station.timer.isSome = true)) = true := by
  and_intros <;> decide +kernel

/-- The head owner in a state of its cycle and under review, and a point and an impression to record. -/
theorem witness_AbortPathBringsTheHeadToRest :
    (ownerOf busy).isSome = true ∧ busy.seq.state ≠ .reviewWait
      ∧ (working .focus (.some contacted) (running [])).seq.state ≠ .reviewWait
      ∧ (reviewing.ReviewOk ∧ reviewing.desk.review = .some ⟨6, 1, .some .A⟩ ∧ ownerOf reviewing = .some (running [pt 8])
          ∧ kept 6 .A .review ∈ reviewing.store.records ∧ reviewing.portA.notices.length < 32
          ∧ reviewing.portB.notices.length < 32)
      ∧ (busy.HeadOk ∧ ownerOf busy = .some (running [pt 8, pt 9]) ∧ busy.seq.cur = .some contacted ∧ contacted.indented = true
          ∧ cp.indented = false ∧ (busy.port .A).notices.length ≤ 29)
      ∧ ((listing .none).HeadOk ∧ (listing .none).seq.cur = .none ∧ (listing .none).seq.impressions.length = 1) := by
  and_intros <;> decide +kernel

theorem witness_LampsAreSetAndBlink :
    idle.cal.loaded = true ∧ (5 : Nat) ≤ 5 ∧ (5 : Nat) < 6
      ∧ (let t := after (.setLamp srcA 4 5 3) idle;
        t.lamps.green = .forced .slow ∧ t.lamps.amber = .forced .fast ∧ t.lamps.red = .forced .on)
      ∧ (idle.lamps.green = .auto ∧ idle.lamps.amber = .auto ∧ idle.lamps.red = .auto) := by
  and_intros <;> decide +kernel

/-! ## Witnesses: the indent cycle -/

/-- An order's retract or interlock stop with the indenter not yet raised. -/
def resting (st : SeqState) (stop : Bool) (why : Option RetractPurpose) (o : Order) : State :=
  let s := working st (.some cp) o
  { s with seq := { s.seq with stopFlag := stop, purpose := why }, pins := { s.pins with actRaised := false } }

/-- The rise of ACT_RAISED with the force below the contact threshold and at it; a retract of each purpose; and a stop before contact
and in a view, of a HELD order, of one resumed, and with a cancel pending. -/
theorem witness_RetractsAndStopsEnd :
    ([(SeqState.retract, false, Option.some RetractPurpose.cancel, running [pt 8]), (.retract, false, .some .noContact, running [pt 8]),
        (.retract, false, .some (.abort .estop), running [pt 8]), (.moveIndent, true, .none, held [pt 8]),
        (.tare, true, .none, running [pt 8]), (.approach, true, .none, { held [pt 8] with cancelPending := true }),
        (.moveView, true, .none, held [pt 8]), (.focus, true, .none, running [pt 8]),
        (.measure, true, .none, { held [pt 8] with cancelPending := true })].all fun q =>
      let s := resting q.1 q.2.1 q.2.2.1 q.2.2.2
      let s1 : State := { s with pins := { s.pins with actRaised := true } }
      decide (ownerOf s = .some q.2.2.2 ∧ s.pins.actRaised ≠ true ∧ s.seq.cur = .some cp
        ∧ s1.force.lastForce < contactThreshold q.2.2.2.forceCode ∧ s1.seq.stageOutstanding = false
        ∧ s1.seq.turretOutstanding = false)) = true
      ∧ ¬(({ ForceMonitor.reset with lastForce := 392 } : ForceMonitor).lastForce < (contactThreshold 8 : Int))
      ∧ (moving .retract true false false false).seq.stageOutstanding = true
      ∧ (moving .retract false true false false).seq.turretOutstanding = true := by
  and_intros <;> decide +kernel

theorem witness_MotionReportsEndTheMove :
    idle.seq.stageOutstanding = false ∧ idle.seq.turretOutstanding = false ∧ idle.seq.timers.stage = .none
      ∧ idle.seq.timers.turret = .none
      ∧ ((moving .moveIndent true true false false).seq.stageOutstanding = true
          ∧ inMove (moving .moveIndent true true false false) = true
          ∧ inMove (moving .moveView true false false true) = true)
      ∧ ([SeqState.moveIndent, .moveView].all fun st =>
          let s := moving st true true false true
          decide (s.seq.turretOutstanding = true ∧ inMove s = true ∧ s.seq.turretPart = true)) = true
      ∧ (ownerOf (moving .moveIndent true true false false) = .some (running [pt 8])
          ∧ stationReads (requestedStation (running [pt 8]) (moving .moveIndent true true false false))
              (moving .moveIndent true true false false) = true
          ∧ stationReads (requestedStation (running [pt 8]) (moving .moveView true true false false))
              (moving .moveView true true false false) = false
          ∧ stationReads (requestedStation (running [pt 8]) (moving .moveView false true true false))
              (pressing (rest .isClosed) (rest .clear) (rest 2) (moving .moveView false true true false)) = true)
      ∧ abortReasonHeld (moving .moveIndent true true false false) = .none
      ∧ (abortReasonHeld
          { moving .retract true false false false with
            seq := { (moving .retract true false false false).seq with purpose := .some (.abort .estop) } }).isSome = true
      ∧ (moving .moveIndent true true false false).seq.timers.turret.isSome = true := by
  and_intros <;> decide +kernel

/-- The part with force monitor values. -/
def pressed (st : SeqState) (f : ForceMonitor) : State := { working st (.some contacted) (running []) with force := f }

/-- Samples of a part whose gain is 1 µN per count read a thousandth: at the contact threshold of code 8, 392 mN, and one below; the
last sample of the tare, the ramp, the dwell and the out-of-band limit, and the ones before; the edges of the band and of
force-lost, 19,613 ± 196 and 9,806; and no head owner, with the table loaded, before the load and with the force record in LOAD_FAULT. -/
theorem witness_LoadSampleActsByState :
    let o := running []
    let force (count : Int) : Int := roundAway (count * 1) 1000
    ownerOf (pressed .dwell ForceMonitor.reset) = .some o ∧ (pressed .dwell ForceMonitor.reset).seq.stopFlag = false
      ∧ (force 392000 = 392 ∧ force 391499 = 391 ∧ contactThreshold 8 = 392)
      ∧ (force 19417000 = 19417 ∧ (nominalForce 8 : Int) - forceBand 8 = 19417 ∧ force 19809000 = 19809
          ∧ (nominalForce 8 : Int) + forceBand 8 = 19809)
      ∧ (force 9806000 = 9806 ∧ nominalForce 8 / 2 = 9806 ∧ force 9805000 < (nominalForce 8 / 2 : Nat))
      ∧ ({ ForceMonitor.reset with tareCount := 15 }.tareCount = 15 ∧ { ForceMonitor.reset with tareCount := 14 }.tareCount < 15)
      ∧ (o.ramp * 100 = 5000 ∧ 4998 + 1 < o.ramp * 100 ∧ o.ramp * 100 ≤ 4999 + 1)
      ∧ (o.dwell * 100 = 15000 ∧ 14999 + 1 = o.dwell * 100 ∧ 1999 + 1 = 2000)
      ∧ (pressed .approach ForceMonitor.reset).seq.cur = .some contacted
      ∧ (ownerOf idle = .none ∧ idle.seq.stopFlag = false ∧ idle.cal.loaded = true ∧ idle.cal.gain = 1)
      ∧ (ownerOf State.reset = .none ∧ State.reset.seq.stopFlag = false ∧ State.reset.cal.loaded = false)
      ∧ conditionOf 6 { idle with cal := { idle.cal with conditions := List.replicate 7 .loadFault } } = .loadFault := by
  and_intros <;> decide +kernel

/-- The part unloading, the indenter not yet raised. -/
def unloading : State :=
  { working .unload (.some contacted) (running []) with pins := { idle.pins with actRaised := false } }

/-- The rise of ACT_RAISED in UNLOAD one below the contact threshold and at it; a load sample with it already high, one below and at the
threshold; a cancel pending, deferred mode, either mark, a HELD order and a RUNNING one; then each timer running and stopped. -/
theorem witness_UnloadEndsAtLiftOff :
    (unloading.pins.actRaised ≠ true ∧ ownerOf unloading = .some (running []) ∧ unloading.seq.cur = .some contacted
        ∧ unloading.seq.stopFlag = false)
      ∧ (({ ForceMonitor.reset with lastForce := 391 } : ForceMonitor).lastForce < (contactThreshold 8 : Int)
          ∧ (contactThreshold 8 : Int) ≤ ({ ForceMonitor.reset with lastForce := 392 } : ForceMonitor).lastForce)
      ∧ (let high : State := { unloading with pins := { unloading.pins with actRaised := true } };
          high.pins.actRaised = true ∧ ownerOf high = .some (running []) ∧ high.seq.cur = .some contacted
            ∧ high.seq.state = .unload ∧ high.seq.stopFlag = false ∧ high.cal.loaded = true ∧ conditionOf 6 high ≠ .loadFault
            ∧ roundAway ((391000 - high.force.tare) * high.cal.gain) 1000 = (contactThreshold 8 : Int) - 1
            ∧ roundAway ((392000 - high.force.tare) * high.cal.gain) 1000 = contactThreshold 8)
      ∧ ({ running [] with cancelPending := true }.cancelPending = true ∧ (running []).forceCode = 8)
      ∧ ({ running [] with mode := .deferred }.cancelPending = false ∧ (running []).mode = .immediate)
      ∧ ({ contacted with mark := .some .forceLost }.mark = .some .forceLost ∧ contacted.mark = .none)
      ∧ ((held []).status = .held ∧ (running []).status ≠ .held)
      ∧ (idle.seq.timers.approach = .none ∧ idle.seq.timers.unload = .none ∧ idle.seq.timers.retract = .none)
      ∧ (after (.loadSample 0) { working .tare (.some cp) (running []) with
            force := { ForceMonitor.reset with tareCount := 15 } }).seq.timers.approach.isSome = true
      ∧ (after .stgFault (moving .moveIndent true true false false)).seq.timers.retract.isSome = true
      ∧ abortReasonHeld (after .stgFault (moving .moveIndent true true false false)) = .some .motionFault := by
  and_intros <;> decide +kernel

/-- A front point with no reference, one that stands far enough, and one that stands one short of it: 4·50² = 25·20². -/
theorem witness_FrontPointIsTakenAndSpaced :
    (working .moveIndent .none (running [pt 8, pt 9])).HeadOk
      ∧ ownerOf (working .moveIndent .none (running [pt 8, pt 9])) = .some (running [pt 8, pt 9])
      ∧ (4 * ((1050 - 1000 : Int) ^ 2 + (2000 - 2000) ^ 2) ≥ 25 * (20 : Int) ^ 2)
      ∧ ¬(4 * ((1049 - 1000 : Int) ^ 2 + (2000 - 2000) ^ 2) ≥ 25 * (20 : Int) ^ 2) := by
  and_intros <;> decide +kernel

/-- A cancel pending, a cause pending, a front impression with no mark and with either mark, an empty list closed and open, a store
whose room equals the listed impressions, and one with a record's room more. -/
theorem witness_BoundaryRunsItsSteps :
    (working .unload .none { running [] with cancelPending := true }).HeadOk
      ∧ ownerOf (working .unload .none { running [] with cancelPending := true })
          = .some { running [] with cancelPending := true }
      ∧ (working .unload .none { running [pt 8] with pendingHolds := ⟨true, false⟩ }).HeadOk
      ∧ (listing .none).HeadOk ∧ ownerOf (listing .none) = .some deferred ∧ (listing .none).seq.round = .measure
      ∧ (listing (.some .forceLost)).HeadOk ∧ (listing (.some .interrupted)).HeadOk
      ∧ (running []).points = [] ∧ { running [] with lastReceived := true }.lastReceived = true
      ∧ (running []).lastReceived = false ∧ (running [pt 8]).mode ≠ .deferred
      ∧ ({ working .unload .none (running [pt 8]) with
            store := { ResultStore.reset with nextSeq := 4294965248 } } : State).HeadOk
      ∧ busy.seq.impressions.length < 1024 - busy.store.records.length := by
  and_intros <;> decide +kernel

/-! ## Witnesses: the camera port and the measurement -/

/-- An open bank at a line and a pixel. -/
def openBank (lines pixels : Nat) (inLine : Bool) : Bank :=
  { Bank.reset with role := .filling, lines := lines, pixels := pixels, inLine := inLine }

/-- The part taking a frame into bank 0 in a view phase. -/
def taking (k : Bank) (st : SeqState) (ph : ViewPhase) : State :=
  { working st (.some contacted) (running []) with
    pins := { idle.pins with frameHigh := true, lineHigh := k.inLine }
    cap := { CaptureUnit.reset with bank0 := k, phase := ph, params := .some ⟨64, 400, 6, 100⟩, frameTimer := .some 1000 } }

/-- The part taking a frame into bank 1, bank 0 not open. -/
def takingOne (k : Bank) (st : SeqState) (ph : ViewPhase) : State :=
  let s := taking k st ph
  { s with cap := { s.cap with bank0 := Bank.reset, bank1 := k } }

/-- A frame outside a view, with a bank FREE, with one and with none; the last line and the one after, the last pixel and the 1,281st,
a line short by one pixel, and a LINE high since before the frame, in either bank. -/
theorem witness_FramesAndPixelsAreTaken :
    idle.pins.frameHigh = false ∧ idle.cap.phase ∈ [.none, .handed]
      ∧ (taking Bank.reset .settle .settle).cap.phase ∈ [.settle, .focus]
      ∧ (Bank.reset.role = .free ∧ (openBank 0 0 false).role ≠ .free)
      ∧ ((taking (openBank 1023 0 false) .focus .focus).pins.frameHigh = true ∧ (openBank 1023 0 false).lines < 1024)
      ∧ 1280 ≤ (openBank 5 1280 true).pixels
      ∧ ((openBank 5 1279 true).Ok ∧ (openBank 5 1279 true).pixels < 1280 ∧ (openBank 5 1280 true).Ok)
      ∧ (taking (openBank 5 1279 true) .focus .focus).pins.lineHigh = true
      ∧ ([openBank 1023 0 false, openBank 1024 0 false, openBank 5 1279 true, openBank 5 1280 true].all fun k =>
          decide ((taking k .focus .focus).cap.bank0.isOpen = true ∧ k.Ok ∧ (takingOne k .focus .focus).cap.bank0.isOpen = false
            ∧ (takingOne k .focus .focus).cap.bank1.isOpen = true
            ∧ (takingOne k .focus .focus).cap.params = .some ⟨64, 400, 6, 100⟩)) = true
      ∧ ([taking (openBank 0 0 false) .settle .settle, takingOne (openBank 0 0 false) .settle .settle].all fun s =>
          let s1 : State := { s with pins := { s.pins with lineHigh := true } }
          decide (s1.pins.frameHigh = true ∧ s1.pins.lineHigh = true ∧ s1.cap.openBank.isSome = true
            ∧ (s1.cap.openBank.map fun b => (s1.cap.bank b).inLine) = .some false)) = true := by
  and_intros <;> decide +kernel

/-- In either bank, a frame one line short, one with a line begun, one with LINE high, and whole ones in SETTLE and in FOCUS; then FRAME
low, and a frame that went into no bank. -/
theorem witness_FrameCompletionClosesTheBank :
    ([taking, takingOne].all fun take =>
        [(openBank 1023 0 false, SeqState.settle, ViewPhase.settle), (openBank 1023 7 true, .focus, .focus),
          (openBank 1024 0 false, .settle, .settle), (openBank 1024 0 false, .focus, .focus)].all fun (k, st, ph) =>
          let s := take k st ph
          decide (s.pins.frameHigh = true ∧ (s.cap.openBank.map s.cap.bank) = .some k ∧ s.seq.state = st ∧ s.cap.phase = ph
            ∧ s.pins.lineHigh = k.inLine ∧ k.closed = false)) = true
      ∧ (takingOne (openBank 1024 0 false) .settle .settle).cap.bank0.isOpen = false
      ∧ idle.pins.frameHigh = false
      ∧ (taking Bank.reset .focus .focus).pins.frameHigh = true ∧ (taking Bank.reset .focus .focus).cap.openBank = .none := by
  and_intros <;> decide +kernel

/-- In either bank a first score, a greater one, and an equal one. -/
theorem witness_BestScoreIsKept :
    ([BankId.zero, .one].all fun b =>
        let c (role : BankRole) : CaptureUnit :=
          (CaptureUnit.reset.modBank b fun _ => { openBank 1024 0 false with closed := true, hProfile := (List.range 1280).map (· % 2) })
            |>.modBank b.other fun k => { k with role := role, score := .some 15 }
        decide (((c .best).bank b).role = .filling ∧ ((c .free).bank b.other).role ≠ .best
          ∧ focusScore 8 64 ((c .best).bank b).hProfile = 16 ∧ ((c .best).bank b.other).score.getD 0 < 16)) = true
      ∧ focusScore 64 639 Bank.reset.hProfile ≤ ({ Bank.reset with role := .best, score := .some 0 } : Bank).score.getD 0
      ∧ Bank.reset.hProfile.length = 1280 := by
  and_intros <;> decide +kernel

/-- A bank waiting for its score with a limit and a threshold. -/
def scored (limit threshold : Nat) : State :=
  let s := taking { openBank 1024 0 false with closed := true } .focus .focus
  { s with cap := { s.cap with scoring := [.zero], params := .some ⟨64, 400, limit, threshold⟩ } }

/-- The same with the other bank open, which a hand-over frees. -/
def scoredBeside : State := (scored 1 0).modCap fun c => { c with bank1 := openBank 5 7 true }

/-- A score that reaches the threshold, one below it before the limit, and one below at it; a bank open beside the chosen one; and the
frame timer running in SETTLE and in FOCUS with no score pending, and stopped. -/
theorem witness_FocusEndsOnTheScore :
    ownerOf (scored 1 0) = .some (running []) ∧ (scored 1 0).seq.state = .focus ∧ (scored 1 0).cap.scoring = [.zero]
      ∧ (scored 1 0).seq.stopFlag = false ∧ idle.cap.frameTimer = .none
      ∧ ([(SeqState.settle, ViewPhase.settle), (.focus, .focus)].all fun q =>
          let s := taking (openBank 5 0 false) q.1 q.2
          decide (s.seq.state ∈ [.settle, .focus] ∧ s.seq.stopFlag = false ∧ s.cap.scoring = []
            ∧ s.cap.frameTimer.isSome = true)) = true
      ∧ (((scored 1 1).cap.enterScore .zero ⟨64, 400, 1, 1⟩).framesScored = 1
          ∧ ((scored 1 1).cap.enterScore .zero ⟨64, 400, 1, 1⟩).bestBank = .some .zero
          ∧ (((scored 1 1).cap.enterScore .zero ⟨64, 400, 1, 1⟩).bank .zero).score = .some 0)
      ∧ (scoredBeside.cap.bank1.role = .filling ∧ scoredBeside.cap.scoring = [.zero] ∧ ownerOf scoredBeside = .some (running []))
      ∧ ((0 : Nat) < 1 ∧ (1 : Nat) / 2 ≤ 0 ∧ (0 : Nat) < 2 / 2) := by
  and_intros <;> decide +kernel

/-- A view that fails, with the review on and off and its origin's queue empty and full; and a review that a resume supersedes. -/
theorem witness_FailureOpensAReview :
    ownerOf (working .focus (.some contacted) (running [])) = .some (running [])
      ∧ (working .focus (.some contacted) (running [])).seq.cur = .some contacted
      ∧ (running []).window ≠ 0 ∧ (running []).cancelPending = false ∧ { running [] with window := 0 }.window = 0
      ∧ ((working .focus (.some contacted) (running [])).store.armed .A = true ∧ (running []).threshold ≤ 0 + 1)
      ∧ (reviewing.ReviewOk ∧ reviewing.desk.review = .some ⟨6, 1, .some .A⟩ ∧ ownerOf reviewing = .some (running [pt 8])
          ∧ kept 6 .A .review ∈ reviewing.store.records) := by
  and_intros <;> decide +kernel

/-- The part with the measurement engine at work on a READING bank. -/
def measuring (h v : List Nat) : State :=
  let s := working .measure (.some contacted) (running [])
  { s with
    cap := { s.cap with bank0 := { Bank.reset with role := .reading, hProfile := h, vProfile := v }, phase := .handed }
    engine := .some ⟨engine66, EngineWork.start⟩ }

/-- A bank that measures and a dark one, which is NOT_FOUND. -/
theorem witness_MeasurementIsReported :
    (measuring profileH profileV).cap.readingBank = .some .zero
      ∧ ownerOf (measuring profileH profileV) = .some (running [])
      ∧ (measuring profileH profileV).seq.cur = .some contacted
      ∧ (∃ x, measureReport ⟨engine66, EngineWork.start⟩ profileH profileV = .ok x)
      ∧ (measureReport ⟨{ engine66 with rh := 1 }, EngineWork.start⟩ (List.replicate 1280 0) []).isOk = false := by
  refine ⟨?_, ?_, ?_, profiles_measure, ?_⟩ <;> decide +kernel

/-! ## Witnesses: the arithmetic -/

/-- A dip of so many dark samples from the centre of the horizontal profile on. -/
def dip (n : Nat) : List Nat := List.replicate 638 48000 ++ List.replicate n 9000 ++ List.replicate (642 - n) 48000

/-- The reason for which a profile does not measure; NONE where it does. -/
def profileFailure (inp : EngineInputs) (a : Axis) (P : List Nat) : Reason :=
  match measureProfile inp a P EngineWork.start with
  | .error why => why
  | .ok _ => .none

/-- Both profiles of 6.6 measure; a dark profile is NOT_FOUND, a region inside the dip EDGE_LOST, and a dip of six samples, and an offset
that outweighs the length of one of twelve, TOO_SMALL. -/
theorem witness_ProfileIsMeasured :
    (profileH.length = 1280 ∧ 1 ≤ engine66.rh ∧ engine66.rh + 64 ≤ 1280 / 2 ∧ 1 ≤ engine66.contrast ∧ 8 ≤ engine66.bandW)
      ∧ (∃ w1, measureProfile engine66 .horizontal profileH EngineWork.start = .ok w1)
      ∧ (profileV.length = 1024 ∧ 1 ≤ engine66.rv ∧ engine66.rv + 64 ≤ 1024 / 2)
      ∧ (∃ w1 w2, measureProfile engine66 .vertical profileV w1 = .ok w2)
      ∧ profileFailure { engine66 with rv := 1 } .vertical (List.replicate 1024 0) = .notFound
      ∧ profileFailure { engine66 with rh := 8 } .horizontal profileH = .edgeLost
      ∧ profileFailure { engine66 with rh := 16 } .horizontal (dip 6) = .tooSmall
      ∧ profileFailure { engine66 with rh := 16 } .horizontal (dip 12) = .none
      ∧ profileFailure { engine66 with rh := 16, diagOffset := -42000 } .horizontal (dip 12) = .tooSmall := by
  refine ⟨?_, horizontal_measures, ?_, vertical_measures, ?_, ?_, ?_, ?_, ?_⟩ <;> decide +kernel

/-- A first record below the limit, one after it at the limit, and one that crosses from it; a MANUAL one with a verdict, and ones with
no hardness. -/
theorem witness_RecordsAreReportedToTheirOrder :
    (measured .auto 100 5499 .none).state = .auto ∧ (measured .auto 100 5499 .none).hardness = .some 5499
      ∧ (measured .auto 100 5499 .none).d1 = .some 40000 ∧ (measured .auto 100 5499 .none).d2 = .some 40000
      ∧ (measured .auto 100 5499 .none).verdict = .none ∧ (measured .auto 100 5499 .none).depth = .some 100
      ∧ (5499 < 5500 ∧ 5500 ≤ 5500)
      ∧ (reportRecord (measured .auto 100 5500 .none) { order [] with caseLimit := .some 5500 }).prevMeasured = .some (100, 5500)
      ∧ (100 : Nat) < 200
      ∧ ((measured .manual 100 5499 .low).state = .manual ∧ (order []).caseLimit = .none)
      ∧ ((kept 1 .A .unmeasured).hardness = .none ∧ (kept 1 .A .skipped).hardness = .none) := by
  and_intros <;> decide +kernel

/-! ## The queue -/

/-- No row of the table gives bits, so no word spells a command. -/
theorem test_no_word_spells_a_command : decodeTableWord 8 0x13 = .none := by decide +kernel

/-- With a command in front a step runs it; with none the part idles. -/
theorem test_step_runs_the_front :
    (match step { idle with pending := [.lampTimebaseTick, .stgDone] } with
      | .next t => (t.lamps.phase, t.pending.length)
      | .fault _ => (0, 0)
      | .refused _ => (0, 0)) = (1, 1) := by decide +kernel

end Sys2Proof.Tests
end

/-! # What the sequencer's operations leave

One equation per operation that enters a sequencer state or changes what the sequencer holds; the blocks it leaves as they are
stand in the frame lemmas. -/

namespace Sys2Proof.Proofs.Orders
open Sys2Proof Sys2Proof.Machine

/-! ## The sequencer after entering a state -/

@[simp] theorem enterState_seq (q : SeqState) (s : State) : (enterState q s).seq = { s.seq with state := q } := rfl

@[simp] theorem enterState_force (q : SeqState) (s : State) :
    (enterState q s).force = if q.forcing then s.force else { s.force with setPoint := 0 } := rfl

@[simp] theorem stopMoveTimers_seq (s : State) :
    (stopMoveTimers s).seq = { s.seq with timers := { s.seq.timers with stage := .none, turret := .none } } := rfl

@[simp] theorem stopStarvation_seq (s : State) :
    (stopStarvation s).seq = { s.seq with timers := { s.seq.timers with starvation := .none } } := rfl

@[simp] theorem stopStage_pins (s : State) :
    (stopStage s).pins = if s.seq.stageOutstanding then { s.pins with stage := .stop } else s.pins := by
  unfold stopStage; split <;> rfl

@[simp] theorem enterTare_seq (s : State) : (enterTare s).seq = { s.seq with state := .tare } := rfl

@[simp] theorem enterApproach_seq (s : State) :
    (enterApproach s).seq
      = { s.seq with state := .approach, timers := { s.seq.timers with approach := .some Config.approachMs } } := rfl

@[simp] theorem enterUnload_seq (s : State) :
    (enterUnload s).seq
      = { s.seq with state := .unload, timers := { s.seq.timers with unload := .some Config.unloadMs } } := rfl

@[simp] theorem enterRetract_seq (why : RetractPurpose) (s : State) :
    (enterRetract why s).seq
      = { s.seq with state := .retract, purpose := .some why
                     timers := { s.seq.timers with retract := .some Config.retractMs } } := rfl

@[simp] theorem enterPaused_seq (s : State) : (enterPaused s).seq = { s.seq with state := .paused } := rfl

@[simp] theorem enterAwaitPoints_seq (o : Order) (s : State) :
    (enterAwaitPoints o s).seq
      = { s.seq with state := .awaitPoints
                     timers := { s.seq.timers with starvation := .some (o.starvation * 1000) } } := rfl

@[simp] theorem enterStoreWait_seq (s : State) : (enterStoreWait s).seq = { s.seq with state := .storeWait } := rfl

@[simp] theorem enterSettle_seq (o : Order) (s : State) : (enterSettle o s).seq = { s.seq with state := .settle } := rfl

@[simp] theorem pauseWaiting_seq (s : State) :
    (pauseWaiting s).seq
      = { s.seq with state := .paused, timers := { s.seq.timers with starvation := .none } } := rfl

@[simp] theorem releaseHead_seq (s : State) :
    (releaseHead s).seq
      = { s.seq with state := .idle, cur := .none, impressions := [], round := .indent, purpose := .none
                     stopFlag := false } := rfl

@[simp] theorem releaseHead_arb (s : State) : (releaseHead s).arb = { s.arb with owner := .none } := rfl

@[simp] theorem releaseHead_force (s : State) : (releaseHead s).force = { s.force with setPoint := 0 } := rfl

@[simp] theorem dropCurrent_seq (s : State) : (dropCurrent s).seq = { s.seq with cur := .none } := rfl

@[simp] theorem stopView_seq (s : State) :
    (stopView s).seq
      = { s.seq with cur := s.seq.cur.map fun c => { c with framesUsed := 0, softFocus := false } } := rfl

@[simp] theorem stopView_cap (s : State) : (stopView s).cap = s.cap.stop := rfl

@[simp] theorem stopView_engine (s : State) : (stopView s).engine = .none := rfl

@[simp] theorem flushImpressions_seq (o : Order) (why : Reason) (s : State) :
    (flushImpressions o why s).seq = { s.seq with impressions := [] } := by
  simp [flushImpressions]

@[simp] theorem beginStop_seq (s : State) :
    (beginStop s).seq
      = { s.seq with stopFlag := true
                     timers := { s.seq.timers with stage := .none, turret := .none, approach := .none
                                                   retract := .some Config.retractMs } } := by
  simp [beginStop]

/-- A move changes the timers, the motion and the turret request of the sequencer, and nothing else of it. -/
@[simp] theorem issueMove_seq (n : Nat) (s : State) :
    (issueMove n s).seq.state = s.seq.state ∧ (issueMove n s).seq.cur = s.seq.cur
      ∧ (issueMove n s).seq.impressions = s.seq.impressions ∧ (issueMove n s).seq.round = s.seq.round
      ∧ (issueMove n s).seq.purpose = s.seq.purpose ∧ (issueMove n s).seq.stopFlag = s.seq.stopFlag := by
  unfold issueMove
  split
  · simp
  · dsimp only; split <;> simp

@[simp] theorem enterMoveIndent_seq (o : Order) (s : State) :
    (enterMoveIndent o s).seq.state = .moveIndent ∧ (enterMoveIndent o s).seq.cur = s.seq.cur
      ∧ (enterMoveIndent o s).seq.impressions = s.seq.impressions ∧ (enterMoveIndent o s).seq.round = s.seq.round
      ∧ (enterMoveIndent o s).seq.purpose = s.seq.purpose ∧ (enterMoveIndent o s).seq.stopFlag = s.seq.stopFlag := by
  simp [enterMoveIndent]

@[simp] theorem enterMoveView_seq (o : Order) (s : State) :
    (enterMoveView o s).seq.state = .moveView ∧ (enterMoveView o s).seq.cur = s.seq.cur
      ∧ (enterMoveView o s).seq.impressions = s.seq.impressions ∧ (enterMoveView o s).seq.round = s.seq.round
      ∧ (enterMoveView o s).seq.purpose = s.seq.purpose ∧ (enterMoveView o s).seq.stopFlag = s.seq.stopFlag := by
  simp [enterMoveView]

/-! ## The order table after an update -/

/-- An order that a table of distinct ids holds is the only one of its id. -/
theorem eq_of_id_eq {l : List Order} (h : (l.map (·.id)).Nodup) {a b : Order} (ha : a ∈ l) (hb : b ∈ l) (e : a.id = b.id) :
    a = b := List.inj_on_of_nodup_map h ha hb e

/-- Updating one order twice, the id kept, is one update. -/
theorem updOrder_updOrder (id : Nat) (f g : Order → Order) (hf : ∀ o, (f o).id = o.id) (s : State) :
    updOrder id g (updOrder id f s) = updOrder id (g ∘ f) s := by
  simp only [updOrder, State.modTable, List.map_map, State.mk.injEq, OrderTable.mk.injEq, true_and, and_true]
  refine List.map_congr_left fun o _ => ?_
  simp only [Function.comp]
  by_cases h : o.id = id <;> simp [h, hf]

/-- The order of an id after an update of that id. -/
theorem findOrder_updOrder (id : Nat) (f : Order → Order) (hf : ∀ o, (f o).id = o.id) (s : State) :
    findOrder id (updOrder id f s) = (findOrder id s).map f := by
  simp only [findOrder, updOrder_orders]
  generalize s.table.orders = l
  induction l with
  | nil => rfl
  | cons a l ih =>
    by_cases h : a.id = id <;> simp [h, hf, ih]

/-- The order that holds the head after an update that keeps ids. -/
theorem ownerOf_updOrder {id : Nat} {f : Order → Order} (hf : ∀ o, (f o).id = o.id) {s : State}
    (h : s.arb.owner = .some id) : ownerOf (updOrder id f s) = (ownerOf s).map f := by
  simp [ownerOf, h, findOrder_updOrder id f hf]

/-- What holds of every order after an update: of the one updated what the update makes so, of the others what was so. -/
theorem forall_updOrder {id : Nat} {f : Order → Order} {s : State} {p : Order → Prop}
    (hf : ∀ o ∈ s.table.orders, o.id = id → p (f o)) (h : ∀ o ∈ s.table.orders, o.id ≠ id → p o) :
    ∀ o ∈ (updOrder id f s).table.orders, p o := by
  simp only [updOrder_orders, List.mem_map]
  rintro _ ⟨o, ho, rfl⟩
  split
  · next e => exact hf o ho e
  · next e => exact h o ho e

end Sys2Proof.Proofs.Orders

/-! # The accounts of the head

The invariants of the head, the pool and the counts are one family: the head in order, and over it the pool balanced or the counts
balanced.  `Inv P C` is the head in order, the pool balanced where `P` holds and the counts balanced where `C` does, so that each
operation is walked through once for the three.  `Inv P C` falls into `Books P C n`, which speaks of the table, the owner, the pool,
the store and the desk and numbers the points in hand `n`, into `SeqFits P C`, which speaks of the sequencer, and into `StopFits`, which
speaks of the stop flag. -/

namespace Sys2Proof.Proofs.Orders
open Sys2Proof Sys2Proof.Machine

/-! ## The books -/

/-- An order fits the owner: it is RUNNING or HELD exactly when it holds the head, and then HELD exactly when it has a cause. -/
structure OrderFits (owner : Option Nat) (o : Order) : Prop where
  active : (o.status = .running ∨ o.status = .held) ↔ owner = .some o.id
  held : owner = .some o.id → (o.status = .held ↔ o.holds.any = true)

/-- The table fits the owner (R2, R7, R11). -/
structure HeadFits (owner : Option Nat) (l : List Order) : Prop where
  slots : l.length ≤ 8
  ids : (l.map (·.id)).Nodup
  holder : owner = .none ∨ ∃ o ∈ l, owner = .some o.id
  fits : ∀ o ∈ l, OrderFits owner o

/-- The number of points in the lists of the orders. -/
def listed (l : List Order) : Nat := (l.map (·.points.length)).sum

/-- An ENDED order lists no point and has its summary. -/
def EndClean (o : Order) : Prop := o.status = .ended → o.points = [] ∧ o.summary.isSome = true

/-- The pool is balanced over the table (R29, R30). -/
structure PoolFits (free : Nat) (l : List Order) : Prop where
  total : free + listed l = 512
  ended : ∀ o ∈ l, EndClean o

/-- The store in order, as `State.StoreOk` says it. -/
structure StoreFits (t : ResultStore) : Prop where
  increase : (t.records.map (·.seq)).Pairwise (· < ·)
  below : ∀ r ∈ t.records, r.seq < t.nextSeq
  waitA : t.waitingA = t.records.countP (·.origin = .A)
  waitB : t.waitingB = t.records.countP (·.origin = .B)

/-- The desk over the records: its window runs exactly with a review, whose record is the one in state REVIEW and whose order holds
the head. -/
structure DeskFits (owner : Option Nat) (records : List Record) (d : ReviewDesk) : Prop where
  window : d.window.isSome = d.review.isSome
  state : ∀ r ∈ records, r.state = .review ↔ d.review.map (·.seq) = .some r.seq
  review : ∀ v ∈ d.review, owner = .some v.orderId ∧ v.seq ∈ records.map (·.seq)

/-- The number of final records that an order's counts give. -/
def finals (c : Counts) : Nat := c.auto + c.manual + c.unmeasured + c.skipped

/-- The taken count of an order is its final records and, of the owner, the `n` points in hand (R148). -/
def CountFits (owner : Option Nat) (n : Nat) (o : Order) : Prop :=
  o.counts.taken = finals o.counts + if owner = .some o.id then n else 0

/-- The books of the head: the table, with the pool where `P` and the store, the desk and the counts where `C`, with `n` points in
hand. -/
structure Books (P C : Prop) (n : Nat) (s : State) : Prop where
  head : HeadFits s.arb.owner s.table.orders
  pool : P → PoolFits s.poolFree s.table.orders
  store : C → StoreFits s.store
  desk : C → DeskFits s.arb.owner s.store.records s.desk
  counts : C → ∀ o ∈ s.table.orders, CountFits s.arb.owner n o

/-- The points in hand: the current point, the listed impressions and the record in REVIEW. -/
def handTotal (s : State) : Nat := inHand s + s.seq.impressions.length + if s.desk.review.isSome then 1 else 0

/-! ## The sequencer beside the books -/

/-- No impression is listed for an owner in IMMEDIATE mode (R40). -/
def ModeFits (s : State) : Prop :=
  ∀ o ∈ s.table.orders, s.arb.owner = .some o.id → o.mode = .immediate → s.seq.impressions = []

/-- The sequencer agrees with the owner, and where `P` the reserve is covered, where `C` the point in hand and the review are where the
sequencer's state has them. -/
structure SeqFits (P C : Prop) (s : State) : Prop where
  idle : s.arb.owner = .none ↔ s.seq.state = .idle
  bare : s.arb.owner = .none → s.seq.cur = .none ∧ s.seq.impressions = []
  reserve : P → returnReserve s ≤ s.poolFree
  point : C → s.seq.state.holdsPoint = true → s.seq.cur.isSome = true
  noPoint : C → s.seq.state.holdsNone = true → s.seq.cur = .none
  purpose : C → (s.seq.purpose.isSome = true ↔ s.seq.state = .retract)
  keeps : C → s.seq.purpose.any RetractPurpose.keepsPoint = true → s.seq.cur.isSome = true
  review : C → (s.desk.review.isSome = true ↔ s.seq.state = .reviewWait)
  await : C → s.seq.state = .awaitPoints → s.seq.impressions = []
  mode : C → ModeFits s

/-- The stop flag stands only for an owner, in the states of R62. -/
structure StopFits (s : State) : Prop where
  bare : s.arb.owner = .none → s.seq.stopFlag = false
  stop : s.seq.stopFlag = true → s.seq.state.stoppable = true

/-- The head in order but for the stop flag, the pool balanced where `P`, the counts balanced where `C`. -/
structure Rest (P C : Prop) (s : State) : Prop where
  books : Books P C (handTotal s) s
  seq : SeqFits P C s

/-- The head in order, the pool balanced where `P`, the counts balanced where `C`. -/
structure Inv (P C : Prop) (s : State) : Prop extends Rest P C s where
  stop : StopFits s

variable {P C : Prop} {n : Nat} {s t : State}

theorem storeOk_iff : s.StoreOk ↔ StoreFits s.store :=
  ⟨fun ⟨a, b, c, d⟩ => ⟨a, b, c, d⟩, fun ⟨a, b, c, d⟩ => ⟨a, b, c, d⟩⟩

/-- The owner of a table whose holder is in it is found. -/
theorem ownerOf_isSome_iff (h : (s.table.orders.map (·.id)).Nodup) :
    (ownerOf s).isSome = true ↔ ∃ o ∈ s.table.orders, s.arb.owner = .some o.id := by
  constructor
  · intro e
    obtain ⟨o, ho⟩ := Option.isSome_iff_exists.1 e
    exact ⟨o, ownerOf_some ho⟩
  · rintro ⟨o, ho, e⟩
    simp [ownerOf, e, findOrder_eq h ho]

/-- `State.HeadOk` in its parts. -/
theorem headOk_iff : s.HeadOk ↔ Inv False False s := by
  constructor
  · rintro ⟨h1, h2, h3, h4, h5, h6, h7, h8⟩
    have head : HeadFits s.arb.owner s.table.orders :=
      ⟨h1, h2, h3.imp_right (ownerOf_isSome_iff h2).1, fun o ho => ⟨h4 o ho, h5 o ho⟩⟩
    exact ⟨⟨⟨head, nofun, nofun, nofun, nofun⟩, ⟨h6, fun h => ⟨(h7 h).1, (h7 h).2.1⟩, nofun, nofun, nofun, nofun, nofun, nofun,
      nofun, nofun⟩⟩, ⟨fun h => (h7 h).2.2, h8⟩⟩
  · rintro ⟨⟨⟨⟨h1, h2, h3, h4⟩, -⟩, hs⟩, hstop⟩
    exact ⟨h1, h2, h3.imp_right (ownerOf_isSome_iff h2).2, fun o ho => (h4 o ho).active, fun o ho => (h4 o ho).held, hs.idle,
      fun h => ⟨(hs.bare h).1, (hs.bare h).2, hstop.bare h⟩, hstop.stop⟩

/-- The head in order is the least of the family. -/
theorem Inv.weaken (h : Inv P C s) : Inv False False s :=
  ⟨⟨⟨h.books.head, nofun, nofun, nofun, nofun⟩, ⟨h.seq.idle, h.seq.bare, nofun, nofun, nofun, nofun, nofun, nofun, nofun, nofun⟩⟩,
    h.stop⟩

/-- `State.PoolOk` as a member of the family. -/
theorem poolOk_iff : s.PoolOk ↔ Inv True False s := by
  constructor
  · rintro ⟨hh, h1, h2, h3⟩
    have h := headOk_iff.1 hh
    exact ⟨⟨⟨h.books.head, fun _ => ⟨h1, h3⟩, nofun, nofun, nofun⟩,
      ⟨h.seq.idle, h.seq.bare, fun _ => h2, nofun, nofun, nofun, nofun, nofun, nofun, nofun⟩⟩, h.stop⟩
  · intro h
    have hp := h.books.pool trivial
    exact ⟨headOk_iff.2 h.weaken, hp.total, h.seq.reserve trivial, hp.ended⟩

/-- `State.CountsOk` as a member of the family. -/
theorem countsOk_iff : s.CountsOk ↔ Inv False True s := by
  constructor
  · rintro ⟨⟨⟨hh, p1, p2, p3, p4⟩, hst, r1, r2, r3, r4⟩, ha, hc⟩
    have h := headOk_iff.1 hh
    exact ⟨⟨⟨h.books.head, nofun, fun _ => storeOk_iff.1 hst, fun _ => ⟨r2, r3, r4⟩, fun _ o ho => (hc o ho).2⟩,
      ⟨h.seq.idle, h.seq.bare, nofun, fun _ => p1, fun _ => p2, fun _ => p3, fun _ => p4, fun _ => r1, fun _ => ha,
        fun _ o ho => (hc o ho).1⟩⟩, h.stop⟩
  · intro h
    have hs := h.seq
    have hd := h.books.desk trivial
    exact ⟨⟨⟨headOk_iff.2 h.weaken, hs.point trivial, hs.noPoint trivial, hs.purpose trivial, hs.keeps trivial⟩,
      storeOk_iff.2 (h.books.store trivial), hs.review trivial, hd.window, hd.state, hd.review⟩,
      hs.await trivial, fun o ho => ⟨hs.mode trivial o ho, h.books.counts trivial o ho⟩⟩

/-! ## Carrying the books over -/

/-- Two states that the books do not tell apart: the same orders, owner, pool, store and desk. -/
structure SameHead (s t : State) : Prop where
  orders : t.table.orders = s.table.orders
  owner : t.arb.owner = s.arb.owner
  pool : t.poolFree = s.poolFree
  store : t.store = s.store
  desk : t.desk = s.desk

theorem SameHead.trans {u : State} (h : SameHead s t) (k : SameHead t u) : SameHead s u :=
  ⟨k.orders.trans h.orders, k.owner.trans h.owner, k.pool.trans h.pool, k.store.trans h.store, k.desk.trans h.desk⟩

/-- The books speak of the orders, the owner, the pool, the store and the desk alone. -/
theorem Books.congr (h : Books P C n s) (e : SameHead s t) : Books P C n t := by
  obtain ⟨eo, ea, ep, es, ed⟩ := e
  constructor
  · rw [eo, ea]; exact h.head
  · rw [eo, ep]; exact h.pool
  · rw [es]; exact h.store
  · rw [ea, es, ed]; exact h.desk
  · rw [eo, ea]; exact h.counts

/-- The order that holds the head, as the books have it. -/
theorem Books.owner_mem (h : Books P C n s) (ho : s.arb.owner ≠ .none) : ∃ o ∈ s.table.orders, s.arb.owner = .some o.id :=
  h.head.holder.resolve_left ho

theorem HeadFits.map {owner owner' : Option Nat} {l : List Order} {g : Order → Order} (h : HeadFits owner l)
    (hid : ∀ o ∈ l, (g o).id = o.id) (hh : owner' = .none ∨ ∃ o ∈ l, owner' = .some o.id)
    (hf : ∀ o ∈ l, OrderFits owner' (g o)) : HeadFits owner' (l.map g) := by
  refine ⟨by simpa using h.slots, ?_, hh.imp_right ?_, ?_⟩
  · rw [List.map_map, List.map_congr_left (f := (·.id) ∘ g) (g := (·.id)) hid]; exact h.ids
  · rintro ⟨o, ho, e⟩; exact ⟨g o, List.mem_map_of_mem ho, by rw [hid o ho, e]⟩
  · simpa using hf

/-- The listed points change as those of the one order updated do. -/
theorem listed_update {l : List Order} {o : Order} {f : Order → Order} (hn : (l.map (·.id)).Nodup) (ho : o ∈ l) :
    listed (l.map fun x => if x.id = o.id then f x else x) + o.points.length = listed l + (f o).points.length := by
  induction l with
  | nil => simp at ho
  | cons a l ih =>
    simp only [List.map_cons, List.nodup_cons, List.mem_map, not_exists, not_and] at hn
    rcases List.mem_cons.1 ho with rfl | hm
    · have hrest : (l.map fun x => if x.id = o.id then f x else x) = l := by
        conv_rhs => rw [← List.map_id l]
        exact List.map_congr_left fun x hx => if_neg (hn.1 x hx)
      simp only [List.map_cons, hrest, listed, List.sum_cons]
      simp; omega
    · have hne : a.id ≠ o.id := fun e => hn.1 o hm e.symm
      have := ih hn.2 hm
      simp only [listed, List.map_cons, List.sum_cons, hne, if_false] at this ⊢
      omega

theorem listed_map {l : List Order} {g : Order → Order} (h : ∀ o ∈ l, (g o).points = o.points) :
    listed (l.map g) = listed l := by
  simp only [listed, List.map_map]
  exact congrArg List.sum (List.map_congr_left fun o ho => by simp [h o ho])

/-- One order `o` of the table is updated, and `t` differs in the books by that, by the pool, and by what its store and desk say:
what the new order must meet. -/
theorem Books.update {o : Order} {f : Order → Order} {m : Nat} (h : Books P C n s) (ho : o ∈ s.table.orders)
    (et : t.table.orders = s.table.orders.map fun x => if x.id = o.id then f x else x) (ea : t.arb.owner = s.arb.owner)
    (hid : (f o).id = o.id) (hfit : OrderFits s.arb.owner (f o))
    (hpool : P → t.poolFree + (f o).points.length = s.poolFree + o.points.length ∧ EndClean (f o))
    (hcount : C → CountFits s.arb.owner m (f o) ∧ (m = n ∨ s.arb.owner = .some o.id))
    (hstore : C → StoreFits t.store) (hdesk : C → DeskFits s.arb.owner t.store.records t.desk) : Books P C m t := by
  have only : ∀ x ∈ s.table.orders, x.id = o.id → x = o := fun x hx e => eq_of_id_eq h.head.ids hx ho e
  have all {p : Order → Prop} (hf : p (f o)) (hx : ∀ x ∈ s.table.orders, x.id ≠ o.id → p x) :
      ∀ x ∈ t.table.orders, p x := by
    rw [et]
    exact forall_updOrder (s := s) (fun x hx e => by rw [only x hx e]; exact hf) hx
  constructor
  · rw [et, ea]
    refine h.head.map (fun x hx => ?_) h.head.holder fun x hx => ?_
    · split
      · next e => rw [only x hx e]; exact hid
      · rfl
    · split
      · next e => rw [only x hx e]; exact hfit
      · exact h.head.fits x hx
  · intro hP
    obtain ⟨h1, h2⟩ := hpool hP
    refine ⟨?_, all h2 fun x hx _ => (h.pool hP).ended x hx⟩
    have := listed_update (f := f) h.head.ids ho
    have := (h.pool hP).total
    rw [et]; omega
  · exact hstore
  · rw [ea]; exact hdesk
  · intro hC
    obtain ⟨h1, h2⟩ := hcount hC
    rw [ea]
    refine all h1 fun x hx hne => ?_
    have := h.counts hC x hx
    rcases h2 with rfl | h2
    · exact this
    · have hx' : s.arb.owner ≠ .some x.id := by rw [h2]; simpa using hne.symm
      simpa [CountFits, hx'] using this

/-- What the books know of an order beside its fitting the owner stands in another; the counts only where `C`. -/
structure Carries (C : Prop) (a b : Order) : Prop where
  id : b.id = a.id
  points : b.points = a.points
  ended : EndClean a → EndClean b
  counts : C → b.counts = a.counts

/-- Every order of the table is replaced by one that carries what the books know and fits the owner. -/
theorem Books.map {g : Order → Order} (h : Books P C n s) (hg : ∀ o ∈ s.table.orders, Carries C o (g o))
    (hfit : ∀ o ∈ s.table.orders, OrderFits s.arb.owner (g o)) (et : t.table.orders = s.table.orders.map g)
    (ea : t.arb.owner = s.arb.owner) (ep : t.poolFree = s.poolFree) (hstore : C → StoreFits t.store)
    (hdesk : C → DeskFits s.arb.owner t.store.records t.desk) : Books P C n t := by
  constructor
  · rw [et, ea]
    exact h.head.map (fun o ho => (hg o ho).id) h.head.holder hfit
  · intro hP
    rw [et, ep]
    refine ⟨by rw [listed_map fun o ho => (hg o ho).points]; exact (h.pool hP).total, ?_⟩
    simp only [List.mem_map, forall_exists_index, and_imp, forall_apply_eq_imp_iff₂]
    exact fun o ho => (hg o ho).ended ((h.pool hP).ended o ho)
  · exact hstore
  · rw [ea]; exact hdesk
  · intro hC
    rw [et, ea]
    simp only [List.mem_map, forall_exists_index, and_imp, forall_apply_eq_imp_iff₂, CountFits]
    intro o ho
    rw [(hg o ho).counts hC, (hg o ho).id]; exact h.counts hC o ho

/-- Two orders that the books do not tell apart, but for the counts where not `C`. -/
structure SameBooks (C : Prop) (a b : Order) : Prop where
  id : b.id = a.id
  status : b.status = a.status
  holds : b.holds = a.holds
  points : b.points = a.points
  summary : b.summary = a.summary
  mode : b.mode = a.mode
  counts : C → b.counts = a.counts

theorem SameBooks.carries {a b : Order} (h : SameBooks C a b) : Carries C a b :=
  ⟨h.id, h.points, fun e => by unfold EndClean; rw [h.status, h.points, h.summary]; exact e, h.counts⟩

theorem OrderFits.same {owner : Option Nat} {a b : Order} (h : OrderFits owner a) (e : SameBooks C a b) : OrderFits owner b :=
  ⟨by rw [e.status, e.id]; exact h.active, by rw [e.status, e.id, e.holds]; exact h.held⟩

/-- Every order of the table is replaced by one that the books do not tell from it. -/
theorem Books.mapSame {g : Order → Order} (h : Books P C n s) (hg : ∀ o ∈ s.table.orders, SameBooks C o (g o))
    (et : t.table.orders = s.table.orders.map g) (ea : t.arb.owner = s.arb.owner) (ep : t.poolFree = s.poolFree)
    (es : t.store = s.store) (ed : t.desk = s.desk) : Books P C n t :=
  h.map (fun o ho => (hg o ho).carries) (fun o ho => (h.head.fits o ho).same (hg o ho)) et ea ep (by rw [es]; exact h.store)
    (by rw [es, ed]; exact h.desk)

/-! ## Writing a record -/

/-- What reporting a record to its order leaves of the order: everything the books know but its counts. -/
@[simp] theorem reportRecord_rest (r : Record) (o : Order) :
    (reportRecord r o).id = o.id ∧ (reportRecord r o).origin = o.origin ∧ (reportRecord r o).status = o.status
      ∧ (reportRecord r o).holds = o.holds ∧ (reportRecord r o).points = o.points ∧ (reportRecord r o).summary = o.summary
      ∧ (reportRecord r o).mode = o.mode ∧ (reportRecord r o).counts = countRecord r o.counts := by
  unfold reportRecord evaluateCaseDepth caseDepthStep
  dsimp only
  repeat' split
  all_goals simp

/-- A final record adds one to the final records, and takes nothing. -/
theorem countRecord_final {r : Record} (hr : r.state ≠ .review) (c : Counts) :
    finals (countRecord r c) = finals c + 1 ∧ (countRecord r c).taken = c.taken
      ∧ (countRecord r c).discarded = c.discarded := by
  unfold countRecord finals
  cases hs : r.state <;> cases r.verdict <;> simp_all <;> omega

/-- The orders after a write: the one written for has noted the sequence number and, of a final record, the report. -/
theorem writeRecord_orders (o : Order) (r : Record) (s : State) :
    (writeRecord o r s).table.orders = s.table.orders.map fun x => if x.id = o.id then
      (if r.state = .review then noteSeq s.store.nextSeq x
       else reportRecord { r with seq := s.store.nextSeq } (noteSeq s.store.nextSeq x)) else x := by
  unfold writeRecord
  dsimp only
  split
  · next h => simp
  · next h =>
    simp only [updOrder_orders, countWaiting_frame, appendRecord_frame, List.map_map]
    refine List.map_congr_left fun x _ => ?_
    by_cases e : x.id = o.id <;> simp [e, noteSeq]

/-- A write keeps the store in order, where the record carries its order's port. -/
theorem StoreFits.writeRecord {o : Order} {r : Record} (h : StoreFits s.store) (hr : r.origin = o.origin) :
    StoreFits (writeRecord o r s).store := by
  obtain ⟨e1, e2, e3, e4⟩ := writeRecord_store o r s
  constructor
  · rw [e1, List.map_append, List.pairwise_append]
    exact ⟨h.increase, by simp, by simpa using h.below⟩
  · rw [e1, e2]
    intro x hx
    rcases List.mem_append.1 hx with hx | hx
    · have := h.below x hx; omega
    · simp_all
  · rw [e1, e3, h.waitA, List.countP_append]
    cases ho : o.origin <;> simp [hr, ho]
  · rw [e1, e4, h.waitB, List.countP_append]
    cases ho : o.origin <;> simp [hr, ho]

/-- A new record that is no review leaves the desk over its records. -/
theorem DeskFits.append {owner : Option Nat} {t : ResultStore} {d : ReviewDesk} {r : Record} (h : DeskFits owner t.records d)
    (hs : StoreFits t) (hr : r.state ≠ .review) (hq : r.seq = t.nextSeq) : DeskFits owner (t.records ++ [r]) d := by
  refine ⟨h.window, fun x hx => ?_, fun v hv => ?_⟩
  · rcases List.mem_append.1 hx with hx | hx
    · exact h.state x hx
    · obtain rfl : x = r := by simpa using hx
      refine iff_of_false hr fun e => ?_
      obtain ⟨v, hv, he⟩ := Option.map_eq_some_iff.1 e
      obtain ⟨y, hy, hys⟩ := List.mem_map.1 (h.review v hv).2
      have := hs.below y hy
      omega
  · obtain ⟨h1, h2⟩ := h.review v hv
    exact ⟨h1, by rw [List.map_append]; exact List.mem_append_left _ h2⟩

/-- Writing a final record for the owner turns a point in hand into a final record (R140, R148). -/
theorem Books.writeRecord {o : Order} {r : Record} (h : Books P C (n + 1) s) (ho : s.arb.owner = .some o.id)
    (hr : r.state ≠ .review) (hp : r.origin = o.origin) : Books P C n (writeRecord o r s) := by
  obtain ⟨x, hx, hxo⟩ := h.owner_mem (by simp [ho])
  have hid : x.id = o.id := by simpa [ho] using hxo.symm
  have hfit := h.head.fits x hx
  refine h.update hx (f := fun x => reportRecord { r with seq := s.store.nextSeq } (noteSeq s.store.nextSeq x))
    (by rw [writeRecord_orders]; simp [hr, hid]) (by simp) (by simp [noteSeq]) ?_ ?_ ?_ ?_ ?_
  · exact ⟨by simpa [noteSeq] using hfit.active, by simpa [noteSeq] using hfit.held⟩
  · intro hP
    exact ⟨by simp [noteSeq], by simpa [EndClean, noteSeq] using (h.pool hP).ended x hx⟩
  · intro hC
    have hc := h.counts hC x hx
    obtain ⟨h1, h2, -⟩ := countRecord_final (r := { r with seq := s.store.nextSeq }) hr x.counts
    refine ⟨?_, .inr hxo⟩
    simp only [CountFits, hxo, if_true] at hc
    simp [CountFits, noteSeq, h1, h2, hc, hxo]; omega
  · exact fun hC => (h.store hC).writeRecord hp
  · intro hC
    rw [(writeRecord_store o r s).1, (writeRecord_frame o r s).2.2.2.2.2.2.2.1]
    exact (h.desk hC).append (h.store hC) (by exact hr) rfl

end Sys2Proof.Proofs.Orders

/-! # The books after each shared operation -/

namespace Sys2Proof.Proofs.Orders
open Sys2Proof Sys2Proof.Machine

variable {P C : Prop} {n : Nat} {s t : State}

/-- The number in hand counts only where `C`. -/
theorem Books.hand {m : Nat} (h : Books P C n s) (e : C → m = n) : Books P C m s :=
  ⟨h.head, h.pool, h.store, h.desk, fun hC => by rw [e hC]; exact h.counts hC⟩

/-- The owner is in the table under its id. -/
theorem Books.owner_find (h : Books P C n s) {id : Nat} (ho : s.arb.owner = .some id) :
    ∃ o ∈ s.table.orders, o.id = id ∧ findOrder id s = .some o := by
  obtain ⟨o, hm, e⟩ := h.owner_mem (by simp [ho])
  obtain rfl : id = o.id := by simpa [ho] using e
  exact ⟨o, hm, rfl, findOrder_eq h.head.ids hm⟩

/-! ## The point list of an order -/

/-- The point list of the order of an id. -/
def pointsOf (id : Nat) (s : State) : Option (List Point) := (findOrder id s).map (·.points)

/-- The order of an id in a table changed order by order, ids kept. -/
theorem findOrder_of_map {g : Order → Order} (hg : ∀ o, (g o).id = o.id) (e : t.table.orders = s.table.orders.map g)
    (id : Nat) : findOrder id t = (findOrder id s).map g := by
  simp only [findOrder, e]
  generalize s.table.orders = l
  induction l with
  | nil => rfl
  | cons a l ih => by_cases h : a.id = id <;> simp [h, hg, ih]

theorem pointsOf_of_map {g : Order → Order} (hg : ∀ o, (g o).id = o.id) (hp : ∀ o, (g o).points = o.points)
    (e : t.table.orders = s.table.orders.map g) (id : Nat) : pointsOf id t = pointsOf id s := by
  rw [pointsOf, findOrder_of_map hg e, pointsOf, Option.map_map]
  exact congrArg (Option.map · _) (funext hp)

@[simp] theorem pointsOf_writeRecord (id : Nat) (o : Order) (r : Record) (s : State) :
    pointsOf id (writeRecord o r s) = pointsOf id s := by
  refine pointsOf_of_map (fun x => ?_) (fun x => ?_) (writeRecord_orders o r s) id
  · split
    · split <;> simp [noteSeq]
    · rfl
  · split
    · split <;> simp [noteSeq]
    · rfl

@[simp] theorem pointsOf_recordImpressions (id : Nat) (o : Order) (why : Reason) (l : List Impression) (s : State) :
    pointsOf id (recordImpressions o why l s) = pointsOf id s := by
  induction l generalizing s with
  | nil => rfl
  | cons i l ih => simp [recordImpressions, ih]

@[simp] theorem pointsOf_flushImpressions (id : Nat) (o : Order) (why : Reason) (s : State) :
    pointsOf id (flushImpressions o why s) = pointsOf id s := pointsOf_recordImpressions id o why _ s

@[simp] theorem pointsOf_recordCurrent (id : Nat) (o : Order) (st : RecState) (why : Reason) (s : State) :
    pointsOf id (recordCurrent o st why s) = pointsOf id s := by
  rcases recordCurrent_cases o st why s with ⟨-, e⟩ | ⟨c, -, e⟩
  · rw [e]
  · rw [e]; exact pointsOf_writeRecord id o _ s

/-! ## Recording what is in hand -/

/-- Recording the current point of the owner finally takes it out of the hand. -/
theorem Books.recordCurrent {o : Order} {st : RecState} {why : Reason} (h : Books P C (n + inHand s) s)
    (ho : s.arb.owner = .some o.id) (hst : st ≠ .review) : Books P C n (recordCurrent o st why s) := by
  rcases recordCurrent_cases o st why s with ⟨hc, e⟩ | ⟨c, hc, e⟩
  · rw [e]; simpa [inHand, hc] using h
  · rw [e]
    have h' : Books P C (n + 1) s := by simpa [inHand, hc] using h
    exact (h'.writeRecord ho (r := recordOf o c st why s) hst rfl).congr ⟨rfl, rfl, rfl, rfl, rfl⟩

theorem Books.recordImpressions {o : Order} {why : Reason} (l : List Impression) (h : Books P C (n + l.length) s)
    (ho : s.arb.owner = .some o.id) : Books P C n (recordImpressions o why l s) := by
  induction l generalizing s with
  | nil => exact h
  | cons i l ih =>
    refine ih (Books.writeRecord h ho (by simp [recordOf]) rfl) ?_
    simpa using ho

/-- Recording every listed impression takes them out of the hand. -/
theorem Books.flushImpressions {o : Order} {why : Reason} (h : Books P C (n + s.seq.impressions.length) s)
    (ho : s.arb.owner = .some o.id) : Books P C n (flushImpressions o why s) :=
  (h.recordImpressions (why := why) _ ho).congr ⟨rfl, rfl, rfl, rfl, rfl⟩

/-- An order that loses its listed points unrecorded. -/
def discarding (o : Order) : Order :=
  { o with points := [], counts := { o.counts with discarded := o.counts.discarded + o.points.length } }

theorem discardPoints_eq (o : Order) (s : State) :
    discardPoints o s = updOrder o.id discarding (s.setPoolFree (s.poolFree + o.points.length)) := rfl

/-- Discarding an order's points returns them to the pool. -/
theorem Books.discardPoints {o : Order} (h : Books P C n s) (hp : pointsOf o.id s = .some o.points) :
    Books P C n (discardPoints o s) ∧ pointsOf o.id (discardPoints o s) = .some [] := by
  obtain ⟨x, hf, hx⟩ := Option.map_eq_some_iff.1 hp
  obtain ⟨hm, hid⟩ := findOrder_some hf
  constructor
  · refine h.update (t := Machine.discardPoints o s) hm
      (f := discarding)
      (by rw [hid]; rfl) rfl rfl ⟨(h.head.fits x hm).active, (h.head.fits x hm).held⟩ (fun hP => ?_)
      (fun hC => ⟨h.counts hC x hm, .inl rfl⟩) h.store h.desk
    exact ⟨by simp [discardPoints_eq, discarding, hx], fun e => ⟨rfl, ((h.pool hP).ended x hm e).2⟩⟩
  · rw [pointsOf, discardPoints_eq, findOrder_updOrder _ discarding fun _ => rfl]
    simp [hf, discarding]

/-! ## The end of an order -/

@[simp] theorem setArmed_rest (t : ResultStore) (p : Port) (b : Bool) :
    (t.setArmed p b).records = t.records ∧ (t.setArmed p b).nextSeq = t.nextSeq ∧ (t.setArmed p b).waitingA = t.waitingA
      ∧ (t.setArmed p b).waitingB = t.waitingB ∧ (∀ q, (t.setArmed p b).waiting q = t.waiting q) := by
  cases p <;> simp [ResultStore.setArmed, ResultStore.waiting]

theorem StoreFits.setArmed {u : ResultStore} (h : StoreFits u) (p : Port) (b : Bool) : StoreFits (u.setArmed p b) := by
  obtain ⟨h1, h2, h3, h4⟩ := h
  exact ⟨by simpa using h1, by simpa using h2, by simpa using h3, by simpa using h4⟩

/-- An order as `endOrder` leaves it (R9). -/
def ending (out : OrderOutcome) (why : Option AbortReason) (o : Order) : Order :=
  { o with status := .ended, outcome := .some out, abortReason := why, holds := Holds.none
           pendingHolds := PendingHolds.none, cancelPending := false, summary := .some (summaryOf o out why) }

/-- The orders and the store after an order's end. -/
theorem endOrder_effect {id : Nat} {o : Order} (out : OrderOutcome) (why : Option AbortReason) (h : findOrder id s = .some o) :
    (endOrder id out why s).table.orders = s.table.orders.map (fun x => if x.id = id then ending out why x else x)
      ∧ (endOrder id out why s).store = s.store.setArmed o.origin false := by
  simp [endOrder, h, ending]

theorem ending_fits {out : OrderOutcome} {why : Option AbortReason} {owner : Option Nat} {o : Order}
    (h : owner ≠ .some o.id) : OrderFits owner (ending out why o) := ⟨by simpa [ending] using h, fun e => absurd e h⟩

/-- An OPEN order with no point ends, and the head is not concerned. -/
theorem Books.endOpened {id : Nat} {out : OrderOutcome} {why : Option AbortReason} {o : Order} (h : Books P C n s)
    (hf : findOrder id s = .some o) (ho : o.status = .opened) (hp : P → o.points = []) :
    Books P C n (endOrder id out why s) := by
  obtain ⟨hm, rfl⟩ := findOrder_some hf
  obtain ⟨e1, e2⟩ := endOrder_effect out why hf
  have hne : s.arb.owner ≠ .some o.id := fun e => by simpa [ho] using (h.head.fits o hm).active.2 e
  refine h.update hm (f := ending out why) e1 (by simp) rfl (ending_fits hne) (fun hP => ?_)
    (fun hC => ⟨h.counts hC o hm, .inl rfl⟩) (fun hC => by rw [e2]; exact (h.store hC).setArmed _ _) (fun hC => ?_)
  · exact ⟨by simp [ending], fun _ => ⟨hp hP, rfl⟩⟩
  · rw [e2, (setArmed_rest s.store o.origin false).1, (endOrder_frame o.id out why s).2.2.2.2.2.2.2.1]
    exact h.desk hC

/-- The owner `o` stops holding the head, with nothing in hand and no review open. -/
theorem Books.release {o : Order} {f : Order → Order} (h : Books P C 0 s) (hm : o ∈ s.table.orders)
    (ho : s.arb.owner = .some o.id) (et : t.table.orders = s.table.orders.map fun x => if x.id = o.id then f x else x)
    (ea : t.arb.owner = .none) (ep : t.poolFree = s.poolFree) (hid : (f o).id = o.id) (hq : (f o).counts = o.counts)
    (hst : (f o).status = .opened ∨ (f o).status = .ended) (hpts : (f o).points = o.points)
    (hpool : P → EndClean (f o))
    (hstore : C → StoreFits t.store) (er : C → t.store.records = s.store.records) (ed : C → t.desk = s.desk)
    (hd : C → s.desk.review = .none) : Books P C 0 t := by
  have only : ∀ x ∈ s.table.orders, x.id = o.id → x = o := fun x hx e => eq_of_id_eq h.head.ids hx hm e
  have all {p : Order → Prop} (hf : p (f o)) (hx : ∀ x ∈ s.table.orders, x.id ≠ o.id → p x) :
      ∀ x ∈ t.table.orders, p x := by
    rw [et]
    exact forall_updOrder (s := s) (fun x hx e => by rw [only x hx e]; exact hf) hx
  constructor
  · rw [ea]
    refine ⟨by rw [et]; simpa using h.head.slots, ?_, .inl rfl, all ?_ fun x hx hne => ?_⟩
    · rw [et, List.map_map, List.map_congr_left (g := (·.id)) fun x hx => ?_]
      · exact h.head.ids
      · by_cases e : x.id = o.id
        · simp [only x hx e, hid]
        · simp [e]
    · exact ⟨by rcases hst with e | e <;> simp [e], nofun⟩
    · have hx' : s.arb.owner ≠ .some x.id := by rw [ho]; simpa using hne.symm
      exact ⟨iff_of_false (fun e => hx' ((h.head.fits x hx).active.1 e)) nofun, nofun⟩
  · intro hP
    refine ⟨?_, all (hpool hP) fun x hx _ => (h.pool hP).ended x hx⟩
    have := listed_update (f := f) h.head.ids hm
    have := (h.pool hP).total
    rw [et, ep]; rw [hpts] at *; omega
  · exact hstore
  · intro hC
    obtain ⟨h1, h2, h3⟩ := h.desk hC
    rw [ea, er hC, ed hC]
    exact ⟨h1, h2, fun v hv => by simp [hd hC] at hv⟩
  · intro hC
    rw [ea]
    refine all ?_ fun x hx _ => ?_
    · have := h.counts hC o hm
      simpa [CountFits, hq] using this
    · have := h.counts hC x hx
      simpa [CountFits] using this

/-! ## The points taken and given back -/

/-- Judging POINTS LOW changes the low-water flag of the owner alone, beside a notice. -/
theorem judgePointsLow_orders (s : State) : ∃ b : Order → Bool,
    (judgePointsLow s).table.orders = s.table.orders.map fun x => { x with lowArmed := b x } := by
  have none : ∃ b : Order → Bool, s.table.orders = s.table.orders.map fun x => { x with lowArmed := b x } :=
    ⟨(·.lowArmed), by simp⟩
  unfold judgePointsLow
  split
  · exact none
  · next o _ =>
    split
    · refine ⟨fun x => if x.id = o.id then false else x.lowArmed, ?_⟩
      simp only [postTo_frame, updOrder_orders]
      exact List.map_congr_left fun x _ => by by_cases e : x.id = o.id <;> simp [e]
    · exact none

theorem Books.judgePointsLow (h : Books P C n s) : Books P C n (judgePointsLow s) := by
  obtain ⟨b, hb⟩ := judgePointsLow_orders s
  refine h.mapSame (g := fun x => { x with lowArmed := b x }) (fun o _ => ⟨rfl, rfl, rfl, rfl, rfl, rfl, fun _ => rfl⟩) hb ?_ ?_ ?_ ?_ <;>
    simp

/-- The front point of the owner comes into the hand and its entry is free (R35). -/
theorem Books.takeFront {o : Order} {p : Point} {rest : List Point} (h : Books P C n s) (hm : o ∈ s.table.orders)
    (ho : s.arb.owner = .some o.id) (hp : o.points = p :: rest) :
    Books P C (n + 1) ((updOrder o.id
      (fun o => { o with points := rest, counts := { o.counts with taken := o.counts.taken + 1 } }) s).setPoolFree
        (s.poolFree + 1)) := by
  refine h.update hm (f := fun o => { o with points := rest, counts := { o.counts with taken := o.counts.taken + 1 } })
    rfl rfl rfl ⟨(h.head.fits o hm).active, (h.head.fits o hm).held⟩ (fun hP => ⟨?_, fun e => ?_⟩) (fun hC => ⟨?_, .inr ho⟩)
    h.store h.desk
  · simp [hp]; omega
  · have := (h.pool hP).ended o hm e
    simp [hp] at this
  · have := h.counts hC o hm
    simp only [CountFits, ho, if_true, finals] at this ⊢
    omega

/-- A point of the hand goes back to the front of the owner's list and takes an entry (R39). -/
theorem Books.putFront {o : Order} {f : Order → Order} (h : Books P C (n + 1) s) (hm : o ∈ s.table.orders)
    (ho : s.arb.owner = .some o.id) (hfree : P → 1 ≤ s.poolFree)
    (hf : (f o).id = o.id ∧ (f o).status = o.status ∧ (f o).holds = o.holds ∧ (f o).points.length = o.points.length + 1
      ∧ (f o).counts = { o.counts with taken := o.counts.taken - 1 }) :
    Books P C n ((updOrder o.id f s).setPoolFree (s.poolFree - 1)) := by
  obtain ⟨f1, f2, f3, f4, f5⟩ := hf
  have hfit := h.head.fits o hm
  refine h.update hm (f := f) rfl rfl f1 ⟨by rw [f1, f2]; exact hfit.active, by rw [f1, f2, f3]; exact hfit.held⟩
    (fun hP => ⟨?_, fun e => ?_⟩) (fun hC => ⟨?_, .inr ho⟩) h.store h.desk
  · have := hfree hP
    simp [f4]; omega
  · have := hfit.active.2 ho
    rw [f2] at e; simp [e] at this
  · have := h.counts hC o hm
    simp only [CountFits, f1, f5, ho, if_true, finals] at this ⊢
    omega

/-! ## Considering a grant -/

/-- The order chosen is in the table and eligible. -/
theorem chooseOrder_mem {o : Order} (h : chooseOrder s = .some o) : o ∈ s.table.orders ∧ eligible s o = true := by
  unfold chooseOrder at h
  dsimp only at h
  split at h
  · obtain ⟨h1, -⟩ := earliest_some h
    simp only [List.mem_filter] at h1
    exact h1.1
  · obtain ⟨h1, -⟩ := earliest_some h
    simp only [List.mem_filter] at h1
    exact h1.1

/-- An eligible order is OPEN, without a cause, and lists a point (R12). -/
theorem eligible_order {o : Order} (h : eligible s o = true) :
    o.status = .opened ∧ o.holds.any = false ∧ o.points ≠ [] := by
  simp only [eligible, Bool.and_eq_true, decide_eq_true_eq, Bool.not_eq_true', List.isEmpty_eq_false_iff] at h
  exact ⟨h.1.1.1.1.1.1.1.1, h.1.1.1.1.1.1.1.2, h.1.1.1.1.1.1.2⟩

/-- An OPEN order with no cause takes the free head, with nothing in hand. -/
theorem Books.takeHead {o : Order} {f : Order → Order} (h : Books P C 0 s) (hm : o ∈ s.table.orders)
    (hn : s.arb.owner = .none) (ho : o.status = .opened ∧ o.holds.any = false)
    (et : t.table.orders = s.table.orders.map fun x => if x.id = o.id then f x else x) (ea : t.arb.owner = .some o.id)
    (hf : f o = { o with status := .running }) (ep : t.poolFree = s.poolFree) (es : t.store = s.store) (ed : t.desk = s.desk) :
    Books P C 0 t := by
  have only : ∀ x ∈ s.table.orders, x.id = o.id → x = o := fun x hx e => eq_of_id_eq h.head.ids hx hm e
  have all {p : Order → Prop} (hf : p (f o)) (hx : ∀ x ∈ s.table.orders, x.id ≠ o.id → p x) :
      ∀ x ∈ t.table.orders, p x := by
    rw [et]
    exact forall_updOrder (s := s) (fun x hx e => by rw [only x hx e]; exact hf) hx
  constructor
  · rw [et, ea]
    refine h.head.map (fun x hx => ?_) (.inr ⟨o, hm, rfl⟩) fun x hx => ?_
    · split
      · next e => rw [only x hx e, hf]
      · rfl
    · split
      · next e => rw [only x hx e, hf]; exact ⟨by simp, by simp [ho.2]⟩
      · next e =>
        have he : Option.some o.id ≠ .some x.id := by simpa using fun e' => e e'.symm
        have := (h.head.fits x hx).active
        rw [hn] at this
        exact ⟨iff_of_false (fun e' => by simpa using this.1 e') he, fun e' => absurd e' he⟩
  · intro hP
    refine ⟨?_, all (by simp [EndClean, hf]) fun x hx _ => (h.pool hP).ended x hx⟩
    have := listed_update (f := f) h.head.ids hm
    have := (h.pool hP).total
    have : (f o).points = o.points := by rw [hf]
    rw [et, ep]; simp only [this] at *; omega
  · rw [es]; exact h.store
  · intro hC
    obtain ⟨h1, h2, h3⟩ := h.desk hC
    rw [ea, es, ed]
    exact ⟨h1, h2, fun v hv => by simpa [hn] using (h3 v hv).1⟩
  · intro hC
    refine all ?_ fun x hx _ => ?_
    · have := h.counts hC o hm
      rw [hf]; simpa [CountFits] using this
    · have := h.counts hC x hx
      simpa [CountFits] using this

end Sys2Proof.Proofs.Orders

/-! # The boundary (R47, R48)

What one pass leaves: where another pass follows, a state at a boundary again with fewer passes left; else a head at rest. -/

namespace Sys2Proof.Proofs.Orders
open Sys2Proof Sys2Proof.Machine

variable {P C : Prop} {n m : Nat} {s t : State} {o : Order}

/-- The head-owning order stands at a boundary: the listed impressions alone are in hand, and no review is open. -/
structure AtBoundary (P C : Prop) (s : State) : Prop where
  books : Books P C s.seq.impressions.length s
  bare : s.arb.owner = .none → s.seq.state = .idle ∧ s.seq.cur = .none ∧ s.seq.impressions = []
  noPoint : C → s.seq.cur = .none
  purpose : C → s.seq.purpose = .none
  review : C → s.desk.review = .none
  mode : C → ModeFits s

/-- The passes that an order may still take up: one a point it lists, and one its end. -/
def orderWork (o : Order) : Nat := o.points.length + if o.status = .ended then 0 else 1

/-- The passes that the orders of the table may still take up. -/
def tableWork (s : State) : Nat := (s.table.orders.map orderWork).sum

/-- A bound on the passes left: each takes a point, an impression or an order that has not ended. -/
def passesLeft (s : State) : Nat := tableWork s + s.seq.impressions.length

/-- What a pass leaves: a boundary again, with fewer than `m` passes left, where another follows, and a head at rest where none does. -/
def Passed (P C : Prop) (m : Nat) : State × Bool → Prop
  | (t, true) => AtBoundary P C t ∧ passesLeft t < m
  | (t, false) => Rest P C t

/-! ## The passes left after an operation -/

theorem orderWork_congr {a b : Order} (hp : b.points = a.points) (hs : b.status = a.status) : orderWork b = orderWork a := by
  unfold orderWork; rw [hp, hs]

theorem orderWork_le (o : Order) : orderWork o ≤ o.points.length + 1 := by
  unfold orderWork; split <;> omega

theorem tableWork_le {g : Order → Order} (e : t.table.orders = s.table.orders.map g)
    (h : ∀ o ∈ s.table.orders, orderWork (g o) ≤ orderWork o) : tableWork t ≤ tableWork s := by
  rw [tableWork, e, List.map_map]
  exact List.sum_le_sum h

theorem tableWork_lt {g : Order → Order} (e : t.table.orders = s.table.orders.map g)
    (h : ∀ o ∈ s.table.orders, orderWork (g o) ≤ orderWork o) (ho : o ∈ s.table.orders) (hlt : orderWork (g o) < orderWork o) :
    tableWork t < tableWork s := by
  rw [tableWork, e, List.map_map]
  exact List.sum_lt_sum _ _ h ⟨o, ho, hlt⟩

theorem tableWork_writeRecord (o : Order) (r : Record) (s : State) : tableWork (writeRecord o r s) ≤ tableWork s := by
  refine tableWork_le (writeRecord_orders o r s) fun x _ => le_of_eq ?_
  split
  · split <;> exact orderWork_congr (by simp [noteSeq]) (by simp [noteSeq])
  · rfl

theorem tableWork_recordCurrent (o : Order) (st : RecState) (why : Reason) (s : State) :
    tableWork (recordCurrent o st why s) ≤ tableWork s := by
  rcases recordCurrent_cases o st why s with ⟨-, e⟩ | ⟨c, -, e⟩ <;> rw [e]
  exact tableWork_writeRecord o _ s

theorem tableWork_flushImpressions (o : Order) (why : Reason) (s : State) :
    tableWork (flushImpressions o why s) ≤ tableWork s := by
  have (l : List Impression) : ∀ s, tableWork (recordImpressions o why l s) ≤ tableWork s := by
    induction l with
    | nil => exact fun s => le_rfl
    | cons i l ih => exact fun s => (ih _).trans (tableWork_writeRecord o _ s)
  exact this _ s

theorem tableWork_discardPoints (o : Order) (s : State) : tableWork (discardPoints o s) ≤ tableWork s := by
  refine tableWork_le (updOrder_orders _ discarding _) fun x _ => ?_
  split
  · exact Nat.add_le_add (Nat.zero_le _) le_rfl
  · exact le_rfl

theorem tableWork_judgePointsLow (s : State) : tableWork (judgePointsLow s) = tableWork s := by
  obtain ⟨b, hb⟩ := judgePointsLow_orders s
  rw [tableWork, hb, List.map_map]; rfl

/-- The end of an order that has not ended takes up a pass. -/
theorem tableWork_endOrder {id : Nat} {out : OrderOutcome} {why : Option AbortReason} {o : Order}
    (hf : findOrder id s = .some o) (ho : o.status ≠ .ended) : tableWork (endOrder id out why s) < tableWork s := by
  obtain ⟨hm, hid⟩ := findOrder_some hf
  refine tableWork_lt (endOrder_effect out why hf).1 (fun x _ => ?_) hm ?_
  · split <;> simp [orderWork, ending]
  · simp [orderWork, ending, hid, ho]

theorem passesLeft_lt_bound (s : State) : passesLeft s < boundaryBound s := by
  have (l : List Order) : (l.map orderWork).sum ≤ listed l + l.length := by
    induction l with
    | nil => simp
    | cons a l ih =>
      have := orderWork_le a
      simp only [List.map_cons, List.sum_cons, listed, List.length_cons] at ih ⊢
      omega
  have := this s.table.orders
  simp only [passesLeft, tableWork, boundaryBound, listed] at this ⊢
  omega

/-! ## The modes after an operation -/

theorem ModeFits.map {g : Order → Order} (h : ModeFits s) (e : t.table.orders = s.table.orders.map g)
    (hg : ∀ x, (g x).id = x.id ∧ (g x).mode = x.mode) (ea : t.arb.owner = s.arb.owner)
    (ei : t.seq.impressions = s.seq.impressions) : ModeFits t := by
  intro x hx h1 h2
  rw [e] at hx
  obtain ⟨y, hy, rfl⟩ := List.mem_map.1 hx
  rw [ei]
  exact h y hy (by rw [← ea, h1, (hg y).1]) (by rw [← h2, (hg y).2])

theorem ModeFits.writeRecord (h : ModeFits s) (o : Order) (r : Record) : ModeFits (writeRecord o r s) := by
  refine h.map (writeRecord_orders o r s) (fun x => ?_) (by simp) (by simp)
  split
  · split <;> simp [noteSeq]
  · simp

theorem ModeFits.recordCurrent (h : ModeFits s) (o : Order) (st : RecState) (why : Reason) :
    ModeFits (recordCurrent o st why s) := by
  rcases recordCurrent_cases o st why s with ⟨-, e⟩ | ⟨c, -, e⟩ <;> rw [e]
  · exact h
  · exact h.writeRecord o _

/-! ## States a boundary may leave the sequencer in -/

/-- With no owner there is no boundary to go through, and the head is at rest. -/
theorem AtBoundary.rest (h : AtBoundary P C s) (ho : s.arb.owner = .none) : Rest P C s := by
  obtain ⟨hi, hc, hl⟩ := h.bare ho
  refine ⟨h.books.hand fun hC => ?_, ?_⟩
  · simp [handTotal, inHand, hc, h.review hC]
  · constructor <;> simp +contextual [ho, hi, hc, hl, SeqState.holdsPoint, returnReserve, h.purpose, h.review, ModeFits]

/-- The sequencer of an owner enters a state beside RETRACT and REVIEW_WAIT with the books in order. -/
theorem Rest.ofEnter {q : SeqState} (hb : Books P C (handTotal t) t) (ho : t.arb.owner ≠ .none) (hq : t.seq.state = q)
    (hne : q ≠ .idle ∧ q ≠ .retract ∧ q ≠ .reviewWait) (hres : P → returnReserve t ≤ t.poolFree)
    (hpoint : C → q.holdsPoint = true → t.seq.cur.isSome = true) (hnone : C → q.holdsNone = true → t.seq.cur = .none)
    (hpur : C → t.seq.purpose = .none) (hrev : C → t.desk.review = .none)
    (hawait : C → q = .awaitPoints → t.seq.impressions = []) (hmode : C → ModeFits t) : Rest P C t := by
  subst hq
  obtain ⟨h1, h2, h3⟩ := hne
  exact ⟨hb, ⟨iff_of_false ho h1, fun e => absurd e ho, hres, hpoint, hnone, fun hC => iff_of_false (by simp [hpur hC]) h2,
    fun hC => by simp [hpur hC], fun hC => iff_of_false (by simp [hrev hC]) h3, hawait, hmode⟩⟩

/-- At a boundary the sequencer enters a state that waits, with no current point. -/
theorem AtBoundary.wait (h : AtBoundary P C s) (ho : s.arb.owner ≠ .none) (e : SameHead s t)
    (hq : t.seq.state = .paused ∨ t.seq.state = .awaitPoints ∨ t.seq.state = .storeWait)
    (hawait : C → t.seq.state = .awaitPoints → s.seq.impressions = [])
    (ec : t.seq.cur = s.seq.cur) (ei : t.seq.impressions = s.seq.impressions) (ep : t.seq.purpose = s.seq.purpose) :
    Rest P C t := by
  have hand : C → handTotal t = s.seq.impressions.length := fun hC => by
    simp [handTotal, inHand, e.desk, ec, ei, h.noPoint hC, h.review hC]
  have hs : t.seq.state ≠ .idle ∧ t.seq.state ≠ .retract ∧ t.seq.state ≠ .reviewWait := by
    rcases hq with e | e | e <;> simp [e]
  have hres : returnReserve t = 0 := by
    rcases hq with e | e | e <;> simp [returnReserve, e]
  refine Rest.ofEnter ((h.books.congr e).hand hand) (by rwa [e.owner]) rfl hs (by simp [hres]) ?_
    (fun hC _ => by rw [ec, h.noPoint hC]) (fun hC => by rw [ep, h.purpose hC]) (fun hC => by rw [e.desk, h.review hC])
    (by rwa [ei]) (fun hC => by unfold ModeFits; rw [e.orders, e.owner, ei]; exact h.mode hC)
  rcases hq with e | e | e <;> simp [e, SeqState.holdsPoint]

/-- The owner takes a current point into its move, with the other books as at a boundary. -/
theorem Rest.ofMove (hb : Books P C (s.seq.impressions.length + 1) s) (ho : s.arb.owner ≠ .none) (e : SameHead s t)
    (hq : t.seq.state = .moveIndent ∧ (P → 1 ≤ s.poolFree) ∨ t.seq.state = .moveView) (hc : t.seq.cur.isSome = true)
    (ei : t.seq.impressions = s.seq.impressions) (hpur : C → t.seq.purpose = .none) (hrev : C → s.desk.review = .none)
    (hmode : C → ModeFits s) : Rest P C t := by
  have hand : C → handTotal t = s.seq.impressions.length + 1 := fun hC => by
    simp [handTotal, inHand, e.desk, hc, ei, hrev hC]; omega
  have hs : t.seq.state ≠ .idle ∧ t.seq.state ≠ .retract ∧ t.seq.state ≠ .reviewWait ∧ t.seq.state ≠ .awaitPoints
      ∧ t.seq.state.holdsNone = false := by
    rcases hq with ⟨e, -⟩ | e <;> simp [e, SeqState.holdsNone]
  obtain ⟨h1, h2, h3, h4, h5⟩ := hs
  refine Rest.ofEnter ((hb.congr e).hand hand) (by rwa [e.owner]) rfl ⟨h1, h2, h3⟩ (fun hP => ?_) (fun _ _ => hc)
    (fun _ e' => by simp [h5] at e') hpur (fun hC => by rw [e.desk, hrev hC]) (fun _ e' => absurd e' h4)
    (fun hC => by unfold ModeFits; rw [e.orders, e.owner, ei]; exact hmode hC)
  rw [e.pool]
  rcases hq with ⟨e', hp⟩ | e'
  · simpa [returnReserve, e'] using hp hP
  · simp [returnReserve, e']

/-! ## The end of the owner and the grant that follows -/

/-- A head just released, with its books in order and no review open, is at rest. -/
theorem Rest.released (hb : Books P C 0 (releaseHead s)) (hrev : C → s.desk.review = .none) : Rest P C (releaseHead s) := by
  refine ⟨hb.hand fun hC => by simp [handTotal, inHand, hrev hC], ?_⟩
  constructor <;> simp +contextual [returnReserve, SeqState.holdsPoint, hrev, ModeFits]

/-- The end of an owner with nothing in hand leaves the head free and at rest. -/
theorem Rest.ofEnd {out : OrderOutcome} {why : Option AbortReason} (h : Books P C 0 s) (ho : s.arb.owner = .some o.id)
    (hp : P → pointsOf o.id s = .some []) (hrev : C → s.desk.review = .none) :
    Rest P C (releaseHead (endOrder o.id out why s)) := by
  obtain ⟨x, hm, hid, hf⟩ := h.owner_find ho
  obtain ⟨e1, e2⟩ := endOrder_effect out why hf
  refine Rest.released (h.release hm (f := ending out why) (by rw [ho, hid]) (by simp [e1, hid]) (by simp) (by simp) rfl rfl
    (.inr rfl) rfl (fun hP _ => ⟨?_, rfl⟩) (fun hC => by simpa [e2] using (h.store hC).setArmed _ _) (fun hC => by simp [e2])
    (fun hC => by simp) hrev) (by simpa using hrev)
  have : x.points = [] := by simpa [pointsOf, hf] using hp hP
  exact this

/-- Considering a grant of a head at rest leaves it at rest, or at the new owner's boundary. -/
theorem Rest.considerGrant_passed (h : Rest P C s) (hm : passesLeft s < m) : Passed P C m (considerGrant s) := by
  unfold considerGrant
  split
  · exact h
  · next hn =>
    split
    · exact h
    · next o hc =>
      obtain ⟨hmem, hel⟩ := chooseOrder_mem hc
      obtain ⟨hop, hho, -⟩ := eligible_order hel
      obtain ⟨hcur, himp⟩ := h.seq.bare hn
      have hidle := h.seq.idle.1 hn
      have hrev : C → s.desk.review = .none := fun hC => by
        have := (h.seq.review hC).1.mt (by simp [hidle])
        simpa using this
      have hb0 : Books P C 0 s := h.books.hand fun hC => by simp [handTotal, inHand, hcur, himp, hrev hC]
      have hb : Books P C 0 (judgePointsLow (postTo o.origin (orderNotice .orderStarted o 0 0)
          ((updOrder o.id (fun o => { o with status := .running }) s).modArb fun a =>
            { a with owner := .some o.id, lastGranted := o.origin }))) := by
        refine Books.judgePointsLow (hb0.takeHead hmem hn ⟨hop, hho⟩ (f := fun o => { o with status := .running }) ?_ ?_ rfl
          ?_ ?_ ?_) <;> simp
      refine ⟨⟨?_, by simp, ?_, ?_, ?_, ?_⟩, ?_⟩
      · simpa [himp] using hb
      · simpa using fun _ => hcur
      · have := fun hC => (h.seq.purpose hC).1.mt (by simp [hidle])
        simpa using this
      · simpa using hrev
      · intro _ x _ _ _; simpa using himp
      · refine lt_of_le_of_lt (Nat.add_le_add ?_ (by simp)) hm
        rw [tableWork_judgePointsLow]
        refine tableWork_le (g := fun x => if x.id = o.id then { x with status := .running } else x) (by simp)
          fun x hx => ?_
        split
        · next e => simp [eq_of_id_eq h.books.head.ids hx hmem e, orderWork, hop]
        · exact le_rfl

/-- The end of an owner with nothing in hand, and the grant that follows. -/
theorem endOwner_passed {out : OrderOutcome} {why : Option AbortReason} (h : Books P C 0 s) (ho : s.arb.owner = .some o.id)
    (hp : P → pointsOf o.id s = .some []) (hrev : C → s.desk.review = .none) (hm : tableWork s ≤ m) :
    Passed P C m (endOwner o.id out why s) := by
  refine (Rest.ofEnd h ho hp hrev).considerGrant_passed ?_
  obtain ⟨x, hx, hid, hf⟩ := h.owner_find ho
  have := (h.head.fits x hx).active.2 (by rw [ho, hid])
  have := tableWork_endOrder (out := out) (why := why) hf (by rcases this with e | e <;> simp [e])
  simpa [passesLeft, tableWork] using this.trans_le hm

/-- The owner's impressions are recorded and its points discarded, and it ends (R27, R67). -/
theorem windUp_passed {reason : Reason} {out : OrderOutcome} {why : Option AbortReason} (h : Books P C s.seq.impressions.length s)
    (ho : s.arb.owner = .some o.id) (hp : pointsOf o.id s = .some o.points) (hrev : C → s.desk.review = .none)
    (hm : tableWork s ≤ m) : Passed P C m (endOwner o.id out why (discardPoints o (flushImpressions o reason s))) := by
  have hb : Books P C 0 (flushImpressions o reason s) := Books.flushImpressions (by simpa using h) ho
  obtain ⟨hd, hdp⟩ := hb.discardPoints (o := o) (by simpa using hp)
  exact endOwner_passed hd (by simpa using ho) (fun _ => hdp) (by simpa using hrev)
    ((tableWork_discardPoints _ _).trans ((tableWork_flushImpressions _ _ _).trans hm))

/-- A cancel that completes at a boundary (R27). -/
theorem AtBoundary.completeCancel_passed (h : AtBoundary P C s) (ho : s.arb.owner = .some o.id)
    (hp : pointsOf o.id s = .some o.points) (hm : tableWork s ≤ m) : Passed P C m (completeCancel o s) :=
  windUp_passed h.books ho hp h.review hm

/-! ## One pass -/

/-- The front impression of a measure phase (R42, R43). -/
theorem AtBoundary.takeImpression_passed (h : AtBoundary P C s) (ho : s.arb.owner = .some o.id)
    (hi : s.seq.impressions ≠ []) (hm : passesLeft s ≤ m) : Passed P C m (takeImpression o s) := by
  unfold takeImpression
  split
  · contradiction
  · next i rest he =>
    have hb : Books P C (rest.length + 1) (s.modSeq fun q =>
        { q with impressions := rest, cur := .some (CurPoint.ofImpression i) }) := by
      have := h.books
      rw [he] at this
      exact this.congr ⟨rfl, rfl, rfl, rfl, rfl⟩
    have hmode : C → ModeFits (s.modSeq fun q =>
        { q with impressions := rest, cur := .some (CurPoint.ofImpression i) }) := fun hC x hx h1 h2 => by
      have := h.mode hC x hx h1 h2
      simp [he] at this
    dsimp only
    split
    · refine ⟨⟨?_, by simp [ho], by simp, by simpa using h.purpose, by simpa using h.review, ?_⟩, ?_⟩
      · rw [recordCurrent_seq]
        exact Books.recordCurrent (by simpa [inHand] using hb) ho (by simp)
      · exact fun hC => (hmode hC).recordCurrent o .unmeasured _
      · have := tableWork_recordCurrent o .unmeasured (Mark.reason ‹_›) (s.modSeq fun q =>
          { q with impressions := rest, cur := .some (CurPoint.ofImpression i) })
        simp only [passesLeft, recordCurrent_seq, State.modSeq_seq, he, List.length_cons] at hm ⊢
        have e : tableWork (s.modSeq fun q => { q with impressions := rest, cur := .some (CurPoint.ofImpression i) })
          = tableWork s := rfl
        omega
    · exact Rest.ofMove hb (by simp [ho]) (by constructor <;> simp) (.inr (by simp)) (by simp) (by simp)
        (by simpa using h.purpose) (by simpa using h.review) hmode

/-- The order whose front point has been taken. -/
def takingFront (rest : List Point) (o : Order) : Order :=
  { o with points := rest, counts := { o.counts with taken := o.counts.taken + 1 } }

/-- The state in which the front point of `o` has become the current point and POINTS LOW has been judged (R34, R35). -/
def frontTaken (o : Order) (p : Point) (rest : List Point) (s : State) : State :=
  judgePointsLow (((updOrder o.id (takingFront rest) s).setPoolFree (s.poolFree + 1)).modSeq fun q =>
    { q with cur := .some (CurPoint.ofPoint p) })

theorem takePoint_cons {p : Point} {rest : List Point} (h : o.points = p :: rest) :
    takePoint o s = if spacingPasses o p then (enterMoveIndent o (frontTaken o p rest s), false)
      else (recordCurrent o .skipped .spacing (frontTaken o p rest s), true) := by
  unfold takePoint
  rw [h]
  rfl

@[simp] theorem frontTaken_rest (o : Order) (p : Point) (rest : List Point) (s : State) :
    (frontTaken o p rest s).arb = s.arb ∧ (frontTaken o p rest s).desk = s.desk ∧ (frontTaken o p rest s).store = s.store
      ∧ (frontTaken o p rest s).poolFree = s.poolFree + 1
      ∧ (frontTaken o p rest s).seq = { s.seq with cur := .some (CurPoint.ofPoint p) } := by
  simp [frontTaken]

/-- Taking the front point brings it into the hand and takes up a pass. -/
theorem frontTaken_fits {p : Point} {rest : List Point} (h : Books P C n s) (hmem : o ∈ s.table.orders)
    (ho : s.arb.owner = .some o.id) (hp : o.points = p :: rest) (hmode : C → ModeFits s) :
    Books P C (n + 1) (frontTaken o p rest s) ∧ (C → ModeFits (frontTaken o p rest s))
      ∧ tableWork (frontTaken o p rest s) < tableWork s := by
  obtain ⟨b, hb⟩ := judgePointsLow_orders
    (((updOrder o.id (takingFront rest) s).setPoolFree (s.poolFree + 1)).modSeq fun q =>
      { q with cur := .some (CurPoint.ofPoint p) })
  refine ⟨Books.judgePointsLow ((h.takeFront hmem ho hp).congr ⟨rfl, rfl, rfl, rfl, rfl⟩), fun hC => ?_, ?_⟩
  · have h1 : ModeFits (updOrder o.id (takingFront rest) s) :=
      (hmode hC).map (updOrder_orders _ _ _) (fun x => by split <;> simp [takingFront]) rfl rfl
    exact ModeFits.map h1 hb (fun x => ⟨rfl, rfl⟩) (by simp) (by simp)
  · rw [frontTaken, tableWork_judgePointsLow]
    refine tableWork_lt (updOrder_orders _ _ _) (fun x hx => ?_) hmem ?_
    · split
      · next e => simp [eq_of_id_eq h.head.ids hx hmem e, orderWork, takingFront, hp]
      · exact le_rfl
    · simp [orderWork, takingFront, hp]

/-- The front point of the owner's list (R35, R37). -/
theorem AtBoundary.takePoint_passed (h : AtBoundary P C s) (hmem : o ∈ s.table.orders) (ho : s.arb.owner = .some o.id)
    (hp : o.points ≠ []) (hm : passesLeft s ≤ m) : Passed P C m (takePoint o s) := by
  obtain ⟨p, rest, he⟩ := List.exists_cons_of_ne_nil hp
  obtain ⟨hb, hmode, hw⟩ := frontTaken_fits h.books hmem ho he h.mode
  rw [takePoint_cons he]
  split
  · refine Rest.ofMove (s := frontTaken o p rest s) ?_ (by simp [ho]) (by constructor <;> simp) (.inl ?_) (by simp) (by simp)
      (by simpa using h.purpose) (by simpa using h.review) hmode
    · simpa using hb
    · simp
  · refine ⟨⟨?_, by simp [ho], by simp, by simpa using h.purpose, by simpa using h.review,
      fun hC => (hmode hC).recordCurrent o _ _⟩, ?_⟩
    · rw [recordCurrent_seq]
      exact Books.recordCurrent (by simpa [inHand] using hb) (by simpa using ho) (by simp)
    · have := tableWork_recordCurrent o .skipped .spacing (frontTaken o p rest s)
      simp only [passesLeft, recordCurrent_seq, frontTaken_rest] at hm ⊢
      omega

/-- Steps 6 to 9: the end or the wait of an empty list, the wait for room, or the front point. -/
theorem AtBoundary.boundaryTake_passed (h : AtBoundary P C s) (hmem : o ∈ s.table.orders) (ho : s.arb.owner = .some o.id)
    (hi : C → o.points = [] → s.seq.impressions = []) (hm : passesLeft s ≤ m) : Passed P C m (boundaryTake o s) := by
  unfold boundaryTake
  split
  · next hp =>
    have hp : o.points = [] := by simpa using hp
    split
    · refine endOwner_passed (h.books.hand fun hC => by simp [hi hC hp]) ho (fun _ => ?_) h.review
        ((Nat.le_add_right _ _).trans hm)
      rw [pointsOf, findOrder_eq h.books.head.ids hmem, Option.map_some, hp]
    · exact h.wait (by simp [ho]) (by constructor <;> simp) (by simp) (fun hC _ => hi hC hp) (by simp) (by simp) (by simp)
  · next hp =>
    split
    · exact h.wait (by simp [ho]) (by constructor <;> simp) (by simp) (by simp) (by simp) (by simp) (by simp)
    · exact h.takePoint_passed hmem ho (by simpa using hp) hm

/-- The round phase is nothing to a boundary. -/
theorem AtBoundary.setRound (h : AtBoundary P C s) (r : RoundPhase) :
    AtBoundary P C (s.modSeq fun q => { q with round := r }) :=
  ⟨h.books.congr ⟨rfl, rfl, rfl, rfl, rfl⟩, h.bare, h.noPoint, h.purpose, h.review, h.mode⟩

/-- Steps 3 to 9 (R48). -/
theorem AtBoundary.boundaryRun_passed (h : AtBoundary P C s) (hmem : o ∈ s.table.orders) (ho : s.arb.owner = .some o.id)
    (hm : passesLeft s ≤ m) : Passed P C m (boundaryRun o s) := by
  unfold boundaryRun
  split
  · next hmode => exact h.boundaryTake_passed hmem ho (fun hC _ => h.mode hC o hmem ho hmode) hm
  · split
    · next hi => exact (h.setRound .indent).boundaryTake_passed hmem ho (fun _ _ => by simpa using hi) hm
    · next hi =>
      have hi : s.seq.impressions ≠ [] := by simpa using hi
      split
      · exact h.takeImpression_passed ho hi hm
      · split
        · exact (h.setRound .measure).takeImpression_passed ho hi hm
        · next hover =>
          refine h.boundaryTake_passed hmem ho (fun _ hp => absurd ?_ hover) hm
          simp [indentPhaseOver, hp]

/-- Pending causes take effect on the owner (R8). -/
theorem applyPending_fits {owner : Option Nat} (h : OrderFits owner o) (ho : owner = .some o.id) :
    OrderFits owner (applyPending o) := by
  have hact := h.active.2 ho
  have hheld := h.held ho
  unfold applyPending
  constructor
  · simp only [ho, iff_true]
    split
    · exact .inr rfl
    · exact hact
  · intro _
    dsimp only
    split
    · next hany => simpa using hany
    · next hany =>
      have : o.holds.any = false := by
        simp only [Holds.any, Bool.or_eq_true, not_or] at hany ⊢; simp_all
      simp_all

/-- The boundary of the owner after its pending causes have taken effect. -/
theorem AtBoundary.pendingApplied (h : AtBoundary P C s) (hmem : o ∈ s.table.orders) (ho : s.arb.owner = .some o.id) :
    AtBoundary P C (updOrder o.id applyPending s) ∧ passesLeft (updOrder o.id applyPending s) ≤ passesLeft s := by
  have hfit := applyPending_fits (h.books.head.fits o hmem) ho
  refine ⟨⟨?_, h.bare, h.noPoint, h.purpose, h.review, fun hC => ?_⟩, ?_⟩
  · refine h.books.update (f := applyPending) hmem rfl rfl rfl hfit (fun hP => ⟨rfl, fun e => ?_⟩)
      (fun hC => ⟨h.books.counts hC o hmem, .inl rfl⟩) h.books.store h.books.desk
    have := hfit.active.2 ho
    rw [e] at this; simp at this
  · exact (h.mode hC).map (updOrder_orders _ _ _) (fun x => by split <;> simp [applyPending]) rfl rfl
  · refine Nat.add_le_add_right (tableWork_le (updOrder_orders _ _ _) fun x hx => ?_) _
    split
    · next e =>
      obtain rfl := eq_of_id_eq h.books.head.ids hx hmem e
      refine (orderWork_le _).trans (le_of_eq ?_)
      rcases (h.books.head.fits x hx).active.2 ho with e | e <;> simp [orderWork, e, applyPending]
    · exact le_rfl

/-- A HELD order pauses at its boundary. -/
theorem AtBoundary.boundaryPause_rest (h : AtBoundary P C s) (ho : s.arb.owner ≠ .none) : Rest P C (boundaryPause o s) := by
  unfold boundaryPause
  split
  · exact (h.setRound .measure).wait ho (by constructor <;> simp) (by simp) (by simp) (by simp) (by simp) (by simp)
  · exact h.wait ho (by constructor <;> simp) (by simp) (by simp) (by simp) (by simp) (by simp)

/-- One pass over the boundary steps. -/
theorem AtBoundary.boundaryStep_passed (h : AtBoundary P C s) (hm : passesLeft s ≤ m) : Passed P C m (boundaryStep s) := by
  unfold boundaryStep
  split
  · next hn =>
    refine h.rest (by_contra fun ho => ?_)
    have := (ownerOf_isSome_iff h.books.head.ids).2 (h.books.owner_mem ho)
    simp [hn] at this
  · next o hs =>
    obtain ⟨hmem, ho⟩ := ownerOf_some hs
    split
    · refine h.completeCancel_passed ho ?_ ((Nat.le_add_right _ _).trans hm)
      rw [pointsOf, findOrder_eq h.books.head.ids hmem, Option.map_some]
    · obtain ⟨hb, hpl⟩ := h.pendingApplied hmem ho
      have hmem' : applyPending o ∈ (updOrder o.id applyPending s).table.orders := by
        rw [updOrder_orders]
        exact List.mem_map.2 ⟨o, hmem, by simp⟩
      dsimp only
      split
      · exact (hb.boundaryPause_rest (by simp [ho]))
      · exact hb.boundaryRun_passed hmem' ho (hpl.trans hm)

/-! ## The passes of a boundary -/

/-- From a boundary the passes come to rest: some number of them, each followed by another, and then one that none follows. -/
theorem AtBoundary.passes (h : AtBoundary P C s) (hm : passesLeft s < m) : ∃ (k : Nat) (u : Nat → State), u 0 = s
    ∧ (∀ j < k, boundaryStep (u j) = (u (j + 1), true)) ∧ boundaryStep (u k) = (boundaryLoop m s, false)
    ∧ Rest P C (boundaryLoop m s) := by
  induction m generalizing s with
  | zero => omega
  | succ m ih =>
    have hp := h.boundaryStep_passed le_rfl
    unfold boundaryLoop
    split
    · next t e =>
      rw [e] at hp
      obtain ⟨k, u, h0, hs, he, hr⟩ := ih hp.1 (by have := hp.2; omega)
      refine ⟨k + 1, fun j => j.casesOn s u, rfl, fun j hj => ?_, he, hr⟩
      cases j with
      | zero => simpa [h0] using e
      | succ j => exact hs j (by omega)
    · next t e =>
      rw [e] at hp
      exact ⟨0, fun _ => s, rfl, by simp, e, hp⟩

/-- The boundary leaves a head at rest. -/
theorem AtBoundary.boundary_rest (h : AtBoundary P C s) : Rest P C (boundary s) := by
  obtain ⟨-, -, -, -, -, hr⟩ := h.passes (passesLeft_lt_bound s)
  exact hr

end Sys2Proof.Proofs.Orders

/-! # The shared operations keep the head, the pool and the counts -/

namespace Sys2Proof.Proofs.Orders
open Sys2Proof Sys2Proof.Machine

variable {P C : Prop} {n m : Nat} {s t : State} {o : Order}

/-! ## What the invariant says of the owner and the sequencer -/

theorem Inv.owner_ne (h : Inv P C s) (hs : s.seq.state ≠ .idle) : s.arb.owner ≠ .none := fun e => hs (h.seq.idle.1 e)

/-- An owner found is in the table, and the sequencer is not idle. -/
theorem Inv.owner (h : Inv P C s) (ho : ownerOf s = .some o) :
    o ∈ s.table.orders ∧ s.arb.owner = .some o.id ∧ s.seq.state ≠ .idle := by
  obtain ⟨h1, h2⟩ := ownerOf_some ho
  exact ⟨h1, h2, fun e => by simp [h.seq.idle.2 e] at h2⟩

/-- No owner found is no owner. -/
theorem Inv.owner_none (h : Inv P C s) (ho : ownerOf s = .none) : s.arb.owner = .none := by
  by_contra e
  have := (ownerOf_isSome_iff h.books.head.ids).2 (h.books.owner_mem e)
  simp [ho] at this

/-- An order found under the owner's id is the owner found. -/
theorem ownerOf_of_find {id : Nat} (hf : findOrder id s = .some o) (ho : s.arb.owner = .some id) : ownerOf s = .some o := by
  simp [ownerOf, ho, hf]

/-- A RUNNING or HELD order is the owner. -/
theorem Inv.active_owner {id : Nat} (h : Inv P C s) (hf : findOrder id s = .some o) (ho : o.status = .running ∨ o.status = .held) :
    ownerOf s = .some o := by
  obtain ⟨hm, rfl⟩ := findOrder_some hf
  exact ownerOf_of_find hf ((h.books.head.fits o hm).active.1 ho)

theorem Inv.unstopped (h : Inv P C s) (hs : s.seq.state.stoppable = false) : s.seq.stopFlag = false := by
  by_contra e
  have := h.stop.stop (by simpa using e)
  simp [hs] at this

theorem Inv.purpose_none (h : Inv P C s) (hC : C) (hs : s.seq.state ≠ .retract) : s.seq.purpose = .none := by
  have := (h.seq.purpose hC).1.mt hs
  simpa using this

theorem Inv.review_none (h : Inv P C s) (hC : C) (hs : s.seq.state ≠ .reviewWait) : s.desk.review = .none := by
  have := (h.seq.review hC).1.mt hs
  simpa using this

theorem Rest.unstopped (h : Rest P C s) (hs : s.seq.stopFlag = false) : Inv P C s :=
  ⟨h, ⟨fun _ => hs, fun e => by simp [hs] at e⟩⟩

/-! ## Moves of the sequencer that leave the books -/

/-- Two states that the invariant does not tell apart. -/
structure SameWork (s t : State) : Prop extends SameHead s t where
  state : t.seq.state = s.seq.state
  cur : t.seq.cur.isSome = s.seq.cur.isSome
  impressions : t.seq.impressions = s.seq.impressions
  purpose : t.seq.purpose = s.seq.purpose
  stopFlag : t.seq.stopFlag = s.seq.stopFlag

theorem handTotal_eq (ed : t.desk = s.desk) (ec : t.seq.cur.isSome = s.seq.cur.isSome)
    (ei : t.seq.impressions = s.seq.impressions) : handTotal t = handTotal s := by
  simp [handTotal, inHand, ed, ec, ei]

theorem ModeFits.congr (h : ModeFits s) (e : SameHead s t) (ei : t.seq.impressions = s.seq.impressions) : ModeFits t := by
  unfold ModeFits; rw [e.orders, e.owner, ei]; exact h

theorem Inv.same (h : Inv P C s) (e : SameWork s t) : Inv P C t := by
  obtain ⟨eh, e1, e2, e3, e4, e5⟩ := e
  have hcur : s.seq.cur = .none → t.seq.cur = .none := fun e => by simpa [e] using e2
  refine ⟨⟨(h.books.congr eh).hand fun _ => handTotal_eq eh.desk e2 e3, ?_⟩, ?_⟩
  · constructor
    · rw [eh.owner, e1]; exact h.seq.idle
    · rw [eh.owner, e3]; exact fun hn => ⟨hcur (h.seq.bare hn).1, (h.seq.bare hn).2⟩
    · simp only [returnReserve, e1, eh.pool]; exact h.seq.reserve
    · rw [e1, e2]; exact h.seq.point
    · rw [e1]; exact fun hC hn => hcur (h.seq.noPoint hC hn)
    · rw [e1, e4]; exact h.seq.purpose
    · rw [e2, e4]; exact h.seq.keeps
    · rw [e1, eh.desk]; exact h.seq.review
    · rw [e1, e3]; exact h.seq.await
    · exact fun hC => (h.seq.mode hC).congr eh e3
  · exact ⟨by rw [eh.owner, e5]; exact h.stop.bare, by rw [e1, e5]; exact h.stop.stop⟩

/-- The states that work on a current point are none of the others. -/
theorem holdsPoint_ne {q : SeqState} (h : q.holdsPoint = true) :
    q ≠ .idle ∧ q ≠ .retract ∧ q ≠ .reviewWait ∧ q ≠ .awaitPoints ∧ q.holdsNone = false := by
  cases q <;> simp_all [SeqState.holdsPoint, SeqState.holdsNone]

/-- The sequencer takes the current point of an owner into another state that works on one. -/
theorem Inv.work (h : Inv P C s) (e : SameHead s t) (hs : s.seq.state ≠ .idle ∧ s.seq.state ≠ .retract ∧ s.seq.state ≠ .reviewWait)
    (hc : C → s.seq.cur.isSome = true) (ht : t.seq.state.holdsPoint = true) (ec : t.seq.cur.isSome = s.seq.cur.isSome)
    (ei : t.seq.impressions = s.seq.impressions) (ep : C → t.seq.purpose = s.seq.purpose)
    (hres : P → returnReserve t ≤ returnReserve s) (hstop : t.seq.stopFlag = true → t.seq.state.stoppable = true) : Inv P C t := by
  obtain ⟨h1, h2, h3⟩ := hs
  obtain ⟨t1, t2, t3, t4, t5⟩ := holdsPoint_ne ht
  have ho := h.owner_ne h1
  refine ⟨Rest.ofEnter ((h.books.congr e).hand fun _ => handTotal_eq e.desk ec ei) (by rwa [e.owner]) rfl ⟨t1, t2, t3⟩
    (fun hP => ?_) (fun hC _ => by rw [ec, hc hC]) (fun _ e' => by simp [t5] at e') (fun hC => ?_) (fun hC => ?_)
    (fun _ e' => absurd e' t4) (fun hC => (h.seq.mode hC).congr e ei), ⟨fun e' => absurd e' (by rwa [e.owner]), hstop⟩⟩
  · rw [e.pool]; exact (hres hP).trans (h.seq.reserve hP)
  · rw [ep hC]; exact h.purpose_none hC h2
  · rw [e.desk]; exact h.review_none hC h3

/-- The same from a state that works on a current point. -/
theorem Inv.workOn (h : Inv P C s) (e : SameHead s t) (hs : s.seq.state.holdsPoint = true)
    (ht : t.seq.state.holdsPoint = true) (ec : t.seq.cur.isSome = s.seq.cur.isSome)
    (ei : t.seq.impressions = s.seq.impressions) (ep : t.seq.purpose = s.seq.purpose)
    (hres : P → returnReserve t ≤ returnReserve s) (hstop : t.seq.stopFlag = true → t.seq.state.stoppable = true) : Inv P C t := by
  obtain ⟨s1, s2, s3, -⟩ := holdsPoint_ne hs
  exact h.work e ⟨s1, s2, s3⟩ (fun hC => h.seq.point hC hs) ht ec ei (fun _ => ep) hres hstop

/-- The sequencer pauses an owner, with or without a current point. -/
theorem Inv.pause (h : Inv P C s) (e : SameHead s t) (hs : s.seq.state ≠ .idle ∧ s.seq.state ≠ .retract ∧ s.seq.state ≠ .reviewWait)
    (ht : t.seq.state = .paused) (ec : t.seq.cur.isSome = s.seq.cur.isSome)
    (ei : t.seq.impressions = s.seq.impressions) (ep : C → t.seq.purpose = s.seq.purpose) (hstop : t.seq.stopFlag = false) :
    Inv P C t := by
  obtain ⟨h1, h2, h3⟩ := hs
  refine (Rest.ofEnter ((h.books.congr e).hand fun _ => handTotal_eq e.desk ec ei) (by rw [e.owner]; exact h.owner_ne h1) ht
    (by simp) (fun hP => by simp [returnReserve, ht]) (by simp [SeqState.holdsPoint]) (by simp [SeqState.holdsNone])
    (fun hC => ?_) (fun hC => ?_) (by simp) (fun hC => (h.seq.mode hC).congr e ei)).unstopped hstop
  · rw [ep hC]; exact h.purpose_none hC h2
  · rw [e.desk]; exact h.review_none hC h3

/-- The head of an owner with the books in order retracts for a purpose. -/
theorem Inv.ofRetract {why : RetractPurpose} (hb : Books P C (handTotal t) t) (ho : t.arb.owner ≠ .none)
    (ht : t.seq.state = .retract) (ep : t.seq.purpose = .some why) (hk : C → why.keepsPoint = true → t.seq.cur.isSome = true)
    (hrev : C → t.desk.review = .none) (hmode : C → ModeFits t) (hstop : t.seq.stopFlag = false) : Inv P C t := by
  refine Rest.unstopped ⟨hb, ?_⟩ hstop
  refine ⟨iff_of_false ho (by simp [ht]), fun e => absurd e ho, fun _ => by simp [returnReserve, ht], by simp [ht, SeqState.holdsPoint],
    by simp [ht, SeqState.holdsNone], by simp [ht, ep], by simpa [ep] using hk, fun hC => by simp [ht, hrev hC], by simp [ht], hmode⟩

/-- The sequencer retracts the head of an owner for a purpose. -/
theorem Inv.retract {why : RetractPurpose} (h : Inv P C s) (e : SameHead s t) (hs : s.seq.state ≠ .idle)
    (hrev : C → s.seq.state ≠ .reviewWait) (ht : t.seq.state = .retract) (ep : t.seq.purpose = .some why)
    (hk : C → why.keepsPoint = true → s.seq.cur.isSome = true) (ec : t.seq.cur.isSome = s.seq.cur.isSome)
    (ei : t.seq.impressions = s.seq.impressions) (hstop : t.seq.stopFlag = false) : Inv P C t :=
  Inv.ofRetract ((h.books.congr e).hand fun _ => handTotal_eq e.desk ec ei) (by rw [e.owner]; exact h.owner_ne hs) ht ep
    (by rw [ec]; exact hk) (fun hC => by rw [e.desk]; exact h.review_none hC (hrev hC)) (fun hC => (h.seq.mode hC).congr e ei) hstop

/-! ## Changes of the orders alone -/

/-- The orders are replaced by ones that carry the books, keep their mode and fit the owner, and nothing else changes. -/
theorem Inv.mapOrders {g : Order → Order} (h : Inv P C s)
    (hg : ∀ o ∈ s.table.orders, Carries C o (g o) ∧ (g o).mode = o.mode ∧ OrderFits s.arb.owner (g o))
    (et : t.table.orders = s.table.orders.map g) (ea : t.arb.owner = s.arb.owner) (ep : t.poolFree = s.poolFree)
    (es : t.store = s.store) (ed : t.desk = s.desk) (eq : t.seq = s.seq) : Inv P C t := by
  refine ⟨⟨?_, ?_⟩, ?_⟩
  · have : handTotal t = handTotal s := handTotal_eq ed (by rw [eq]) (by rw [eq])
    rw [this]
    exact h.books.map (fun o ho => (hg o ho).1) (fun o ho => (hg o ho).2.2) et ea ep (by rw [es]; exact h.books.store)
      (by rw [es, ed]; exact h.books.desk)
  · obtain ⟨q1, q2, q3, q4, q5, q6, q7, q8, q9, q10⟩ := h.seq
    simp only [returnReserve] at q3
    refine ⟨?_, ?_, ?_, ?_, ?_, ?_, ?_, ?_, ?_, fun hC x hx h1 h2 => ?_⟩ <;> try simpa only [ea, ep, ed, eq, returnReserve]
    rw [et] at hx
    obtain ⟨y, hy, rfl⟩ := List.mem_map.1 hx
    obtain ⟨k1, k2, -⟩ := hg y hy
    rw [eq]
    exact q10 hC y hy (by rw [← ea, h1, k1.id]) (by rw [← k2, h2])
  · exact ⟨by rw [ea, eq]; exact h.stop.bare, by rw [eq]; exact h.stop.stop⟩

/-- One order is updated to one that carries the books, keeps its mode and fits the owner. -/
theorem Inv.update {id : Nat} {f : Order → Order} (h : Inv P C s)
    (hf : ∀ o ∈ s.table.orders, o.id = id → Carries C o (f o) ∧ (f o).mode = o.mode ∧ OrderFits s.arb.owner (f o)) :
    Inv P C (updOrder id f s) := by
  refine h.mapOrders (g := fun o => if o.id = id then f o else o) (fun o ho => ?_) rfl rfl rfl rfl rfl rfl
  split
  · next e => exact hf o ho e
  · exact ⟨⟨rfl, rfl, fun e => e, fun _ => rfl⟩, rfl, h.books.head.fits o ho⟩

/-- One order is updated to one that the books do not tell from it. -/
theorem Inv.updSame {id : Nat} {f : Order → Order} (h : Inv P C s)
    (hf : ∀ o ∈ s.table.orders, o.id = id → SameBooks C o (f o)) : Inv P C (updOrder id f s) :=
  h.update fun o ho e => ⟨(hf o ho e).carries, (hf o ho e).mode, (h.books.head.fits o ho).same (hf o ho e)⟩

/-! ## The boundary and the grant -/

theorem boundaryTake_unstopped (h : s.seq.stopFlag = false) : (boundaryTake o s).1.seq.stopFlag = false := by
  unfold boundaryTake takePoint endOwner
  dsimp only
  repeat' split
  all_goals simp [h]

theorem takeImpression_unstopped (h : s.seq.stopFlag = false) : (takeImpression o s).1.seq.stopFlag = false := by
  unfold takeImpression
  dsimp only
  repeat' split
  all_goals simp [h]

theorem boundaryRun_unstopped (h : s.seq.stopFlag = false) : (boundaryRun o s).1.seq.stopFlag = false := by
  unfold boundaryRun
  split
  · exact boundaryTake_unstopped h
  · split
    · exact boundaryTake_unstopped h
    · split
      · exact takeImpression_unstopped h
      · split
        · exact takeImpression_unstopped h
        · exact boundaryTake_unstopped h

/-- A pass over the boundary steps raises no stop flag. -/
theorem boundaryStep_unstopped (s : State) (h : s.seq.stopFlag = false) : (boundaryStep s).1.seq.stopFlag = false := by
  unfold boundaryStep
  split
  · exact h
  · split
    · simp [completeCancel, endOwner]
    · dsimp only
      split
      · unfold boundaryPause
        split <;> simpa using h
      · exact boundaryRun_unstopped h

theorem boundary_unstopped (h : s.seq.stopFlag = false) : (boundary s).seq.stopFlag = false :=
  boundary_keeps (P := fun s => s.seq.stopFlag = false) boundaryStep_unstopped s h

theorem AtBoundary.boundary_inv (h : AtBoundary P C s) (hs : s.seq.stopFlag = false) : Inv P C (boundary s) :=
  h.boundary_rest.unstopped (boundary_unstopped hs)

/-- What a pass left, with the boundary that follows it. -/
theorem Passed.afterGrant_inv {r : State × Bool} (h : Passed P C m r) (hs : r.1.seq.stopFlag = false) : Inv P C (afterGrant r) := by
  obtain ⟨t, b⟩ := r
  cases b
  · exact h.unstopped hs
  · exact h.1.boundary_inv hs

/-- A grant considered keeps the invariant. -/
theorem Inv.grant (h : Inv P C s) : Inv P C (grant s) := by
  by_cases ho : s.arb.owner = .none
  · exact (h.considerGrant_passed (Nat.lt_succ_self _)).afterGrant_inv (by simpa using h.stop.bare ho)
  · obtain ⟨id, e⟩ := Option.ne_none_iff_exists'.1 ho
    simpa [Machine.grant, considerGrant, e, afterGrant] using h

/-- The owner with nothing in hand ends, and a grant is considered. -/
theorem Inv.ofEnd {out : OrderOutcome} {why : Option AbortReason} (h : Books P C 0 s) (ho : s.arb.owner = .some o.id)
    (hp : P → pointsOf o.id s = .some []) (hrev : C → s.desk.review = .none) : Inv P C (afterGrant (endOwner o.id out why s)) :=
  (endOwner_passed h ho hp hrev le_rfl).afterGrant_inv (by simp [endOwner])

/-- A cancel that completes at a boundary, with what follows. -/
theorem AtBoundary.cancelNow_inv (h : AtBoundary P C s) (ho : s.arb.owner = .some o.id)
    (hp : pointsOf o.id s = .some o.points) : Inv P C (cancelNow o s) :=
  (h.completeCancel_passed ho hp le_rfl).afterGrant_inv (by simp [completeCancel, endOwner])

/-! ## Reaching a boundary -/

/-- An owner whose current point is recorded finally is at a boundary. -/
theorem AtBoundary.ofRecord {st : RecState} {why : Reason} (hb : Books P C (s.seq.impressions.length + inHand s) s)
    (ho : s.arb.owner = .some o.id) (hst : st ≠ .review) (hpur : C → s.seq.purpose = .none) (hrev : C → s.desk.review = .none)
    (hmode : C → ModeFits s) : AtBoundary P C (recordCurrent o st why s) :=
  ⟨by rw [recordCurrent_seq]; exact hb.recordCurrent ho hst, by simp [ho], by simp, by simpa using hpur, by simpa using hrev,
    fun hC => (hmode hC).recordCurrent o st why⟩

/-- The same from a head in order, the motion of which has ended. -/
theorem Inv.record_boundary {st : RecState} {why : Reason} (h : Inv P C s) (e : SameHead s t) (ho : s.arb.owner = .some o.id)
    (hst : st ≠ .review) (ec : t.seq.cur.isSome = s.seq.cur.isSome) (ei : t.seq.impressions = s.seq.impressions)
    (hpur : C → t.seq.purpose = .none) (hrev : C → s.seq.state ≠ .reviewWait) : AtBoundary P C (recordCurrent o st why t) := by
  refine AtBoundary.ofRecord ((h.books.congr e).hand fun hC => ?_) (by rw [e.owner, ho]) hst hpur
    (fun hC => by rw [e.desk]; exact h.review_none hC (hrev hC)) (fun hC => (h.seq.mode hC).congr e ei)
  simp [handTotal, inHand, ec, ei, h.review_none hC (hrev hC)]; omega

/-- An owner with no current point, outside RETRACT and REVIEW_WAIT, is at a boundary. -/
theorem Inv.atBoundary (h : Inv P C s) (e : SameHead s t) (hs : s.seq.state ≠ .idle)
    (hrev : C → s.seq.state ≠ .reviewWait) (hc : C → t.seq.cur = .none) (hcs : C → s.seq.cur = .none)
    (ei : t.seq.impressions = s.seq.impressions) (hpur : C → t.seq.purpose = .none) : AtBoundary P C t := by
  refine ⟨(h.books.congr e).hand fun hC => ?_, fun e' => absurd e' (by rw [e.owner]; exact h.owner_ne hs), hc, hpur,
    fun hC => by rw [e.desk]; exact h.review_none hC (hrev hC), fun hC => (h.seq.mode hC).congr e ei⟩
  simp [handTotal, inHand, hcs hC, ei, h.review_none hC (hrev hC)]

end Sys2Proof.Proofs.Orders

/-! # The review desk and the books (R125, R131, R134, R141) -/

namespace Sys2Proof.Proofs.Orders
open Sys2Proof Sys2Proof.Machine

variable {P C : Prop} {n m : Nat} {s t : State} {o : Order}

/-! ## The opening of a review -/

/-- The record in REVIEW and the review opened over it: the desk is over its records. -/
theorem DeskFits.openOver {owner : Option Nat} {u : ResultStore} {d : ReviewDesk} {r : Record} {v : Review} {w : Nat}
    (h : DeskFits owner u.records d) (hs : StoreFits u) (hn : d.review = .none) (hr : r.state = .review) (hq : r.seq = u.nextSeq)
    (hv : v.seq = u.nextSeq) (ho : owner = .some v.orderId) :
    DeskFits owner (u.records ++ [r]) { review := .some v, window := .some w } := by
  refine ⟨rfl, fun x hx => ?_, fun y hy => ?_⟩
  · rcases List.mem_append.1 hx with hx | hx
    · have h1 := h.state x hx
      have h2 := hs.below x hx
      rw [hn] at h1
      exact iff_of_false (fun e => by simpa using h1.1 e) (by simp [hv]; omega)
    · obtain rfl : x = r := by simpa using hx
      simp [hr, hv, hq]
  · obtain rfl : v = y := by simpa using hy
    exact ⟨ho, by simp [hv, hq]⟩

/-- Writing a record in REVIEW for the owner and opening the review over it leaves the number in hand. -/
theorem Books.openReview {v : Review} {w : Nat} {r : Record} (h : Books P C n s) (ho : s.arb.owner = .some o.id)
    (hn : C → s.desk.review = .none) (hr : r.state = .review) (hp : r.origin = o.origin) (hv : v.seq = s.store.nextSeq)
    (hvo : v.orderId = o.id)
    (et : t.table.orders = (Machine.writeRecord o r s).table.orders) (ea : t.arb.owner = s.arb.owner) (ep : t.poolFree = s.poolFree)
    (es : t.store = (Machine.writeRecord o r s).store) (ed : t.desk = { review := .some v, window := .some w }) : Books P C n t := by
  refine h.map (g := fun x => if x.id = o.id then noteSeq s.store.nextSeq x else x) (fun x _ => ?_) (fun x hx => ?_)
    (by rw [et, writeRecord_orders]; simp [hr]) ea ep (fun hC => ?_) (fun hC => ?_)
  · split <;> exact ⟨rfl, rfl, fun e => e, fun _ => rfl⟩
  · have := h.head.fits x hx
    split
    · exact ⟨this.active, this.held⟩
    · exact this
  · rw [es]; exact (h.store hC).writeRecord hp
  · rw [es, ed, (writeRecord_store o r s).1]
    exact (h.desk hC).openOver (h.store hC) (hn hC) hr rfl hv (by rw [ho, hvo])

/-- A review opens over the current point of the owner (R125). -/
theorem Inv.openReview {why : Reason} (h : Inv P C s) (ho : s.arb.owner = .some o.id)
    (hc : C → s.seq.cur.isSome = true) (hs : s.seq.state ≠ .retract ∧ s.seq.state ≠ .reviewWait) (hstop : s.seq.stopFlag = false) :
    Inv P C (openReview o why s) := by
  have hpur := fun hC => h.purpose_none hC hs.1
  have hrev := fun hC => h.review_none hC hs.2
  have hseq : (Machine.openReview o why s).seq = { s.seq with state := .reviewWait, cur := .none } := by
    simp [Machine.openReview]
  have hdesk : (Machine.openReview o why s).desk
      = { review := .some { seq := s.store.nextSeq, orderId := o.id, claimant := .none }, window := .some (o.window * 1000) } := by
    simp [Machine.openReview]
  have howner : (Machine.openReview o why s).arb.owner = .some o.id := by simp [Machine.openReview, ho]
  have hpool : (Machine.openReview o why s).poolFree = s.poolFree := by simp [Machine.openReview]
  have hhead : (Machine.openReview o why s).table.orders = (recordCurrent o .review why s).table.orders
      ∧ (Machine.openReview o why s).store = (recordCurrent o .review why s).store := by simp [Machine.openReview]
  have hmode : C → ModeFits (Machine.openReview o why s) := fun hC =>
    ((h.seq.mode hC).recordCurrent o .review why).map (g := id) (by simpa using hhead.1) (fun x => ⟨rfl, rfl⟩)
      (by simp) (by simp [hseq])
  have hbooks : Books P C (handTotal (Machine.openReview o why s)) (Machine.openReview o why s) := by
    rcases recordCurrent_cases o .review why s with ⟨hcur, e⟩ | ⟨c, hcur, e⟩
    · rw [e] at hhead
      have hC : ¬C := fun hC => by simpa [hcur] using hc hC
      exact h.books.map (g := fun x => x) (fun x _ => ⟨rfl, rfl, fun e => e, fun _ => rfl⟩) h.books.head.fits
        (by simpa using hhead.1) (by rw [howner, ho]) hpool (fun hC' => absurd hC' hC) (fun hC' => absurd hC' hC) |>.hand
        fun hC' => absurd hC' hC
    · rw [e] at hhead
      refine (h.books.openReview ho hrev (r := recordOf o c .review why s) rfl rfl rfl rfl hhead.1 (by rw [howner, ho]) hpool
        hhead.2 hdesk).hand fun hC => ?_
      simp [handTotal, inHand, hseq, hdesk, hcur, hrev hC]; omega
  refine Rest.unstopped ⟨hbooks, ⟨?_, ?_, ?_, ?_, ?_, ?_, ?_, ?_, ?_, hmode⟩⟩ (by rw [hseq]; exact hstop)
  · simp [ho, hseq]
  · simp [ho]
  · simp [returnReserve, hseq]
  · simp [hseq, SeqState.holdsPoint]
  · simp [hseq]
  · simpa [hseq] using hpur
  · intro hC; simp [hseq, hpur hC]
  · simp [hseq, hdesk]
  · simp [hseq]

/-- A failure opens a review or is recorded, which is a boundary (R59). -/
theorem Inv.handleFailure {why : Reason} (h : Inv P C s) (hc : C → s.seq.cur.isSome = true)
    (hs : s.seq.state ≠ .retract ∧ s.seq.state ≠ .reviewWait) (hstop : s.seq.stopFlag = false) : Inv P C (handleFailure why s) := by
  unfold Machine.handleFailure
  split
  · exact h
  · next o ho =>
    obtain ⟨-, hown, -⟩ := h.owner ho
    split
    · exact h.openReview hown hc hs hstop
    · exact (h.record_boundary ⟨rfl, rfl, rfl, rfl, rfl⟩ hown (by simp) rfl rfl (fun hC => h.purpose_none hC hs.1)
        (fun _ => hs.2)).boundary_inv (by simpa using hstop)

/-! ## The close of a review -/

/-- What a close makes of the record in REVIEW: a final record of the same seq and port. -/
structure Closes (change : Record → Record) : Prop where
  seq : ∀ x, (change x).seq = x.seq
  origin : ∀ x, (change x).origin = x.origin
  state : ∀ x, (change x).state ≠ .review

theorem closes_unmeasured (why : Reason) : Closes (Record.unmeasured why) := ⟨fun _ => rfl, fun _ => rfl, by simp [Record.unmeasured]⟩

theorem closes_manual (o : Order) (d1 d2 : Nat) : Closes (manualRecord o d1 d2) :=
  ⟨fun _ => rfl, fun _ => rfl, by simp [manualRecord]⟩

/-- A record changed in place, its seq and port kept, leaves the store in order. -/
theorem StoreFits.change {u : ResultStore} {f : Record → Record} (h : StoreFits u) (hf : ∀ x, (f x).seq = x.seq ∧ (f x).origin = x.origin) :
    StoreFits { u with records := u.records.map f } := by
  obtain ⟨h1, h2, h3, h4⟩ := h
  have e1 : (u.records.map f).map (·.seq) = u.records.map (·.seq) := by
    rw [List.map_map]; exact List.map_congr_left fun x _ => (hf x).1
  have e2 (p : Port) : (u.records.map f).countP (·.origin = p) = u.records.countP (·.origin = p) := by
    rw [List.countP_map]; exact List.countP_congr fun x _ => by simp [(hf x).2]
  refine ⟨by rwa [e1], fun r hr => ?_, by rw [e2]; exact h3, by rw [e2]; exact h4⟩
  obtain ⟨x, hx, rfl⟩ := List.mem_map.1 hr
  rw [(hf x).1]; exact h2 x hx

/-- The desk after the close of its review: no record is in REVIEW. -/
theorem DeskFits.closed {owner : Option Nat} {u : List Record} {d : ReviewDesk} {v : Review} {change : Record → Record}
    (h : DeskFits owner u d) (hv : d.review = .some v) (hc : Closes change) :
    DeskFits owner (u.map fun x => if x.seq = v.seq then change x else x) { review := .none, window := .none } := by
  refine ⟨rfl, fun r hr => ?_, nofun⟩
  obtain ⟨x, hx, rfl⟩ := List.mem_map.1 hr
  refine iff_of_false ?_ nofun
  split
  · exact hc.state x
  · next hne =>
    intro e
    have := (h.state x hx).1 e
    simp [hv] at this
    exact hne this.symm

/-- The desk after a review: its orders reported to, its record changed, and its other blocks kept. -/
@[simp] theorem closeReview_rest (out : ReviewOutcome) (change : Record → Record) (s : State) :
    (closeReview out change s).seq = s.seq ∧ (closeReview out change s).arb = s.arb
      ∧ (closeReview out change s).poolFree = s.poolFree := by
  unfold closeReview
  split
  · simp
  · dsimp only
    split <;> simp [postReviewClosed, clearDesk]

/-- The blocks that a close changes, where a review is open. -/
theorem closeReview_some {v : Review} {out : ReviewOutcome} {change : Record → Record} (hv : s.desk.review = .some v) :
    (closeReview out change s).desk = { review := .none, window := .none }
      ∧ (closeReview out change s).store
          = { s.store with records := s.store.records.map fun x => if x.seq = v.seq then change x else x }
      ∧ (findRecord v.seq s = .none → (closeReview out change s).table = s.table)
      ∧ ∀ x, findRecord v.seq s = .some x →
          (closeReview out change s).table.orders
            = s.table.orders.map fun y => if y.id = v.orderId then reportRecord (change x) y else y := by
  unfold closeReview
  rw [hv]
  dsimp only
  cases hf : findRecord v.seq s with
  | none => simp [postReviewClosed, clearDesk]
  | some x => simp [postReviewClosed, clearDesk]

/-- A final close turns the record in REVIEW into a final record of the owner (R141, R148). -/
theorem Books.closeReview {out : ReviewOutcome} {change : Record → Record} {v : Review} (h : Books P C (n + 1) s)
    (hv : s.desk.review = .some v) (hc : Closes change) : Books P C n (closeReview out change s) := by
  obtain ⟨ed, es, hnone, hsome⟩ := closeReview_some (out := out) (change := change) hv
  obtain ⟨-, ea, ep⟩ := closeReview_rest out change s
  have hst : C → StoreFits (Machine.closeReview out change s).store := fun hC => by
    rw [es]
    refine (h.store hC).change fun x => ?_
    split
    · exact ⟨hc.seq x, hc.origin x⟩
    · exact ⟨rfl, rfl⟩
  have hdk : C → DeskFits s.arb.owner (Machine.closeReview out change s).store.records (Machine.closeReview out change s).desk :=
    fun hC => by rw [es, ed]; exact (h.desk hC).closed hv hc
  by_cases hC : C
  · obtain ⟨how, hseq⟩ := (h.desk hC).review v hv
    obtain ⟨y, hy, hyid, -⟩ := h.owner_find how
    obtain ⟨x, hx⟩ : ∃ x, findRecord v.seq s = .some x := by
      obtain ⟨x, hx, e⟩ := List.mem_map.1 hseq
      exact Option.isSome_iff_exists.1 (List.find?_isSome.2 ⟨x, hx, by simpa using e⟩)
    have hfit := h.head.fits y hy
    refine h.update hy (f := reportRecord (change x)) (by rw [hsome x hx, hyid]) (by rw [ea]) (by simp) ?_ (fun hP => ?_)
      (fun _ => ⟨?_, .inr (by rw [how, hyid])⟩) hst hdk
    · exact ⟨by simpa using hfit.active, by simpa using hfit.held⟩
    · exact ⟨by simp, by simpa [EndClean] using (h.pool hP).ended y hy⟩
    · have hcnt := h.counts hC y hy
      obtain ⟨h1, h2, -⟩ := countRecord_final (hc.state x) y.counts
      simp only [CountFits, how, hyid, if_true] at hcnt
      simp [CountFits, h1, h2, hcnt, how, hyid]; omega
  · cases hf : findRecord v.seq s with
    | none =>
      exact h.map (g := fun y => y) (fun y _ => ⟨rfl, rfl, fun e => e, fun _ => rfl⟩) h.head.fits (by simp [hnone hf])
        (by rw [ea]) ep hst hdk |>.hand fun hC' => absurd hC' hC
    | some x =>
      have same : ∀ y ∈ s.table.orders, SameBooks C y (if y.id = v.orderId then reportRecord (change x) y else y) := fun y _ => by
        split
        · exact ⟨by simp, by simp, by simp, by simp, by simp, by simp, fun hC' => absurd hC' hC⟩
        · exact ⟨rfl, rfl, rfl, rfl, rfl, rfl, fun _ => rfl⟩
      exact h.map (fun y hy => (same y hy).carries) (fun y hy => (h.head.fits y hy).same (same y hy)) (hsome x hf) (by rw [ea]) ep
        hst hdk |>.hand fun hC' => absurd hC' hC

theorem ModeFits.closeReview {out : ReviewOutcome} {change : Record → Record} (h : ModeFits s) :
    ModeFits (closeReview out change s) := by
  obtain ⟨eq, ea, -⟩ := closeReview_rest out change s
  cases hv : s.desk.review with
  | none => simpa [Machine.closeReview, hv] using h
  | some v =>
    obtain ⟨-, -, hnone, hsome⟩ := closeReview_some (out := out) (change := change) hv
    cases hf : findRecord v.seq s with
    | none => exact h.map (g := fun y => y) (by simp [hnone hf]) (fun x => ⟨rfl, rfl⟩) (by rw [ea]) (by rw [eq])
    | some x => exact h.map (hsome x hf) (fun y => by split <;> simp) (by rw [ea]) (by rw [eq])

/-- After a final close in REVIEW_WAIT the owner is at a boundary. -/
theorem Inv.closeReview_boundary {out : ReviewOutcome} {change : Record → Record} (h : Inv P C s) (hc : Closes change)
    (hs : s.seq.state = .reviewWait) : AtBoundary P C (closeReview out change s) := by
  obtain ⟨eq, ea, -⟩ := closeReview_rest out change s
  have hn := fun hC => h.seq.noPoint hC (by simp [hs, SeqState.holdsNone])
  have hsome := fun hC => (h.seq.review hC).2 hs
  refine ⟨?_, ?_, by rw [eq]; exact hn, by rw [eq]; exact fun hC => h.purpose_none hC (by simp [hs]), fun hC => ?_,
    fun hC => (h.seq.mode hC).closeReview⟩
  · rw [eq]
    cases hv : s.desk.review with
    | none =>
      have : Machine.closeReview out change s = s := by simp [Machine.closeReview, hv]
      rw [this]
      exact h.books.hand fun hC => by simpa [hv] using hsome hC
    | some v =>
      refine Books.closeReview (h.books.hand fun hC => ?_) hv hc
      simp [handTotal, inHand, hn hC, hv]
  · rw [ea]; exact fun e => absurd e (h.owner_ne (by simp [hs]))
  · obtain ⟨v, hv⟩ := Option.isSome_iff_exists.1 (hsome hC)
    rw [(closeReview_some hv).1]

/-- A final close, and the boundary that follows it (R131). -/
theorem Inv.afterClose {out : ReviewOutcome} {change : Record → Record} (h : Inv P C s) (hc : Closes change)
    (hr : s.desk.review.isSome = true) : Inv P C (afterClose (closeReview out change s)) := by
  unfold Machine.afterClose
  obtain ⟨eq, ea, ep⟩ := closeReview_rest out change s
  split
  · next hs =>
    rw [eq] at hs
    exact (h.closeReview_boundary hc hs).boundary_inv (by rw [eq]; exact h.unstopped (by simp [hs, SeqState.stoppable]))
  · next hs =>
    rw [eq] at hs
    have hC : ¬C := fun hC => hs ((h.seq.review hC).1 hr)
    obtain ⟨v, hv⟩ := Option.isSome_iff_exists.1 hr
    obtain ⟨q1, q2, q3, -⟩ := h.seq
    refine ⟨⟨Books.closeReview (h.books.hand fun hC' => absurd hC' hC) hv hc, ?_⟩, ?_⟩
    · exact ⟨by rw [ea, eq]; exact q1, by rw [ea, eq]; exact q2, by simpa [returnReserve, eq, ep] using q3,
        fun hC' => absurd hC' hC, fun hC' => absurd hC' hC, fun hC' => absurd hC' hC, fun hC' => absurd hC' hC,
        fun hC' => absurd hC' hC, fun hC' => absurd hC' hC, fun hC' => absurd hC' hC⟩
    · exact ⟨by rw [ea, eq]; exact h.stop.bare, by rw [eq]; exact h.stop.stop⟩

/-! ## A superseded review -/

/-- Over increasing seqs, dropping the record of one seq drops that record alone. -/
theorem countP_filter_seq {l : List Record} (hl : (l.map (·.seq)).Pairwise (· < ·)) {x : Record} (hx : x ∈ l) (p : Record → Bool) :
    l.countP p = (l.filter (·.seq ≠ x.seq)).countP p + if p x then 1 else 0 := by
  induction l with
  | nil => simp at hx
  | cons a l ih =>
    simp only [List.map_cons, List.pairwise_cons, List.mem_map, forall_exists_index, and_imp, forall_apply_eq_imp_iff₂] at hl
    rcases List.mem_cons.1 hx with rfl | hm
    · have : l.filter (·.seq ≠ x.seq) = l := List.filter_eq_self.2 fun y hy => by
        have := hl.1 y hy; simp; omega
      rw [List.countP_cons, List.filter_cons_of_neg (by simp), this]
    · have hne : a.seq ≠ x.seq := by have := hl.1 x hm; omega
      have := ih hl.2 hm
      simp only [ne_eq, decide_not] at this
      simp [List.countP_cons, hne, this]; omega

@[simp] theorem setWaiting_rest (u : ResultStore) (p : Port) (k : Nat) :
    (u.setWaiting p k).records = u.records ∧ (u.setWaiting p k).nextSeq = u.nextSeq
      ∧ (u.setWaiting p k).waitingA = (if p = .A then k else u.waitingA)
      ∧ (u.setWaiting p k).waitingB = (if p = .B then k else u.waitingB) := by
  cases p <;> simp [ResultStore.setWaiting]

/-- The record of a superseded review leaves the store in order. -/
theorem StoreFits.drop {u : ResultStore} {x : Record} (h : StoreFits u) (hx : x ∈ u.records) :
    StoreFits { u.setWaiting x.origin (u.waiting x.origin - 1) with records := u.records.filter (·.seq ≠ x.seq) } := by
  obtain ⟨h1, h2, h3, h4⟩ := h
  have hA := countP_filter_seq h1 hx (·.origin = .A)
  have hB := countP_filter_seq h1 hx (·.origin = .B)
  refine ⟨?_, fun r hr => ?_, ?_, ?_⟩
  · exact h1.sublist (List.Sublist.map _ List.filter_sublist)
  · simpa using h2 r (List.mem_of_mem_filter hr)
  · cases ho : x.origin <;> simp [ho, ResultStore.waiting] at hA ⊢ <;> omega
  · cases ho : x.origin <;> simp [ho, ResultStore.waiting] at hB ⊢ <;> omega

/-- The desk once the record of its review has left the store. -/
theorem DeskFits.dropped {owner : Option Nat} {u : List Record} {d : ReviewDesk} {v : Review} (h : DeskFits owner u d)
    (hv : d.review = .some v) : DeskFits owner (u.filter (·.seq ≠ v.seq)) { review := .none, window := .none } := by
  refine ⟨rfl, fun r hr => iff_of_false (fun e => ?_) nofun, nofun⟩
  obtain ⟨hm, hne⟩ := List.mem_filter.1 hr
  have := (h.state r hm).1 e
  simp [hv] at this
  simp [this] at hne

/-- The state in which the record `x` of a superseded review `v` has left the store and its impression is the current point. -/
def superseded (v : Review) (x : Record) (s : State) : State :=
  (postReviewClosed v .superseded (clearDesk (s.modStore fun t =>
    { t.setWaiting x.origin (t.waiting x.origin - 1) with records := t.records.filter (·.seq ≠ v.seq) }))).modSeq fun q =>
      { q with cur := .some (CurPoint.ofRecord x) }

theorem supersedeReview_some {v : Review} {x : Record} (hv : s.desk.review = .some v) (hx : findRecord v.seq s = .some x) :
    supersedeReview o s = enterMoveView o (superseded v x s) := by
  simp [supersedeReview, hv, hx, superseded]

@[simp] theorem superseded_rest (v : Review) (x : Record) (s : State) :
    (superseded v x s).table = s.table ∧ (superseded v x s).arb = s.arb ∧ (superseded v x s).poolFree = s.poolFree
      ∧ (superseded v x s).store
        = { s.store.setWaiting x.origin (s.store.waiting x.origin - 1) with records := s.store.records.filter (·.seq ≠ v.seq) }
      ∧ (superseded v x s).desk = { review := .none, window := .none }
      ∧ (superseded v x s).seq = { s.seq with cur := .some (CurPoint.ofRecord x) } := by
  simp [superseded, clearDesk]

/-- A superseded review gives its impression back to the hand, and the sequencer views it (R134). -/
theorem Inv.supersedeReview (h : Inv P C s) (hs : s.seq.state = .reviewWait) : Inv P C (supersedeReview o s) := by
  cases hv : s.desk.review with
  | none => simpa [Machine.supersedeReview, hv] using h
  | some v =>
    cases hx : findRecord v.seq s with
    | none => simpa [Machine.supersedeReview, hv, hx] using h
    | some x =>
      obtain ⟨hm, hxs⟩ : x ∈ s.store.records ∧ x.seq = v.seq :=
        ⟨List.mem_of_find?_eq_some hx, by simpa using List.find?_some hx⟩
      have hb : Books P C (s.seq.impressions.length + 1) (superseded v x s) := by
        refine (h.books.map (g := id) (fun y _ => ⟨rfl, rfl, fun e => e, fun _ => rfl⟩) h.books.head.fits (by simp) (by simp)
          (by simp) (fun hC => ?_) (fun hC => ?_)).hand fun hC => ?_
        · simpa [hxs] using (h.books.store hC).drop hm
        · simpa using (h.books.desk hC).dropped hv
        · simp [handTotal, inHand, hv, h.seq.noPoint hC (by simp [hs, SeqState.holdsNone])]
      rw [supersedeReview_some hv hx]
      refine Rest.unstopped (Rest.ofMove (s := superseded v x s) (by simpa using hb) ?_ (by constructor <;> simp) (.inr (by simp))
        (by simp) (by simp) ?_ (by simp) fun hC => ?_) ?_
      · simpa using h.owner_ne (by simp [hs])
      · simpa using fun hC => h.purpose_none hC (by simp [hs])
      · exact ModeFits.map (h.seq.mode hC) (g := id) (by simp) (fun y => ⟨rfl, rfl⟩) (by simp) (by simp)
      · simpa using h.unstopped (by simp [hs, SeqState.stoppable])

end Sys2Proof.Proofs.Orders

/-! # The operations of the cycle keep the head, the pool and the counts -/

namespace Sys2Proof.Proofs.Orders
open Sys2Proof Sys2Proof.Machine

variable {P C : Prop} {n m : Nat} {s t : State} {o : Order}

theorem pointsOf_owner (h : ownerOf s = .some o) (hn : (s.table.orders.map (·.id)).Nodup) : pointsOf o.id s = .some o.points := by
  rw [pointsOf, findOrder_eq hn (ownerOf_some h).1]; rfl

theorem pointsOf_congr (e : t.table.orders = s.table.orders) (id : Nat) : pointsOf id t = pointsOf id s := by
  simp [pointsOf, findOrder, e]

/-! ## The abort path (R66, R67) -/

/-- The work stopped by an abort: the timers but the retract's, the stop flag, the stage and the view. -/
def halted (s : State) : State :=
  stopView (stopStage ((s.modTimers fun t =>
    { t with stage := .none, turret := .none, approach := .none, unload := .none, starvation := .none }).modSeq
      fun q => { q with stopFlag := false }))

theorem halted_sameHead (s : State) : SameHead s (halted s) := by constructor <;> simp [halted]

@[simp] theorem halted_seq (s : State) :
    (halted s).seq = { s.seq with
      cur := s.seq.cur.map fun c => { c with framesUsed := 0, softFocus := false }, stopFlag := false
      timers := { s.seq.timers with stage := .none, turret := .none, approach := .none, unload := .none, starvation := .none } } := by
  simp [halted]

/-- The abort path of an owner, up to the abort records. -/
theorem abortPath_false (why : AbortReason) (ho : ownerOf s = .some o) : abortPath why false s = enterRetract (.abort why)
    (if s.seq.state = .reviewWait then closeReview .aborted (Record.unmeasured .aborted) (halted s) else halted s) := by
  simp [abortPath, ho, halted]

/-- Where the retract time is spent the abort records follow. -/
theorem abortPath_true (why : AbortReason) (ho : ownerOf s = .some o) :
    abortPath why true s = abortRecords why (abortPath why false s) := by
  simp [abortPath, ho]

/-- The owner's current point with the force values it has gathered, and the retract timer stopped (R67). -/
def gathered (s : State) : State :=
  (s.modTimers fun t => { t with retract := .none }).modSeq fun q => { q with cur := q.cur.map (abortPoint s.force) }

/-- The state of the abort record of the current point (R67). -/
def abortState (s : State) : RecState := if (s.seq.cur.map (·.indented)).getD false then .unmeasured else .skipped

theorem abortRecords_some (why : AbortReason) (ho : ownerOf s = .some o) : abortRecords why s =
    afterGrant (endOwner o.id .aborted (.some why)
      (discardPoints o (flushImpressions o .aborted (recordCurrent o (abortState s) .aborted (gathered s))))) := by
  simp [abortRecords, ho, gathered, abortState]

/-- The abort records end an owner whose current point and impressions are what is in hand. -/
theorem abortRecords_inv {why : AbortReason} (hb : Books P C (s.seq.impressions.length + inHand s) s) (ho : ownerOf s = .some o)
    (hrev : C → s.desk.review = .none) : Inv P C (abortRecords why s) := by
  have hown := (ownerOf_some ho).2
  have hg : Books P C (s.seq.impressions.length + inHand (gathered s)) (gathered s) :=
    (hb.congr (t := gathered s) ⟨rfl, rfl, rfl, rfl, rfl⟩).hand fun _ => by simp [inHand, gathered]
  have hst : abortState s ≠ .review := by unfold abortState; split <;> simp
  rw [abortRecords_some why ho]
  refine (windUp_passed (s := recordCurrent o _ _ _) ?_ ?_ ?_ ?_ le_rfl).afterGrant_inv (by simp [endOwner])
  · rw [recordCurrent_seq]; exact hg.recordCurrent hown hst
  · simpa [gathered] using hown
  · rw [pointsOf_recordCurrent, ← pointsOf_owner ho hb.head.ids]; exact pointsOf_congr rfl _
  · simpa [gathered] using hrev

theorem Inv.abortRecords {why : AbortReason} (h : Inv P C s) (hs : s.seq.state = .retract) : Inv P C (abortRecords why s) := by
  cases ho : ownerOf s with
  | none => simpa [Machine.abortRecords, ho] using h
  | some o =>
    have hrev := fun hC => h.review_none hC (by simp [hs])
    exact abortRecords_inv (h.books.hand fun hC => by simp [handTotal, hrev hC]; omega) ho hrev

/-- An order that holds the head takes the abort path. -/
theorem Inv.abortPath {why : AbortReason} {spent : Bool} (h : Inv P C s) : Inv P C (abortPath why spent s) := by
  cases ho : ownerOf s with
  | none => simpa [Machine.abortPath, ho] using h
  | some o =>
    obtain ⟨-, hown, hidle⟩ := h.owner ho
    have retracted : Inv P C (Machine.abortPath why false s) := by
      rw [abortPath_false why ho]
      split
      · next hs =>
        have hw : SameWork s (halted s) := by
          have := h.unstopped (by simp [hs, SeqState.stoppable])
          refine ⟨halted_sameHead s, ?_, ?_, ?_, ?_, ?_⟩ <;> simp [this]
        have hb := (h.same hw).closeReview_boundary (out := .aborted) (closes_unmeasured .aborted) (by simpa using hs)
        obtain ⟨eq, ea, -⟩ := closeReview_rest .aborted (Record.unmeasured .aborted) (halted s)
        refine Inv.ofRetract (why := .abort why) ((hb.books.congr (by constructor <;> simp)).hand fun hC => ?_) ?_ (by simp) (by simp)
          (by simp [RetractPurpose.keepsPoint]) (by simpa using hb.review) (fun hC => (hb.mode hC).congr (by constructor <;> simp)
          (by simp)) (by simp)
        · have h1 := hb.noPoint hC
          rw [eq] at h1
          simp [handTotal, inHand, hb.review hC]; simpa using h1
        · simp [(halted_sameHead s).owner, hown]
      · next hs =>
        exact h.retract (why := .abort why) ((halted_sameHead s).trans (by constructor <;> simp)) hidle (fun _ => hs) (by simp) (by simp)
          (by simp [RetractPurpose.keepsPoint]) (by simp) (by simp) (by simp)
    cases spent
    · exact retracted
    · rw [abortPath_true why ho]
      exact retracted.abortRecords (by simp [abortPath_false why ho])

/-! ## Retracts, stops and unloads (R56, R61, R62) -/

/-- The retract over: its timer stopped and its purpose gone. -/
def retractOver (s : State) : State :=
  (s.modTimers fun t => { t with retract := .none }).modSeq fun q => { q with purpose := .none }

theorem retractOver_sameHead (s : State) : SameHead s (retractOver s) := ⟨rfl, rfl, rfl, rfl, rfl⟩

@[simp] theorem retractOver_seq (s : State) : (retractOver s).seq
    = { s.seq with purpose := .none, timers := { s.seq.timers with retract := .none } } := rfl

theorem finishRetract_eq (s : State) : finishRetract s =
    match ownerOf s, s.seq.purpose with
    | .some o, .some .cancel => boundary (recordCurrent o .skipped .cancelled (retractOver s))
    | .some o, .some .noContact => boundary (recordCurrent o .skipped .noContact (retractOver s))
    | .some _, .some (.abort why) => abortRecords why (retractOver s)
    | _, _ => retractOver s := rfl

theorem Inv.finishRetract (h : Inv P C s) (hs : s.seq.state = .retract) : Inv P C (finishRetract s) := by
  have hstop := h.unstopped (by simp [hs, SeqState.stoppable])
  have hrev : C → s.seq.state ≠ .reviewWait := fun _ => by simp [hs]
  have hnone := fun hC => h.review_none hC (hrev hC)
  cases ho : ownerOf s with
  | none => exact absurd (h.seq.idle.1 (h.owner_none ho)) (by simp [hs])
  | some o =>
    have hown := (h.owner ho).2.1
    have skipped (why : Reason) : Inv P C (boundary (recordCurrent o .skipped why (retractOver s))) :=
      (h.record_boundary (retractOver_sameHead s) hown (by simp) rfl rfl (fun _ => rfl) hrev).boundary_inv (by simpa using hstop)
    rw [finishRetract_eq, ho]
    cases hp : s.seq.purpose with
    | none => exact h.same ⟨retractOver_sameHead s, rfl, rfl, rfl, by simp [hp], rfl⟩
    | some p =>
      cases p with
      | cancel => exact skipped .cancelled
      | noContact => exact skipped .noContact
      | abort why =>
        have hand : inHand (retractOver s) = inHand s := rfl
        refine abortRecords_inv ((h.books.congr (retractOver_sameHead s)).hand fun hC => ?_) (o := o) ho hnone
        simp [handTotal, hnone hC, hand]; omega

/-- The interlock stop over: its timer stopped and its flag cleared. -/
def stopOver (s : State) : State :=
  (s.modTimers fun t => { t with retract := .none }).modSeq fun q => { q with stopFlag := false }

theorem stopOver_sameHead (s : State) : SameHead s (stopOver s) := ⟨rfl, rfl, rfl, rfl, rfl⟩

@[simp] theorem stopOver_seq (s : State) : (stopOver s).seq
    = { s.seq with stopFlag := false, timers := { s.seq.timers with retract := .none } } := rfl

theorem Inv.stopOver (h : Inv P C s) : Inv P C (stopOver s) :=
  ⟨⟨h.books.congr (stopOver_sameHead s), ⟨h.seq.idle, h.seq.bare, h.seq.reserve, h.seq.point, h.seq.noPoint, h.seq.purpose,
    h.seq.keeps, h.seq.review, h.seq.await, h.seq.mode⟩⟩, ⟨fun _ => rfl, nofun⟩⟩

/-- An order whose interrupted point goes back to the front of its list (R34, R39). -/
def takingBack (p : Point) (o : Order) : Order :=
  rearmLowWater { o with points := p :: o.points, counts := { o.counts with taken := o.counts.taken - 1 } }

@[simp] theorem takingBack_rest (p : Point) (o : Order) :
    (takingBack p o).id = o.id ∧ (takingBack p o).status = o.status ∧ (takingBack p o).holds = o.holds
      ∧ (takingBack p o).points.length = o.points.length + 1 ∧ (takingBack p o).mode = o.mode
      ∧ (takingBack p o).counts = { o.counts with taken := o.counts.taken - 1 } := by
  unfold takingBack rearmLowWater
  split <;> simp

theorem returnPoint_some {c : CurPoint} (h : s.seq.cur = .some c) : returnPoint o s =
    dropCurrent ((updOrder o.id (takingBack c.toPoint) s).setPoolFree (s.poolFree - 1)) := by
  simp only [returnPoint, h]; rfl

@[simp] theorem returnPoint_seq (o : Order) (s : State) : (returnPoint o s).seq = { s.seq with cur := .none } := by
  cases h : s.seq.cur with
  | none => simp only [returnPoint, h]; rw [← h]
  | some c => simp [returnPoint_some h]

/-- The states that keep the return reserve work on a current point. -/
theorem reserve_holdsPoint (h : returnReserve s = 1) : s.seq.state.holdsPoint = true := by
  unfold returnReserve at h
  cases hs : s.seq.state <;> simp_all [SeqState.holdsPoint]

/-- A point goes back to the front of its list, and the owner is at a boundary. -/
theorem Inv.returnPoint_boundary (h : Inv P C s) (ho : ownerOf s = .some o) (hs : returnReserve s = 1) :
    AtBoundary P C (returnPoint o s) := by
  obtain ⟨hmem, hown, hidle⟩ := h.owner ho
  have hw := reserve_holdsPoint hs
  obtain ⟨-, hret, hrw, -⟩ := holdsPoint_ne hw
  have hrev := fun hC => h.review_none hC hrw
  refine ⟨?_, by simp [hown], by simp, by simpa using fun hC => h.purpose_none hC hret, by simpa using hrev, ?_⟩
  · rw [returnPoint_seq]
    cases hc : s.seq.cur with
    | none =>
      have : Machine.returnPoint o s = s := by simp [Machine.returnPoint, hc]
      rw [this]
      exact h.books.hand fun hC => by simpa [hc] using h.seq.point hC hw
    | some c =>
      have hb : Books P C (s.seq.impressions.length + 1) s := h.books.hand fun hC => by
        simp [handTotal, inHand, hc, hrev hC]; omega
      rw [returnPoint_some hc]
      exact (hb.putFront (f := takingBack c.toPoint) hmem hown (fun hP => hs ▸ h.seq.reserve hP) (by simp)).congr (by constructor <;> rfl)
  · intro hC
    cases hc : s.seq.cur with
    | none => simpa [Machine.returnPoint, hc] using h.seq.mode hC
    | some c =>
      rw [returnPoint_some hc]
      exact (h.seq.mode hC).map (updOrder_orders _ _ _) (fun x => by split <;> simp) rfl rfl

/-- A HELD order at a boundary pauses. -/
theorem AtBoundary.pause (h : AtBoundary P C s) (ho : s.arb.owner ≠ .none) (hstop : s.seq.stopFlag = false) :
    Inv P C (enterPaused s) :=
  (h.wait ho (by constructor <;> simp) (by simp) (by simp) (by simp) (by simp) (by simp)).unstopped (by simpa using hstop)

theorem finishStop_eq (s : State) : finishStop s =
    match ownerOf s with
    | .none => stopOver s
    | .some o =>
      if returnReserve s = 1 then
        if o.cancelPending then boundary (recordCurrent o .skipped .cancelled (stopOver s))
        else if o.status = .held then enterPaused (returnPoint o (stopOver s))
        else boundary (returnPoint o (stopOver s))
      else if o.cancelPending then boundary (recordCurrent o .unmeasured .cancelled (stopOver s))
      else if o.status = .held then enterPaused (stopOver s)
      else enterMoveView o (stopOver s) := rfl

/-- The states in which a stop may be in progress work on a current point. -/
theorem stoppable_holdsPoint {q : SeqState} (h : q.stoppable = true) : q.holdsPoint = true := by
  cases q <;> simp_all [SeqState.stoppable, SeqState.holdsPoint]

theorem Inv.finishStop (h : Inv P C s) (hs : s.seq.stopFlag = true) : Inv P C (finishStop s) := by
  have hw := stoppable_holdsPoint (h.stop.stop hs)
  obtain ⟨h1, h2, h3, -⟩ := holdsPoint_ne hw
  have h' : Inv P C (Proofs.Orders.stopOver s) := h.stopOver
  rw [finishStop_eq]
  cases ho : ownerOf s with
  | none => exact h'
  | some o =>
    have hown := (h.owner ho).2.1
    have recorded (st : RecState) (why : Reason) (hst : st ≠ .review) :
        Inv P C (boundary (recordCurrent o st why (Proofs.Orders.stopOver s))) :=
      (h.record_boundary (stopOver_sameHead s) hown hst rfl rfl (fun hC => h.purpose_none hC h2) (fun _ => h3)).boundary_inv
        (by simp)
    dsimp only
    split
    · next hres =>
      have hb : AtBoundary P C (returnPoint o (Proofs.Orders.stopOver s)) := h'.returnPoint_boundary ho hres
      split
      · exact recorded _ _ (by simp)
      · split
        · exact hb.pause (by simp [(stopOver_sameHead s).owner, hown]) (by simp)
        · exact hb.boundary_inv (by simp)
    · split
      · exact recorded _ _ (by simp)
      · split
        · exact h'.pause (by constructor <;> simp) ⟨h1, h2, h3⟩ (by simp) (by simp) (by simp) (by simp) (by simp)
        · exact h'.workOn (by constructor <;> simp) hw (by simp [SeqState.holdsPoint]) (by simp) (by simp) (by simp)
            (by simp [returnReserve]) (by simp)

/-- The unload over: its timer stopped and the force values handed over. -/
def unloadOver (s : State) : State :=
  (s.modTimers fun t => { t with unload := .none }).modSeq fun q => { q with cur := q.cur.map (handOver s.force) }

theorem unloadOver_same (s : State) : SameWork s (unloadOver s) :=
  ⟨⟨rfl, rfl, rfl, rfl, rfl⟩, rfl, by simp [unloadOver], rfl, rfl, rfl⟩

@[simp] theorem unloadOver_seq (s : State) : (unloadOver s).seq
    = { s.seq with cur := s.seq.cur.map (handOver s.force), timers := { s.seq.timers with unload := .none } } := rfl

theorem finishUnload_eq (s : State) : finishUnload s =
    match ownerOf s, (unloadOver s).seq.cur with
    | .some o, .some c =>
      if o.cancelPending then boundary (recordCurrent o .unmeasured .cancelled (unloadOver s))
      else
        match o.mode with
        | .deferred => boundary ((unloadOver s).modSeq fun q =>
            { q with cur := .none, impressions := q.impressions ++ [Impression.ofPoint c] })
        | .immediate =>
          match c.mark with
          | .some m => boundary (recordCurrent o .unmeasured m.reason (unloadOver s))
          | .none => if o.status = .held then enterPaused (unloadOver s) else enterMoveView o (unloadOver s)
    | _, _ => unloadOver s := rfl

theorem Inv.finishUnload (h : Inv P C s) (hs : s.seq.state = .unload) : Inv P C (finishUnload s) := by
  have h' : Inv P C (unloadOver s) := h.same (unloadOver_same s)
  have hw : (unloadOver s).seq.state.holdsPoint = true := by simp [hs, SeqState.holdsPoint]
  obtain ⟨h1, h2, h3, -⟩ := holdsPoint_ne hw
  have hstop : (unloadOver s).seq.stopFlag = false := h.unstopped (by simp [hs, SeqState.stoppable])
  have hpur := fun hC => h'.purpose_none hC h2
  have hrev := fun hC => h'.review_none hC h3
  rw [finishUnload_eq]
  have ho' : ownerOf (unloadOver s) = ownerOf s := rfl
  cases ho : ownerOf s with
  | none => exact h'
  | some o =>
    obtain ⟨hmem, hown, -⟩ := h'.owner (ho'.trans ho)
    cases hc : (unloadOver s).seq.cur with
    | none => exact h'
    | some c =>
      generalize unloadOver s = u at *
      have recorded (why : Reason) : Inv P C (boundary (recordCurrent o .unmeasured why u)) :=
        (h'.record_boundary ⟨rfl, rfl, rfl, rfl, rfl⟩ hown (by simp) rfl rfl hpur (fun _ => h3)).boundary_inv (by simpa using hstop)
      dsimp only
      split
      · exact recorded _
      · split
        · next hmode =>
          refine AtBoundary.boundary_inv ⟨Books.congr (s := u) (h'.books.hand fun hC => ?_) ⟨rfl, rfl, rfl, rfl, rfl⟩,
            by simp [hown], by simp, hpur, hrev, fun hC x hx hx1 hx2 => ?_⟩ hstop
          · simp [handTotal, inHand, hc, hrev hC]; omega
          · have hxo : x = o := eq_of_id_eq h'.books.head.ids hx hmem (by
              have : u.arb.owner = .some x.id := hx1
              simpa [hown] using this.symm)
            simp [hxo, hmode] at hx2
        · split
          · exact recorded _
          · split
            · exact h'.pause (by constructor <;> simp) ⟨h1, h2, h3⟩ (by simp) (by simp) (by simp) (by simp) (by simpa using hstop)
            · exact h'.workOn (by constructor <;> simp) hw (by simp [SeqState.holdsPoint]) (by simp) (by simp) (by simp)
                (by simp [returnReserve]) (by simp [hstop])

theorem Inv.judgeRest {motion : Bool} (h : Inv P C s) : Inv P C (judgeRest motion s) := by
  unfold Machine.judgeRest
  split
  · next hs =>
    split
    · exact h.finishStop hs
    · exact h
  · split
    · next hs =>
      split
      · exact h.finishRetract hs
      · exact h
    · next hs =>
      split
      · exact h.finishUnload hs
      · exact h
    · exact h

end Sys2Proof.Proofs.Orders

/-! # The events of the cycle and of the camera keep the head, the pool and the counts -/

namespace Sys2Proof.Proofs.Orders
open Sys2Proof Sys2Proof.Machine

variable {P C : Prop} {n m : Nat} {s t : State} {o : Order}

/-! ## Moves and samples -/

/-- A move phase is MOVE_INDENT or MOVE_VIEW, with no stop in progress. -/
theorem inMove_iff : inMove s = true ↔ s.seq.stopFlag = false ∧ (s.seq.state = .moveIndent ∨ s.seq.state = .moveView) := by
  simp [inMove]

theorem Inv.judgeMove (h : Inv P C s) : Inv P C (judgeMove s) := by
  unfold Machine.judgeMove
  split
  · next hm =>
    simp only [Bool.and_eq_true] at hm
    obtain ⟨hstop, hs⟩ := inMove_iff.1 hm.1.1
    have hw : s.seq.state.holdsPoint = true := by rcases hs with e | e <;> simp [e, SeqState.holdsPoint]
    split
    · next he =>
      exact h.workOn (by constructor <;> simp) hw (by simp [SeqState.holdsPoint]) (by simp) (by simp) (by simp)
        (by simp [returnReserve, he]) (by simp [hstop])
    · split
      · exact h
      · exact h.workOn (by constructor <;> simp) hw (by simp [SeqState.holdsPoint]) (by simp) (by simp) (by simp)
          (by simp [returnReserve]) (by simp [hstop])
  · exact h

theorem Inv.judgeTurret (h : Inv P C s) : Inv P C (judgeTurret s) := by
  unfold Machine.judgeTurret
  split
  · exact h
  · split
    · exact Inv.judgeMove (h.same ⟨⟨rfl, rfl, rfl, rfl, rfl⟩, rfl, rfl, rfl, rfl, rfl⟩)
    · exact h

theorem Inv.stageDone (h : Inv P C s) : Inv P C (stageDone s) := h.same ⟨⟨rfl, rfl, rfl, rfl, rfl⟩, rfl, rfl, rfl, rfl, rfl⟩

theorem Inv.turretDone (h : Inv P C s) : Inv P C (turretDone s) := h.same ⟨⟨rfl, rfl, rfl, rfl, rfl⟩, rfl, rfl, rfl, rfl, rfl⟩

/-- The sequencer enters UNLOAD from RAMP or DWELL. -/
theorem Inv.enterUnload (h : Inv P C s) (hs : s.seq.state = .ramp ∨ s.seq.state = .dwell) : Inv P C (enterUnload s) := by
  have hstop : s.seq.stopFlag = false := h.unstopped (by rcases hs with e | e <;> simp [e, SeqState.stoppable])
  exact h.workOn (by constructor <;> simp) (by rcases hs with e | e <;> simp [e, SeqState.holdsPoint])
    (by simp [SeqState.holdsPoint]) (by simp) (by simp) (by simp) (by simp [returnReserve]) (by simp [hstop])

theorem Inv.tareSample {count : Int} (h : Inv P C s) (hs : s.seq.state = .tare) (hstop : s.seq.stopFlag = false) :
    Inv P C (tareSample count s) := by
  unfold Machine.tareSample
  dsimp only
  split
  · exact h.same ⟨⟨rfl, rfl, rfl, rfl, rfl⟩, rfl, rfl, rfl, rfl, rfl⟩
  · exact h.workOn (by constructor <;> simp) (by simp [hs, SeqState.holdsPoint]) (by simp [SeqState.holdsPoint]) (by simp) (by simp)
      (by simp) (by simp [returnReserve, hs]) (by simp [hstop])

theorem Inv.approachSample (h : Inv P C s) (hs : s.seq.state = .approach) (hstop : s.seq.stopFlag = false) :
    Inv P C (approachSample o s) := by
  unfold Machine.approachSample contactMade
  split
  · split
    · exact h
    · next c hc =>
      have h1 : Inv P C (updOrder o.id (fun o => { o with lastIndent := .some (c.x, c.y) }) (s.modSeq fun q =>
          { q with cur := .some { c with indented := true }, timers := { q.timers with approach := .none } })) :=
        Inv.updSame (h.same ⟨⟨rfl, rfl, rfl, rfl, rfl⟩, rfl, by simp [hc], rfl, rfl, rfl⟩)
          fun x _ _ => ⟨rfl, rfl, rfl, rfl, rfl, rfl, fun _ => rfl⟩
      exact h1.workOn (by constructor <;> simp [enterRamp]) (by simp [hs, SeqState.holdsPoint])
        (by simp [enterRamp, SeqState.holdsPoint]) (by simp [enterRamp]) (by simp [enterRamp]) (by simp [enterRamp])
        (by simp [returnReserve, enterRamp]) (by simp [enterRamp, hstop])
  · exact h

theorem Inv.rampSample (h : Inv P C s) (hs : s.seq.state = .ramp) : Inv P C (rampSample o s) := by
  have hstop : s.seq.stopFlag = false := h.unstopped (by simp [hs, SeqState.stoppable])
  unfold Machine.rampSample
  dsimp only
  split
  · exact h.same ⟨⟨rfl, rfl, rfl, rfl, rfl⟩, rfl, rfl, rfl, rfl, rfl⟩
  · exact h.workOn (by constructor <;> simp) (by simp [hs, SeqState.holdsPoint]) (by simp [SeqState.holdsPoint]) (by simp) (by simp)
      (by simp) (by simp [returnReserve]) (by simp [hstop])

/-- Marking the current point leaves what the invariant knows. -/
theorem Inv.mapCur (h : Inv P C s) (f : CurPoint → CurPoint) : Inv P C (s.modSeq fun q => { q with cur := q.cur.map f }) :=
  h.same ⟨⟨rfl, rfl, rfl, rfl, rfl⟩, rfl, by simp, rfl, rfl, rfl⟩

theorem Inv.modForce (h : Inv P C s) (f : ForceMonitor → ForceMonitor) : Inv P C (s.modForce f) :=
  h.same ⟨⟨rfl, rfl, rfl, rfl, rfl⟩, rfl, rfl, rfl, rfl, rfl⟩

theorem Inv.forceLost (h : Inv P C s) (hs : s.seq.state = .dwell) : Inv P C (forceLost s) :=
  (h.mapCur _).enterUnload (.inr hs)

theorem Inv.dwellSample (h : Inv P C s) (hs : s.seq.state = .dwell) : Inv P C (dwellSample o s) := by
  unfold Machine.dwellSample dwellGate
  dsimp only
  split
  · exact Inv.forceLost ((h.modForce _).modForce _) hs
  · split
    · split
      · exact Inv.enterUnload ((h.modForce _).modForce _) (.inr hs)
      · exact (h.modForce _).modForce _
    · split
      · exact Inv.forceLost ((h.modForce _).modForce _) hs
      · exact (h.modForce _).modForce _

theorem Inv.judgeSample {count : Int} (h : Inv P C s) : Inv P C (judgeSample count s) := by
  unfold Machine.judgeSample
  split
  · exact h.judgeRest
  · next hstop =>
    split
    · next hs _ => exact h.tareSample hs (by simpa using hstop)
    · next hs _ => exact h.approachSample hs (by simpa using hstop)
    · next hs _ => exact h.rampSample hs
    · next hs _ => exact h.dwellSample hs
    · exact h.judgeRest
    · exact h.judgeRest
    · exact h

/-! ## Views and measurements -/

/-- A view in progress is one of SETTLE and FOCUS, with no stop in progress. -/
theorem inView_iff : inView s = true ↔ s.seq.stopFlag = false ∧ (s.seq.state = .settle ∨ s.seq.state = .focus) := by
  simp [inView]

theorem Inv.followFocus (h : Inv P C s) : Inv P C (followFocus s) := by
  unfold Machine.followFocus
  split
  · next hs =>
    exact h.workOn (by constructor <;> simp) (by simp [hs.1, SeqState.holdsPoint]) (by simp [SeqState.holdsPoint]) (by simp)
      (by simp) (by simp) (by simp [returnReserve]) (by simp [SeqState.stoppable])
  · exact h

theorem Inv.modCap (h : Inv P C s) (f : CaptureUnit → CaptureUnit) : Inv P C (s.modCap f) :=
  h.same ⟨⟨rfl, rfl, rfl, rfl, rfl⟩, rfl, rfl, rfl, rfl, rfl⟩

theorem Inv.noteFrames {n : Nat} {soft : Bool} (h : Inv P C s) : Inv P C (noteFrames n soft s) := h.mapCur _

theorem Inv.captureFailure {why : Reason} (h : Inv P C s) (hv : inView s = true) : Inv P C (captureFailure why s) := by
  obtain ⟨hstop, hs⟩ := inView_iff.1 hv
  have hw : s.seq.state.holdsPoint = true := by rcases hs with e | e <;> simp [e, SeqState.holdsPoint]
  obtain ⟨-, h2, h3, -⟩ := holdsPoint_ne hw
  have h' : Inv P C (Machine.noteFrames s.cap.framesScored false (s.modCap CaptureUnit.failView)) := (h.modCap _).noteFrames
  exact h'.handleFailure (fun hC => h'.seq.point hC hw) ⟨h2, h3⟩ hstop

theorem Inv.chooseBank {b : BankId} {soft : Bool} (h : Inv P C s) (hv : inView s = true) : Inv P C (chooseBank b soft o s) := by
  obtain ⟨hstop, hs⟩ := inView_iff.1 hv
  have hw : s.seq.state.holdsPoint = true := by rcases hs with e | e <;> simp [e, SeqState.holdsPoint]
  have h' : Inv P C (Machine.noteFrames s.cap.framesScored soft (s.modCap (CaptureUnit.handOver b))) := (h.modCap _).noteFrames
  exact h'.workOn (t := Machine.chooseBank b soft o s) (by constructor <;> simp [Machine.chooseBank]) hw
    (by simp [Machine.chooseBank, SeqState.holdsPoint]) (by simp [Machine.chooseBank]) (by simp [Machine.chooseBank])
    (by simp [Machine.chooseBank]) (by simp [returnReserve, Machine.chooseBank])
    (by simp [Machine.chooseBank, SeqState.stoppable])

theorem Inv.judgeFocus {v : ViewParams} (h : Inv P C s) (hv : inView s = true) : Inv P C (judgeFocus v o s) := by
  unfold Machine.judgeFocus
  split
  · exact h
  · split
    · exact h.chooseBank hv
    · split
      · exact h
      · split
        · exact h.chooseBank hv
        · exact h.captureFailure hv

theorem Inv.takeReport {r : Except Reason Measured} (h : Inv P C s) (ho : s.arb.owner = .some o.id) (hs : s.seq.state = .measure)
    (hstop : s.seq.stopFlag = false) : Inv P C (takeReport o r s) := by
  have hw : s.seq.state.holdsPoint = true := by simp [hs, SeqState.holdsPoint]
  have hrev := fun hC => h.review_none hC (by simp [hs])
  unfold Machine.takeReport
  split
  · exact h.handleFailure (fun hC => h.seq.point hC hw) (by simp [hs]) hstop
  · next _ m c hc =>
    have hb : Books P C (s.seq.impressions.length + 1) s := h.books.hand fun hC => by
      simp [handTotal, inHand, hc, hrev hC]; omega
    refine AtBoundary.boundary_inv ⟨?_, by simp [ho], by simp, ?_, by simpa using hrev, ?_⟩ (by simpa using hstop)
    · exact (Books.writeRecord (n := s.seq.impressions.length) hb ho (r := measuredRecord o c m s) (by simp [measuredRecord, recordOf])
        rfl).congr (by constructor <;> simp) |>.hand fun _ => by simp
    · simpa using fun hC => h.purpose_none hC (by simp [hs])
    · exact fun hC => ((h.seq.mode hC).writeRecord o _).congr ⟨rfl, rfl, rfl, rfl, rfl⟩ (by simp)
  · exact h

end Sys2Proof.Proofs.Orders

/-! # The requests and the interlocks keep the head, the pool and the counts -/

namespace Sys2Proof.Proofs.Orders
open Sys2Proof Sys2Proof.Machine

variable {P C : Prop} {n m : Nat} {s t : State} {o : Order}

/-! ## Holds and their end (R8, R21 to R24, R169) -/

/-- An order that the hold causes alone of have changed: it carries the books. -/
theorem carries_of_holds {a b : Order} (h1 : b.id = a.id) (h2 : b.points = a.points) (h3 : b.counts = a.counts)
    (h4 : b.summary = a.summary) (h5 : b.status = .ended → a.status = .ended) : Carries C a b :=
  ⟨h1, h2, fun e e' => by rw [h2, h4]; exact e (h5 e'), fun _ => h3⟩

/-- The states that wait at a boundary. -/
theorem waitingAtBoundary_iff : waitingAtBoundary s = true ↔ s.seq.state = .awaitPoints ∨ s.seq.state = .storeWait := by
  simp [waitingAtBoundary]

/-- The sequencer leaves a wait at a boundary for PAUSED. -/
theorem Inv.pauseWaiting (h : Inv P C s) (hs : waitingAtBoundary s = true) : Inv P C (pauseWaiting s) := by
  have hs := waitingAtBoundary_iff.1 hs
  have hstop := h.unstopped (by rcases hs with e | e <;> simp [e, SeqState.stoppable])
  exact h.pause (by constructor <;> simp) (by rcases hs with e | e <;> simp [e]) (by simp) (by simp) (by simp) (by simp)
    (by simpa using hstop)

/-- A hold cause reaches the head owner. -/
theorem Inv.holdOwner {effective : Holds → Holds} {pend : PendingHolds → PendingHolds} (h : Inv P C s) (ho : ownerOf s = .some o)
    (he : ∀ x, (effective x).any = true) : Inv P C (holdOwner o effective pend s) := by
  obtain ⟨hmem, hown, -⟩ := h.owner ho
  have only : ∀ x ∈ s.table.orders, x.id = o.id → x = o := fun x hx e => eq_of_id_eq h.books.head.ids hx hmem e
  unfold Machine.holdOwner
  split
  · next hh =>
    refine h.update fun x hx e => ?_
    obtain rfl := only x hx e
    exact ⟨carries_of_holds rfl rfl rfl rfl fun e => e, rfl, ⟨by simp [hh, hown], fun _ => by simp [hh, he]⟩⟩
  · split
    · next hw =>
      refine Inv.pauseWaiting (h.update fun x hx e => ?_) hw
      obtain rfl := only x hx e
      exact ⟨carries_of_holds rfl rfl rfl rfl nofun, rfl, ⟨by simp [hown], fun _ => by simp [he]⟩⟩
    · exact h.updSame fun x _ _ => ⟨rfl, rfl, rfl, rfl, rfl, rfl, fun _ => rfl⟩

/-- A change of an OPEN order's causes. -/
theorem Inv.holdOpened {f : Order → Order} (h : Inv P C s) (hmem : o ∈ s.table.orders) (ho : o.status = .opened)
    (hf : (f o).id = o.id ∧ (f o).points = o.points ∧ (f o).counts = o.counts ∧ (f o).summary = o.summary ∧ (f o).status = o.status
      ∧ (f o).mode = o.mode) : Inv P C (updOrder o.id f s) := by
  obtain ⟨f1, f2, f3, f4, f5, f6⟩ := hf
  have hne : s.arb.owner ≠ .some o.id := fun e => by simpa [ho] using (h.books.head.fits o hmem).active.2 e
  refine h.update fun x hx e => ?_
  obtain rfl := eq_of_id_eq h.books.head.ids hx hmem e
  exact ⟨carries_of_holds f1 f2 f3 f4 (by simp [f5]), f6, ⟨by simp [f1, f5, ho, hne], fun e => absurd e (by rwa [f1])⟩⟩

theorem Inv.holdEffect {id : Nat} (h : Inv P C s) (hf : findOrder id s = .some o) (hne : o.status ≠ .ended) :
    Inv P C (holdEffect o s) := by
  unfold Machine.holdEffect
  split
  · exact h
  · split
    · next hop => exact h.holdOpened (findOrder_some hf).1 hop ⟨rfl, rfl, rfl, rfl, rfl, rfl⟩
    · next hop =>
      refine h.holdOwner (h.active_owner hf ?_) (by simp [Holds.any])
      cases hs : o.status <;> simp_all

theorem Inv.holdAllEffect (h : Inv P C s) : Inv P C (holdAllEffect s) := by
  unfold Machine.holdAllEffect
  split
  · exact h
  · have h1 : Inv P C (s.modArb fun a => { a with deviceHold := true }) :=
      h.same ⟨⟨rfl, rfl, rfl, rfl, rfl⟩, rfl, rfl, rfl, rfl, rfl⟩
    dsimp only
    split
    · exact h1
    · next o ho =>
      split
      · exact h1
      · exact h1.holdOwner (o := o) ho (by simp [Holds.any])

/-- The causes of the HELD owner are gone: once it is RUNNING the sequencer goes on. -/
theorem Inv.resumeOwner (h : Inv P C (updOrder o.id (fun o => { o with status := .running }) s)) :
    Inv P C (resumeOwner o s) := by
  unfold Machine.resumeOwner
  dsimp only
  have hseq : (updOrder o.id (fun o => { o with status := .running }) s).seq = s.seq := rfl
  have hown : (updOrder o.id (fun o => { o with status := .running }) s).arb = s.arb := rfl
  generalize updOrder o.id (fun o => { o with status := .running }) s = u at *
  rw [← hseq]
  split
  · next hs =>
    have hstop := h.unstopped (by simp [hs, SeqState.stoppable])
    split
    · next c hc =>
      exact h.work (by constructor <;> simp) (by simp [hs]) (by simp [hc]) (by simp [SeqState.holdsPoint]) (by simp) (by simp)
        (by simp) (by simp [returnReserve]) (by simp [hstop])
    · next hc =>
      exact (h.atBoundary ⟨rfl, rfl, rfl, rfl, rfl⟩ (by simp [hs]) (by simp [hs]) (fun _ => hc) (fun _ => hc) rfl
        fun hC => h.purpose_none hC (by simp [hs])).boundary_inv hstop
  · next hs => exact h.supersedeReview hs
  · exact h

theorem Inv.resumeEffect {id : Nat} (h : Inv P C s) (hf : findOrder id s = .some o) (hne : o.status ≠ .ended) :
    Inv P C (resumeEffect o s) := by
  obtain ⟨hmem, -⟩ := findOrder_some hf
  have only : ∀ x ∈ s.table.orders, x.id = o.id → x = o := fun x hx e => eq_of_id_eq h.books.head.ids hx hmem e
  have hfit := h.books.head.fits o hmem
  unfold Machine.resumeEffect
  split
  · exact h
  · dsimp only
    split
    · next hany =>
      refine h.update fun x hx e => ?_
      obtain rfl := only x hx e
      refine ⟨carries_of_holds rfl rfl rfl rfl fun e => e, rfl, ⟨hfit.active, fun e => ?_⟩⟩
      have hx : x.holds.any = true := by simp_all [dropOwn, Holds.any]
      exact iff_of_true ((hfit.held e).2 hx) hany
    · next hany =>
      have hany : (dropOwn o).holds.any = false := by simpa using hany
      split
      · next hh =>
        have hown := hfit.active.1 (.inr hh)
        refine Inv.resumeOwner (o := dropOwn o) ?_
        have e : updOrder (dropOwn o).id (fun o => { o with status := .running }) (updOrder o.id dropOwn s)
            = updOrder o.id (fun o => { dropOwn o with status := .running }) s := updOrder_updOrder o.id dropOwn _ (fun _ => rfl) s
        rw [e]
        refine h.update fun x hx e => ?_
        obtain rfl := only x hx e
        exact ⟨carries_of_holds rfl rfl rfl rfl nofun, rfl, ⟨by simp [hown, dropOwn], fun _ => by simpa using hany⟩⟩
      · split
        · next hop => exact (h.holdOpened hmem hop (f := dropOwn) ⟨rfl, rfl, rfl, rfl, rfl, rfl⟩).grant
        · next hh hop =>
          refine h.update fun x hx e => ?_
          obtain rfl := only x hx e
          refine ⟨carries_of_holds rfl rfl rfl rfl fun e => e, rfl, ⟨hfit.active, fun e => ?_⟩⟩
          exact iff_of_false hh (by simp [hany])

theorem Inv.resumeAllEffect (h : Inv P C s) : Inv P C (resumeAllEffect s) := by
  unfold Machine.resumeAllEffect
  refine Inv.grant ?_
  have carry (x : Order) : Carries C x (dropDevice x) := carries_of_holds rfl rfl rfl rfl fun e => e
  have same {x : Order} (hx : x ∈ s.table.orders) (hk : ¬(x.status = .held ∧ (dropDevice x).holds.any = false)) :
      OrderFits s.arb.owner (dropDevice x) := by
    have hfit := h.books.head.fits x hx
    refine ⟨hfit.active, fun e => ⟨fun e' => ?_, fun e' => (hfit.held e).2 ?_⟩⟩
    · simpa using fun e'' => hk ⟨e', e''⟩
    · simp only [dropDevice, Holds.any, Bool.or_eq_true] at e' ⊢; tauto
  generalize hu : (s.modArb fun a => { a with deviceHold := false }).modTable
    (fun t => { t with orders := t.orders.map dropDevice }) = u
  have huo : u.table.orders = s.table.orders.map dropDevice := by rw [← hu]; rfl
  have hua : u.arb.owner = s.arb.owner := by rw [← hu]; rfl
  have hur : u.poolFree = s.poolFree ∧ u.store = s.store ∧ u.desk = s.desk ∧ u.seq = s.seq := by rw [← hu]; exact ⟨rfl, rfl, rfl, rfl⟩
  have hids : (u.table.orders.map (·.id)).Nodup := by
    rw [huo, List.map_map]; exact h.books.head.ids
  cases ho : ownerOf u with
  | none =>
    have hnone : s.arb.owner = .none := by
      by_contra e
      obtain ⟨x, hx, hxo⟩ := h.books.owner_mem e
      have := (ownerOf_isSome_iff hids).2 ⟨dropDevice x, by rw [huo]; exact List.mem_map_of_mem hx, by rw [hua, hxo]; rfl⟩
      simp [ho] at this
    refine h.mapOrders (fun x hx => ⟨carry x, rfl, same hx fun e => ?_⟩) huo hua hur.1 hur.2.1 hur.2.2.1 hur.2.2.2
    have := (h.books.head.fits x hx).active.1 (.inr e.1)
    simp [hnone] at this
  | some o =>
    obtain ⟨hmem, hown⟩ := ownerOf_some ho
    rw [huo] at hmem
    obtain ⟨x, hx, rfl⟩ := List.mem_map.1 hmem
    have hown' : s.arb.owner = .some x.id := by rw [← hua, hown]; rfl
    have other {y : Order} (hy : y ∈ s.table.orders) (hne : y.id ≠ x.id) : ¬(y.status = .held ∧ (dropDevice y).holds.any = false) :=
      fun e => hne (by simpa [hown'] using ((h.books.head.fits y hy).active.1 (.inr e.1)).symm)
    dsimp only
    split
    · next hres =>
      refine Inv.resumeOwner (h.mapOrders (g := fun y => if y.id = x.id then { dropDevice y with status := .running } else dropDevice y)
        (fun y hy => ?_) ?_ hua hur.1 hur.2.1 hur.2.2.1 hur.2.2.2)
      · split
        · next e =>
          obtain rfl := eq_of_id_eq h.books.head.ids hy hx e
          exact ⟨carries_of_holds rfl rfl rfl rfl nofun, rfl, ⟨by simp [hown', dropDevice], fun _ => by simp [hres.2]⟩⟩
        · next e => exact ⟨carry y, rfl, same hy (other hy e)⟩
      · rw [updOrder_orders, huo, List.map_map]
        exact List.map_congr_left fun y _ => by simp only [Function.comp]; rfl
    · next hres =>
      refine h.mapOrders (fun y hy => ⟨carry y, rfl, same hy fun e => ?_⟩) huo hua hur.1 hur.2.1 hur.2.2.1 hur.2.2.2
      by_cases hid : y.id = x.id
      · obtain rfl := eq_of_id_eq h.books.head.ids hy hx hid
        exact hres e
      · exact other hy hid e

end Sys2Proof.Proofs.Orders

/-! # The requests of the order table, the store and the desk keep the head, the pool and the counts -/

namespace Sys2Proof.Proofs.Orders
open Sys2Proof Sys2Proof.Machine

variable {P C : Prop} {n m : Nat} {s t : State} {o : Order}

/-! ## Books that change under a sequencer that stands -/

/-- The books change and the sequencer, the owner and the review stand. -/
theorem Inv.rebook (h : Inv P C s) (hb : Books P C (handTotal s) t) (ea : t.arb.owner = s.arb.owner) (eq : t.seq = s.seq)
    (ed : t.desk.review.isSome = s.desk.review.isSome) (hpool : P → returnReserve s ≤ t.poolFree) (hmode : C → ModeFits t) :
    Inv P C t := by
  obtain ⟨q1, q2, q3, q4, q5, q6, q7, q8, q9, q10⟩ := h.seq
  refine ⟨⟨hb.hand fun _ => by simp [handTotal, inHand, eq, ed], ?_, ?_, ?_, ?_, ?_, ?_, ?_, ?_, ?_, hmode⟩, ?_⟩
  · rw [ea, eq]; exact q1
  · rw [ea, eq]; exact q2
  · simpa [returnReserve, eq] using hpool
  · rw [eq]; exact q4
  · rw [eq]; exact q5
  · rw [eq]; exact q6
  · rw [eq]; exact q7
  · rw [eq, ed]; exact q8
  · rw [eq]; exact q9
  · exact ⟨by rw [ea, eq]; exact h.stop.bare, by rw [eq]; exact h.stop.stop⟩

/-! ## Slots freed and taken (R2, R5, R10) -/

theorem listed_filter {l : List Order} {e : Order} (hn : (l.map (·.id)).Nodup) (he : e ∈ l) :
    listed (l.filter (·.id ≠ e.id)) + e.points.length = listed l := by
  induction l with
  | nil => simp at he
  | cons a l ih =>
    simp only [List.map_cons, List.nodup_cons, List.mem_map, not_exists, not_and] at hn
    rcases List.mem_cons.1 he with rfl | hm
    · have : l.filter (·.id ≠ e.id) = l := List.filter_eq_self.2 fun x hx => by simpa using hn.1 x hx
      rw [List.filter_cons_of_neg (by simp), this]
      simp [listed]; omega
    · have hne : a.id ≠ e.id := fun e' => hn.1 e hm e'.symm
      have := ih hn.2 hm
      rw [List.filter_cons_of_pos (by simpa using hne)]
      simp only [listed, List.map_cons, List.sum_cons] at this ⊢
      omega

/-- The books once the slot of an ENDED order is free. -/
theorem Books.removeEnded {e : Order} (h : Books P C n s) (he : e ∈ s.table.orders) (hs : e.status = .ended)
    (et : t = { s with table := t.table }) (eo : t.table.orders = s.table.orders.filter (·.id ≠ e.id)) : Books P C n t := by
  have hsub : t.table.orders.Sublist s.table.orders := by rw [eo]; exact List.filter_sublist
  have ha : t.arb = s.arb := by rw [et]
  have hp : t.poolFree = s.poolFree := by rw [et]
  have hst : t.store = s.store := by rw [et]
  have hd : t.desk = s.desk := by rw [et]
  constructor
  · rw [ha]
    refine ⟨hsub.length_le.trans h.head.slots, h.head.ids.sublist (hsub.map _), h.head.holder.imp_right ?_,
      fun x hx => h.head.fits x (hsub.subset hx)⟩
    rintro ⟨x, hx, hxo⟩
    refine ⟨x, ?_, hxo⟩
    rw [eo, List.mem_filter]
    refine ⟨hx, ?_⟩
    have := (h.head.fits x hx).active.2 hxo
    simp only [decide_not, Bool.not_eq_eq_eq_not, Bool.not_true, decide_eq_false_iff_not]
    intro e'
    rw [eq_of_id_eq h.head.ids hx he e'] at this
    simp [hs] at this
  · intro hP
    obtain ⟨h1, h2⟩ := h.pool hP
    refine ⟨?_, fun x hx => h2 x (hsub.subset hx)⟩
    have := listed_filter h.head.ids he
    rw [hp, eo]
    simp only [(h2 e he hs).1, List.length_nil] at this
    omega
  · rw [hst]; exact h.store
  · rw [ha, hst, hd]; exact h.desk
  · rw [ha]; exact fun hC x hx => h.counts hC x (hsub.subset hx)

theorem Inv.removeEnded {e : Order} (h : Inv P C s) (he : e ∈ s.table.orders) (hs : e.status = .ended)
    (et : t = { s with table := t.table }) (eo : t.table.orders = s.table.orders.filter (·.id ≠ e.id)) : Inv P C t := by
  refine h.rebook (h.books.removeEnded he hs et eo) (by rw [et]) (by rw [et]) (by rw [et]) ?_ fun hC x hx hx1 hx2 => ?_
  · rw [et]; exact h.seq.reserve
  · rw [eo] at hx
    rw [et] at hx1 ⊢
    exact h.seq.mode hC x (List.mem_of_mem_filter hx) hx1 hx2

/-- A new OPEN order with no points and no counts takes a free slot under an id of its own. -/
theorem Inv.addOrder (h : Inv P C s) (hl : s.table.orders.length < 8) (hid : ∀ x ∈ s.table.orders, x.id ≠ o.id)
    (ho : o.status = .opened ∧ o.points = [] ∧ o.counts = Counts.zero)
    (et : t = { s with table := t.table }) (eo : t.table.orders = s.table.orders ++ [o]) : Inv P C t := by
  obtain ⟨hop, hpts, hcnt⟩ := ho
  have ha : t.arb = s.arb := by rw [et]
  have hp : t.poolFree = s.poolFree := by rw [et]
  have hst : t.store = s.store := by rw [et]
  have hd : t.desk = s.desk := by rw [et]
  have hne : s.arb.owner ≠ .some o.id := fun e => by
    obtain ⟨x, hx, hx', -⟩ := h.books.owner_find e
    exact hid x hx hx'
  have all {p : Order → Prop} (h1 : ∀ x ∈ s.table.orders, p x) (h2 : p o) : ∀ x ∈ t.table.orders, p x := by
    rw [eo]; simpa [or_imp, forall_and] using ⟨h1, h2⟩
  refine h.rebook ⟨?_, fun hP => ?_, by rw [hst]; exact h.books.store, by rw [ha, hst, hd]; exact h.books.desk, fun hC => ?_⟩
    (by rw [et]) (by rw [et]) (by rw [et]) ?_ fun hC => ?_
  · rw [ha]
    refine ⟨by simp [eo]; omega, ?_, h.books.head.holder.imp_right ?_, all h.books.head.fits ⟨by simp [hop, hne], fun e => absurd e hne⟩⟩
    · rw [eo, List.map_append, List.nodup_append]
      exact ⟨h.books.head.ids, by simp, by simpa using hid⟩
    · rintro ⟨x, hx, e⟩
      exact ⟨x, by simp [eo, hx], e⟩
  · obtain ⟨h1, h2⟩ := h.books.pool hP
    refine ⟨?_, all h2 (by simp [EndClean, hop])⟩
    rw [hp, eo]; simpa [listed, hpts] using h1
  · rw [ha]
    exact all (h.books.counts hC) (by simp [CountFits, hcnt, Counts.zero, finals, hne])
  · rw [et]; exact h.seq.reserve
  · have : ∀ x ∈ t.table.orders, s.arb.owner = .some x.id → x.mode = .immediate → s.seq.impressions = [] :=
      all (h.seq.mode hC) fun e => absurd e hne
    rw [et] at this ⊢
    exact this

/-! ## Ids (R2) -/

theorem idAfter_eq (n : Nat) : idAfter n = if n < 65535 then n + 1 else 1 := rfl

/-- The candidates after the first, in closed form while fewer than the ids there are. -/
theorem idAfter_iterate {k : Nat} (hk : k < 65535) (c : Nat) :
    idAfter^[k + 1] c = if c < 65535 then (if c + (k + 1) ≤ 65535 then c + (k + 1) else c + (k + 1) - 65535) else k + 1 := by
  induction k with
  | zero =>
    simp only [Nat.zero_add, Function.iterate_one, idAfter_eq]
    by_cases h : c < 65535
    · rw [if_pos h, if_pos h, if_pos (by omega)]
    · rw [if_neg h, if_neg h]
  | succ k ih =>
    rw [Function.iterate_succ_apply', ih (by omega)]
    simp only [idAfter_eq]
    split
    · split <;> split <;> split <;> omega
    · rfl

/-- The first candidates are distinct. -/
theorem idAfter_iterate_ne {i j : Nat} (hij : i < j) (hj : j < 65535) (c : Nat) : idAfter^[i] c ≠ idAfter^[j] c := by
  obtain ⟨j, rfl⟩ := Nat.exists_eq_succ_of_ne_zero (by omega : j ≠ 0)
  rw [Nat.succ_eq_add_one, idAfter_iterate (by omega)]
  cases i with
  | zero =>
    simp only [Function.iterate_zero, id]
    split
    · split <;> omega
    · omega
  | succ i =>
    rw [idAfter_iterate (by omega)]
    split
    · split <;> split <;> omega
    · omega

/-- The search takes the first candidate that no order has, if one of those tried is free. -/
theorem searchId_cases (ids : List Nat) (n c : Nat) : ∃ k ≤ n, searchId ids n c = idAfter^[k] c
    ∧ (∀ j < k, idAfter^[j] c ∈ ids) ∧ (k < n → idAfter^[k] c ∉ ids) := by
  induction n generalizing c with
  | zero => exact ⟨0, le_rfl, rfl, by simp, by simp⟩
  | succ n ih =>
    unfold searchId
    split
    · next hc =>
      obtain ⟨k, hk, he, hb, hn⟩ := ih (idAfter c)
      refine ⟨k + 1, by omega, he, fun j hj => ?_, fun hk' => hn (by omega)⟩
      cases j with
      | zero => simpa using hc
      | succ j => exact hb j (by omega)
    · next hc => exact ⟨0, by omega, rfl, by simp, fun _ => by simpa using hc⟩

/-- With fewer ids than candidates a free one is found. -/
theorem searchId_free {ids : List Nat} {n : Nat} (hl : ids.length < n) (hn : n < 65535) (c : Nat) : ∃ k,
    searchId ids n c = idAfter^[k] c ∧ (∀ j < k, idAfter^[j] c ∈ ids) ∧ searchId ids n c ∉ ids := by
  obtain ⟨k, hk, he, hb, hf⟩ := searchId_cases ids n c
  refine ⟨k, he, hb, ?_⟩
  rw [he]
  refine hf (lt_of_le_of_ne hk fun e => ?_)
  have hnd : ((List.range n).map fun j => idAfter^[j] c).Nodup := by
    refine List.Nodup.map_on (fun i hi j hj e' => ?_) List.nodup_range
    rw [List.mem_range] at hi hj
    by_contra hne
    rcases Nat.lt_or_gt_of_ne hne with h | h
    · exact idAfter_iterate_ne h (by omega) c e'
    · exact idAfter_iterate_ne h (by omega) c e'.symm
  have hsub : ((List.range n).map fun j => idAfter^[j] c) ⊆ ids := fun x hx => by
    obtain ⟨j, hj, rfl⟩ := List.mem_map.1 hx
    exact hb j (by rw [e]; exact List.mem_range.1 hj)
  have := (List.subperm_of_subset hnd hsub).length_le
  simp at this; omega

/-! ## OPEN ORDER -/

/-- The slots that an accepted OPEN ORDER is placed among: those there are, or those less an ENDED one of the earliest rank. -/
theorem slotsFor_cases (u : OrderTable) (hf : ¬(8 ≤ u.orders.length ∧ ∀ o ∈ u.orders, o.status ≠ .ended)) :
    (u.orders.length < 8 ∧ slotsFor u = u.orders) ∨ (8 ≤ u.orders.length ∧ ∃ e ∈ u.orders, e.status = .ended
      ∧ (∀ f ∈ u.orders, f.status = .ended → e.rank ≤ f.rank) ∧ slotsFor u = u.orders.filter (·.id ≠ e.id)) := by
  by_cases h : u.orders.length < 8
  · exact .inl ⟨h, if_pos h⟩
  · refine .inr ⟨by omega, ?_⟩
    rw [slotsFor, if_neg (show ¬u.orders.length < Config.orderSlots from h)]
    split
    · next he =>
      have : u.orders.filter (·.status = .ended) = [] := (earliest_none _).1 he
      refine absurd ⟨by omega, fun o ho e => ?_⟩ hf
      have := List.filter_eq_nil_iff.1 this o ho
      simp [e] at this
    · next e he =>
      obtain ⟨hm, hr⟩ := earliest_some he
      simp only [List.mem_filter, decide_eq_true_eq, and_imp] at hm hr
      exact ⟨e, hm.1, hm.2, hr, rfl⟩

/-- Where an order is checked and accepted there is a slot for it. -/
theorem openOrderCheck_room {r : OpenOrderReq} (h : openOrderCheck r s = .none) :
    ¬(8 ≤ s.table.orders.length ∧ ∀ o ∈ s.table.orders, o.status ≠ .ended) := by
  intro hf
  unfold openOrderCheck at h
  split at h
  · have : Config.orderSlots ≤ s.table.orders.length ∧ s.table.orders.all (·.status ≠ .ended) = true := by
      simpa [Config.orderSlots] using hf
    rw [if_pos this] at h
    repeat' split at h
    all_goals simp at h
  · simp at h

theorem Inv.decideOpenOrder {src : Source} {r : OpenOrderReq} (h : Inv P C s) : Inv P C (decideOpenOrder src r s).state := by
  unfold Machine.decideOpenOrder
  split
  · exact h
  · next hc =>
    dsimp only
    set u : State := s.modTable fun t => { t with orders := slotsFor s.table } with hu
    have hslots : Inv P C u ∧ (slotsFor s.table).length < 8 := by
      rcases slotsFor_cases s.table (openOrderCheck_room hc) with ⟨hl, e⟩ | ⟨hl, x, hx, hxe, -, e⟩
      · refine ⟨?_, by rwa [e]⟩
        rw [hu, e]; exact h
      · refine ⟨h.removeEnded hx hxe rfl (by simp [hu, e]), ?_⟩
        have h8 := h.books.head.slots
        rw [e]
        refine lt_of_lt_of_le (List.length_filter_lt_length_iff_exists.2 ⟨x, hx, by simp⟩) h8
    obtain ⟨k, -, -, hfree⟩ := searchId_free (ids := (slotsFor s.table).map (·.id)) (n := 9) (by simpa using by omega) (by omega)
      s.table.nextId
    refine hslots.1.addOrder (o := newOrder src r (searchId ((slotsFor s.table).map (·.id)) 9 s.table.nextId)
      (nextRank (slotsFor s.table))) (by simpa [hu] using hslots.2)
      (fun x hx e => hfree ?_) ⟨rfl, rfl, rfl⟩ rfl (by simp [hu])
    · rw [← show x.id = searchId _ _ _ from e]
      exact List.mem_map_of_mem (by simpa [hu] using hx)

/-! ## ADD POINTS -/

@[simp] theorem appendPoints_rest (r : AddPointsReq) (o : Order) :
    (appendPoints r o).id = o.id ∧ (appendPoints r o).status = o.status ∧ (appendPoints r o).holds = o.holds
      ∧ (appendPoints r o).points.length = o.points.length + r.points.length ∧ (appendPoints r o).counts = o.counts
      ∧ (appendPoints r o).mode = o.mode ∧ (appendPoints r o).summary = o.summary := by
  unfold appendPoints rearmLowWater
  dsimp only
  split <;> simp

/-- The order that a request names is in the table, is not ENDED and is of the asking port. -/
theorem liveOrder_ok {src : Source} {id : Nat} (h : liveOrder src id s = .ok o) :
    findOrder id s = .some o ∧ o.status ≠ .ended ∧ o.origin = src.port := by
  unfold liveOrder at h
  split at h
  · simp at h
  · next x hx =>
    split at h
    · simp at h
    · next hne =>
      split at h
      · simp at h
      · next hor =>
        simp only [Except.ok.injEq] at h
        subst h
        exact ⟨hx, hne, by simpa using hor⟩

/-- An OPEN order that lists no point ends, and the head is not concerned. -/
theorem Inv.endOpened {id : Nat} {out : OrderOutcome} {why : Option AbortReason} (h : Inv P C s) (hf : findOrder id s = .some o)
    (ho : o.status = .opened) (hp : P → o.points = []) : Inv P C (endOrder id out why s) :=
  h.rebook (h.books.endOpened hf ho hp) (by simp) (by simp) (by simp) (by simpa using h.seq.reserve) fun hC =>
    (h.seq.mode hC).map (endOrder_effect out why hf).1 (fun x => by split <;> simp [ending]) (by simp) (by simp)

theorem Inv.afterAppend {id n : Nat} (h : Inv P C s) : Inv P C (afterAppend id n s) := by
  unfold Machine.afterAppend
  split
  · exact h
  · next o hf =>
    split
    · next hop =>
      split
      · next hl => exact h.endOpened hf hop fun _ => by simpa using (Bool.and_eq_true_iff.1 hl).2
      · split
        · exact h
        · exact h.grant
    · split
      · next hw =>
        have hn := fun hC => h.seq.noPoint hC (by simp [hw.2.1, SeqState.holdsNone])
        exact (h.atBoundary (t := stopStarvation s) (by constructor <;> simp) (by simp [hw.2.1]) (by simp [hw.2.1]) (by simpa using hn)
          hn (by simp) (by simpa using fun hC => h.purpose_none hC (by simp [hw.2.1]))).boundary_inv
          (by simpa using h.unstopped (by simp [hw.2.1, SeqState.stoppable]))
      · exact h

theorem Inv.decideAddPoints {src : Source} {r : AddPointsReq} (h : Inv P C s) : Inv P C (decideAddPoints src r s).state := by
  unfold Machine.decideAddPoints
  split
  · exact h
  · next o ho =>
    split
    · exact h
    · next hc =>
      obtain ⟨hf, hne, -⟩ := liveOrder_ok ho
      obtain ⟨hm, -⟩ := findOrder_some hf
      have hfit := h.books.head.fits o hm
      have hroom : ¬s.poolFree - returnReserve s < r.points.length := by
        intro hlt
        unfold addPointsCheck at hc
        rw [if_pos hlt] at hc
        repeat' split at hc
        all_goals simp at hc
      refine Inv.afterAppend (h.rebook (t := (updOrder o.id (appendPoints r) s).setPoolFree (s.poolFree - r.points.length)) ?_ rfl rfl
        rfl (fun hP => ?_) fun hC => ?_)
      · refine h.books.update hm (f := appendPoints r) rfl rfl (by simp) ⟨by simpa using hfit.active, by simpa using hfit.held⟩
          (fun hP => ⟨?_, fun e => absurd (by simpa using e) hne⟩)
          (fun hC => ⟨by simpa [CountFits] using h.books.counts hC o hm, .inl rfl⟩) h.books.store h.books.desk
        simp; omega
      · have := h.seq.reserve hP
        simp; omega
      · exact (h.seq.mode hC).map (updOrder_orders _ _ _) (fun x => by split <;> simp) rfl rfl

/-! ## CANCEL ORDER -/

@[simp] theorem pointsOf_closeReview (id : Nat) (out : ReviewOutcome) (change : Record → Record) (s : State) :
    pointsOf id (closeReview out change s) = pointsOf id s := by
  cases hv : s.desk.review with
  | none => simp [closeReview, hv]
  | some v =>
    obtain ⟨-, -, hnone, hsome⟩ := closeReview_some (out := out) (change := change) hv
    cases hf : findRecord v.seq s with
    | none => exact pointsOf_congr (by rw [hnone hf]) id
    | some x => exact pointsOf_of_map (fun y => by split <;> simp) (fun y => by split <;> simp) (hsome x hf) id

theorem Inv.markCancel (h : Inv P C s) : Inv P C (markCancel o s) :=
  h.updSame fun _ _ _ => ⟨rfl, rfl, rfl, rfl, rfl, rfl, fun _ => rfl⟩

/-- The sequencer retracts before contact for a cancel. -/
theorem Inv.cancelRetract (h : Inv P C s) (e : SameHead s t) (hs : returnReserve s = 1) (hstop : s.seq.stopFlag = false)
    (ec : t.seq.cur = s.seq.cur) (ei : t.seq.impressions = s.seq.impressions) (ef : t.seq.stopFlag = s.seq.stopFlag) :
    Inv P C (enterRetract .cancel t) := by
  have hw := reserve_holdsPoint hs
  obtain ⟨h1, -, h3, -⟩ := holdsPoint_ne hw
  exact h.retract (why := .cancel) (e.trans (by constructor <;> simp)) h1 (fun _ => h3) (by simp) (by simp)
    (fun hC _ => h.seq.point hC hw) (by simp [ec]) (by simp [ei]) (by simp [ef, hstop])

theorem Inv.cancelOwner (h : Inv P C s) (ho : ownerOf s = .some o) : Inv P C (cancelOwner o s) := by
  obtain ⟨hmem, hown, -⟩ := h.owner ho
  have h1 : Inv P C (Machine.markCancel o s) := h.markCancel
  have hp : pointsOf o.id (Machine.markCancel o s) = .some o.points := by
    rw [← pointsOf_owner ho h.books.head.ids]
    exact pointsOf_of_map (g := fun x => if x.id = o.id then { x with cancelPending := true } else x)
      (fun x => by split <;> rfl) (fun x => by split <;> rfl) rfl _
  have hown1 : (Machine.markCancel o s).arb.owner = .some o.id := hown
  have hseq : (Machine.markCancel o s).seq = s.seq := rfl
  unfold Machine.cancelOwner
  dsimp only
  generalize Machine.markCancel o s = u at *
  rw [← hseq]
  split
  · exact h1
  · next hstop =>
    have hstop : u.seq.stopFlag = false := by simpa using hstop
    cases hs : u.seq.state with
    | moveIndent => exact h1.cancelRetract (by constructor <;> simp) (by simp [returnReserve, hs]) hstop (by simp) (by simp) (by simp)
    | tare => exact h1.cancelRetract ⟨rfl, rfl, rfl, rfl, rfl⟩ (by simp [returnReserve, hs]) hstop rfl rfl rfl
    | approach => exact h1.cancelRetract (by constructor <;> simp) (by simp [returnReserve, hs]) hstop (by simp) (by simp) (by simp)
    | ramp => exact h1.enterUnload (.inl hs)
    | dwell => exact h1.enterUnload (.inr hs)
    | unload | moveView | settle | focus | measure | retract | idle => exact h1
    | reviewWait =>
      exact (h1.closeReview_boundary (closes_unmeasured .cancelled) hs).cancelNow_inv (by simpa using hown1) (by simpa using hp)
    | awaitPoints =>
      have hn := fun hC => h1.seq.noPoint hC (by simp [hs, SeqState.holdsNone])
      exact (h1.atBoundary (t := stopStarvation u) (by constructor <;> simp) (by simp [hs]) (by simp [hs]) (by simpa using hn) hn
        (by simp) (by simpa using fun hC => h1.purpose_none hC (by simp [hs]))).cancelNow_inv (by simpa using hown1) hp
    | storeWait =>
      have hn := fun hC => h1.seq.noPoint hC (by simp [hs, SeqState.holdsNone])
      exact (h1.atBoundary ⟨rfl, rfl, rfl, rfl, rfl⟩ (by simp [hs]) (by simp [hs]) hn hn rfl
        fun hC => h1.purpose_none hC (by simp [hs])).cancelNow_inv hown1 hp
    | paused =>
      exact (h1.record_boundary ⟨rfl, rfl, rfl, rfl, rfl⟩ hown1 (by simp) rfl rfl (fun hC => h1.purpose_none hC (by simp [hs]))
        (by simp [hs])).cancelNow_inv (by simpa using hown1) (by simpa using hp)

theorem Inv.cancelEffect {id : Nat} (h : Inv P C s) (hf : findOrder id s = .some o) (hne : o.status ≠ .ended) :
    Inv P C (cancelEffect o s) := by
  obtain ⟨hm, rfl⟩ := findOrder_some hf
  unfold Machine.cancelEffect
  split
  · next hop =>
    obtain ⟨hb, hp⟩ := h.books.discardPoints (o := o) (by rw [pointsOf, hf]; rfl)
    have hd : Inv P C (discardPoints o s) := by
      refine h.rebook hb (by simp) (by simp) (by simp) (fun hP => ?_) fun hC => ?_
      · have := h.seq.reserve hP
        rw [discardPoints_eq]; simp; omega
      · exact (h.seq.mode hC).map (updOrder_orders _ discarding _) (fun x => by split <;> simp [discarding]) (by simp) (by simp)
    have hf' : findOrder o.id (discardPoints o s) = .some (discarding o) := by
      rw [discardPoints_eq, findOrder_updOrder _ discarding fun _ => rfl]
      simp [hf]
    exact hd.endOpened hf' hop fun _ => rfl
  · next hop =>
    split
    · exact h
    · refine h.cancelOwner (h.active_owner hf ?_)
      cases hs : o.status <;> simp_all

end Sys2Proof.Proofs.Orders

/-! # What else a command may change leaves the head, the pool and the counts -/

namespace Sys2Proof.Proofs.Orders
open Sys2Proof Sys2Proof.Machine

variable {P C : Prop} {n m : Nat} {s t : State} {o : Order} {p : Port} {src : Source}

/-! ## Changes that the invariant does not see -/

theorem SameWork.of_seq (e : SameHead s t) (eq : t.seq = s.seq) : SameWork s t := by
  refine ⟨e, ?_, ?_, ?_, ?_, ?_⟩ <;> rw [eq]

/-- The orders, the owner, the pool, the store, the desk and the sequencer stand. -/
theorem Inv.quiet (h : Inv P C s) (eo : t.table.orders = s.table.orders) (ea : t.arb.owner = s.arb.owner)
    (ep : t.poolFree = s.poolFree) (es : t.store = s.store) (ed : t.desk = s.desk) (eq : t.seq = s.seq) : Inv P C t :=
  h.same (.of_seq ⟨eo, ea, ep, es, ed⟩ eq)

theorem Inv.modPort (h : Inv P C s) (p : Port) (f : LinkPort → LinkPort) : Inv P C (s.modPort p f) := by
  refine h.quiet ?_ ?_ ?_ ?_ ?_ ?_ <;> simp

theorem Inv.postTo (h : Inv P C s) (p : Port) (k : Notice) : Inv P C (postTo p k s) := h.modPort p _

theorem Inv.postBoth (h : Inv P C s) (k : Notice) : Inv P C (postBoth k s) := (h.postTo .A k).postTo .B k

/-- The store and the desk change in order, a review staying open or closed. -/
theorem Inv.restock (h : Inv P C s) (eo : t.table.orders = s.table.orders) (ea : t.arb.owner = s.arb.owner)
    (ep : t.poolFree = s.poolFree) (eq : t.seq = s.seq) (ed : t.desk.review.isSome = s.desk.review.isSome)
    (hstore : C → StoreFits t.store) (hdesk : C → DeskFits s.arb.owner t.store.records t.desk) : Inv P C t := by
  refine h.rebook (h.books.map (g := id) (fun x _ => ⟨rfl, rfl, fun e => e, fun _ => rfl⟩) h.books.head.fits (by simpa using eo) ea ep
    hstore hdesk) ea eq ed (by rw [ep]; exact h.seq.reserve) fun hC => ?_
  exact (h.seq.mode hC).map (g := id) (by simpa using eo) (fun x => ⟨rfl, rfl⟩) ea (by rw [eq])

/-! ## Answering (R184) -/

/-- A request answered leaves what its owner left, or what there was. -/
theorem Inv.serve {cmd : Instr} {d : State → Answer} (h : Inv P C s) (hd : Inv P C (d s).state) : Inv P C (serve cmd src d s) := by
  unfold Machine.serve
  dsimp only
  split
  · exact (h.modPort _ _).modPort _ _
  · exact (hd.modPort _ _).modPort _ _

/-! ## The head lock and the yield (R17, R18, R28) -/

theorem Inv.setLock {holder : Option Port} (h : Inv P C s) : Inv P C (setLock holder s) :=
  ((h.quiet (t := s.modArb fun a => { a with lock := holder }) rfl rfl rfl rfl rfl rfl).postBoth _).grant

theorem Inv.decideTakeHead (h : Inv P C s) : Inv P C (decideTakeHead src s).state := by
  unfold Machine.decideTakeHead
  split
  · exact h.setLock
  · split <;> exact h

theorem Inv.decideFreeHead (h : Inv P C s) : Inv P C (decideFreeHead src s).state := by
  unfold Machine.decideFreeHead
  split
  · exact h
  · split
    · exact h.setLock
    · exact h

/-- An order as it yields (R28). -/
def yielding (o : Order) : Order := { o with status := .opened, pendingHolds := PendingHolds.none }

theorem Inv.yieldOwner (h : Inv P C s) (ho : ownerOf s = .some o) (hs : s.seq.state = .awaitPoints) : Inv P C (yieldOwner o s) := by
  obtain ⟨hmem, hown, -⟩ := h.owner ho
  have hrev := fun hC => h.review_none hC (by simp [hs])
  refine Inv.grant (Rest.unstopped (Rest.released (Books.release (h.books.hand fun hC => ?_) hmem hown (f := yielding) (by simp [yielding])
    (by simp) (by simp) rfl rfl (.inl rfl) rfl (fun _ => nofun) (by simpa using h.books.store) (by simp) (by simp) hrev)
    (by simpa using hrev)) (by simp))
  simp [handTotal, inHand, hrev hC, h.seq.await hC hs, h.seq.noPoint hC (by simp [hs, SeqState.holdsNone])]

/-! ## Records released and reviews claimed (R127, R143) -/

/-- Releasing a port's records leaves the count of the other port, and takes the released off its own. -/
theorem countP_released (q : Port) (through : Nat) (l : List Record) :
    (l.filter fun r => !released p through r).countP (·.origin = q) + (if q = p then l.countP (released p through) else 0)
      = l.countP (·.origin = q) := by
  induction l with
  | nil => simp
  | cons r l ih =>
    by_cases hr : released p through r = true
    · have ho : r.origin = p := by simp only [released, Bool.and_eq_true, decide_eq_true_eq] at hr; exact hr.1.1
      rw [List.filter_cons_of_neg (by simpa using hr)]
      by_cases hq : q = p
      · subst hq
        simp only [if_true, List.countP_cons, hr, ho, decide_true] at ih ⊢; omega
      · have : ¬p = q := fun e => hq e.symm
        simpa [List.countP_cons, ho, hq, this] using ih
    · rw [List.filter_cons_of_pos (by simpa using hr)]
      have hr : released p through r = false := by simpa using hr
      simp only [List.countP_cons, hr, Bool.false_eq_true, if_false, Nat.add_zero] at ih ⊢
      omega

theorem StoreFits.release {u : ResultStore} {through : Nat} (h : StoreFits u) : StoreFits (releaseFrom p through u) := by
  have hA := countP_released (p := p) .A through u.records
  have hB := countP_released (p := p) .B through u.records
  obtain ⟨h1, h2, h3, h4⟩ := h
  refine StoreFits.setArmed ⟨?_, fun r hr => ?_, ?_, ?_⟩ p true
  · simpa using h1.sublist (List.Sublist.map _ List.filter_sublist)
  · rw [(setWaiting_rest _ p _).1] at hr
    simpa using h2 r (List.mem_of_mem_filter hr)
  · cases p <;> simp [ResultStore.waiting] at hA ⊢ <;> omega
  · cases p <;> simp [ResultStore.waiting] at hB ⊢ <;> omega

theorem DeskFits.release {owner : Option Nat} {l : List Record} {d : ReviewDesk} {through : Nat} (h : DeskFits owner l d) :
    DeskFits owner (l.filter fun r => !released p through r) d := by
  refine ⟨h.window, fun r hr => h.state r (List.mem_of_mem_filter hr), fun v hv => ?_⟩
  obtain ⟨h1, h2⟩ := h.review v hv
  obtain ⟨r, hr, e⟩ := List.mem_map.1 h2
  have hrev : r.state = .review := (h.state r hr).2 (by simp [Option.mem_def.1 hv, e])
  exact ⟨h1, List.mem_map.2 ⟨r, List.mem_filter.2 ⟨hr, by simp [released, hrev]⟩, e⟩⟩

theorem Inv.decideReleaseResults {through : Nat} (h : Inv P C s) : Inv P C (decideReleaseResults src through s).state := by
  have h1 : Inv P C (s.modStore (releaseFrom src.port through)) :=
    h.restock rfl rfl rfl rfl rfl (fun hC => (h.books.store hC).release) fun hC => by
      simpa [releaseFrom] using (h.books.desk hC).release
  have hseq : (s.modStore (releaseFrom src.port through)).seq = s.seq := rfl
  unfold Machine.decideReleaseResults
  dsimp only
  split
  · next hw =>
    generalize s.modStore (releaseFrom src.port through) = u at *
    have hs : u.seq.state = .storeWait := by rw [hseq, hw.2]
    have hn := fun hC => h1.seq.noPoint hC (by simp [hs, SeqState.holdsNone])
    exact (h1.atBoundary ⟨rfl, rfl, rfl, rfl, rfl⟩ (by simp [hs]) (by simp [hs]) hn hn rfl
      fun hC => h1.purpose_none hC (by simp [hs])).boundary_inv (h1.unstopped (by simp [hs, SeqState.stoppable]))
  · exact h1

/-- Who has claimed the review is nothing to the books. -/
theorem Inv.claim {v : Review} {c : Option Port} (h : Inv P C s) (hv : s.desk.review = .some v) :
    Inv P C (s.setDesk { s.desk with review := .some { v with claimant := c } }) := by
  refine h.restock rfl rfl rfl rfl (by simp [hv]) h.books.store fun hC => ?_
  obtain ⟨h1, h2, h3⟩ := h.books.desk hC
  rw [hv] at h1 h2 h3
  exact ⟨h1, h2, by simpa using h3⟩

theorem reviewOf_some {seq : Nat} {v : Review} (h : reviewOf seq s = .some v) : s.desk.review = .some v ∧ v.seq = seq := by
  simpa [reviewOf, Option.filter_eq_some_iff] using h

theorem Inv.decideClaim {seq : Nat} (h : Inv P C s) : Inv P C (decideClaim src seq s).state := by
  unfold Machine.decideClaim
  split
  · exact h
  · next v hv =>
    split
    · exact h.claim (reviewOf_some hv).1
    · split <;> exact h

/-- A claim that passes its check is of an open review. -/
theorem claimCheck_open {seq : Nat} (h : claimCheck src seq s = .none) : s.desk.review.isSome = true := by
  unfold claimCheck at h
  split at h
  · simp at h
  · next v hv => simp [(reviewOf_some hv).1]

theorem Inv.decideEnter {seq d1 d2 : Nat} (h : Inv P C s) : Inv P C (decideEnter src seq d1 d2 s).state := by
  unfold Machine.decideEnter
  split
  · exact h
  · next hc =>
    split
    · exact h
    · split
      · exact h
      · exact h.afterClose (closes_manual _ d1 d2) (claimCheck_open hc)

theorem Inv.decideReject {seq : Nat} (h : Inv P C s) : Inv P C (decideReject src seq s).state := by
  unfold Machine.decideReject
  split
  · exact h
  · next hc => exact h.afterClose (closes_unmeasured .rejected) (claimCheck_open hc)

/-! ## Summaries, calibration and settings -/

theorem Inv.decideReadSummary {id : Nat} (h : Inv P C s) : Inv P C (decideReadSummary src id s).state := by
  unfold Machine.decideReadSummary
  split
  · exact h
  · next o hf =>
    obtain ⟨hm, rfl⟩ := findOrder_some hf
    split
    · exact h
    · split
      · next hs _ => exact h.removeEnded hm hs rfl rfl
      · exact h

theorem Inv.decideWriteCalibration {rec : Nat} {f : CalFields} (h : Inv P C s) :
    Inv P C (decideWriteCalibration src rec f s).state := by
  unfold Machine.decideWriteCalibration
  split
  · exact h
  · dsimp only
    split
    · exact Inv.grant (h.quiet rfl rfl rfl rfl rfl rfl)
    · exact h.quiet rfl rfl rfl rfl rfl rfl

theorem Inv.decideReadNotices (h : Inv P C s) : Inv P C (decideReadNotices src s).state := h.modPort _ _

theorem Inv.decideSetLink {r : SetLinkReq} (h : Inv P C s) : Inv P C (decideSetLink src r s).state := by
  unfold Machine.decideSetLink
  split
  · dsimp only
    exact h.modPort _ _
  · exact h

theorem Inv.decideSetInputs {d e c : Nat} (h : Inv P C s) : Inv P C (decideSetInputs d e c s).state := by
  unfold Machine.decideSetInputs
  split
  · exact h
  · exact h.quiet rfl rfl rfl rfl rfl rfl

theorem Inv.setLampEffect {g a r : Nat} (h : Inv P C s) (e : setLampEffect g a r s = .some t) : Inv P C t := by
  unfold Machine.setLampEffect at e
  split at e
  · obtain rfl := Option.some.inj e
    exact h.quiet rfl rfl rfl rfl rfl rfl
  · simp at e

theorem Inv.decideSetLamp {g a r : Nat} (h : Inv P C s) : Inv P C (decideSetLamp g a r s).state := by
  unfold Machine.decideSetLamp
  split
  · exact h
  · next e => exact h.setLampEffect e

theorem Inv.postLoadFaults {l : List Nat} (h : Inv P C s) : Inv P C (postLoadFaults l s) := by
  induction l generalizing s with
  | nil => exact h
  | cons rec l ih =>
    refine ih ?_
    split
    · exact h.postBoth _
    · exact h

/-! ## The interlocks (R167, R169 to R173) -/

theorem Inv.postInterlock {e : InterlockEvent} (h : Inv P C s) : Inv P C (postInterlock e s) := by
  unfold Machine.postInterlock
  split <;> exact h.postBoth _

theorem Inv.gainInterlock (h : Inv P C s) : Inv P C (gainInterlock s) := by
  unfold Machine.gainInterlock
  split
  · exact h
  · next o ho =>
    obtain ⟨hmem, hown, -⟩ := h.owner ho
    refine h.update fun x hx e => ?_
    obtain rfl := eq_of_id_eq h.books.head.ids hx hmem e
    exact ⟨carries_of_holds rfl rfl rfl rfl nofun, rfl, ⟨by simp [hown], fun _ => by simp [Holds.any]⟩⟩

/-- An interlock stop begins on the work of a state that it may stop. -/
theorem Inv.beginStop (h : Inv P C s) (hs : s.seq.state.stoppable = true) : Inv P C (beginStop s) := by
  have hw := stoppable_holdsPoint hs
  exact h.workOn (by constructor <;> simp [Machine.beginStop]) hw (by simpa using hw) (by simp) (by simp) (by simp)
    (by simp [returnReserve]) (by simpa using hs)

theorem Inv.stopView (h : Inv P C s) : Inv P C (stopView s) := by
  refine h.same ⟨by constructor <;> simp, ?_, ?_, ?_, ?_, ?_⟩ <;> simp

theorem Inv.interruptPoint (h : Inv P C s) (hs : s.seq.state = .ramp ∨ s.seq.state = .dwell) : Inv P C (interruptPoint s) :=
  (h.mapCur _).enterUnload hs

theorem Inv.doorAction (h : Inv P C s) : Inv P C (doorAction s) := by
  unfold Machine.doorAction
  split
  · exact h
  · cases hs : s.seq.state with
    | idle | unload | reviewWait | retract | paused => exact h
    | awaitPoints | storeWait => exact h.pauseWaiting (by simp [waitingAtBoundary, hs])
    | moveIndent | tare | approach | moveView => exact h.beginStop (by simp [hs, SeqState.stoppable])
    | settle | focus | measure => exact h.stopView.beginStop (by simp [hs, SeqState.stoppable])
    | ramp => exact h.interruptPoint (.inl hs)
    | dwell => exact h.interruptPoint (.inr hs)

theorem Inv.afterDoor {was : Option DoorLevel} {now : DoorLevel} (h : Inv P C s) : Inv P C (afterDoor was now s) := by
  unfold Machine.afterDoor
  split
  · exact h
  · exact h.grant
  · exact h.postInterlock.gainInterlock.doorAction
  · exact h.postInterlock.grant

theorem Inv.afterEstop {was : Option EstopLevel} {now : EstopLevel} (h : Inv P C s) : Inv P C (afterEstop was now s) := by
  unfold Machine.afterEstop
  split
  · exact h
  · exact h.grant
  · unfold estopPressed
    split
    · exact h.postInterlock
    · exact h.postInterlock.abortPath
  · exact h.postInterlock.grant

/-! ## The links (R185, R186) -/

theorem Inv.takeShared {f : RxFrame} (h : Inv P C s) : Inv P C (takeShared p f s) := by
  unfold Machine.takeShared
  split
  · next e =>
    unfold sharedEffect at e
    split at e
    · simp at e
    · split at e
      · obtain rfl := Option.some.inj e; exact h.holdAllEffect
      · split at e
        · obtain rfl := Option.some.inj e; exact h.resumeAllEffect
        · split at e
          · exact h.setLampEffect e
          · simp at e
  · exact h.modPort _ _

theorem Inv.takeAddressed {f : RxFrame} (h : Inv P C s) : Inv P C (takeAddressed p f s) := by
  unfold Machine.takeAddressed
  dsimp only
  split
  · exact h.modPort _ _
  · split
    · exact h.modPort _ _
    · split <;> exact h.modPort _ _

theorem Inv.resetPort (h : Inv P C s) : Inv P C (resetPort p s) := by
  have h1 : Inv P C ((s.modPort p (LinkPort.restart p)).modStore (·.setArmed p true)) := by
    refine h.restock ?_ ?_ ?_ ?_ ?_ (fun hC => ?_) fun hC => ?_
    iterate 5 simp
    · simpa using (h.books.store hC).setArmed p true
    · simpa using h.books.desk hC
  have h2 : Inv P C (dropClaim p ((s.modPort p (LinkPort.restart p)).modStore (·.setArmed p true))) := by
    unfold dropClaim
    split
    · exact h1
    · next v hv =>
      split
      · exact h1.claim hv
      · exact h1
  unfold Machine.resetPort dropLock
  split
  · exact h2.setLock
  · exact h2

/-- A part with an empty table, a free head, a whole pool, an empty store and no review keeps the books. -/
theorem Inv.ofReset (e1 : s.table.orders = []) (e2 : s.arb.owner = .none) (e3 : s.poolFree = 512) (e4 : s.store = ResultStore.reset)
    (e5 : s.desk = { review := .none, window := .none }) (e6 : s.seq = Sequencer.reset) : Inv P C s := by
  refine ⟨⟨⟨⟨?_, ?_, .inl e2, ?_⟩, fun _ => ⟨?_, ?_⟩, fun _ => ⟨?_, ?_, ?_, ?_⟩, fun _ => ⟨?_, ?_, ?_⟩, fun _ => ?_⟩, ?_⟩, ⟨?_, ?_⟩⟩
  on_goal 14 => constructor
  all_goals simp [e1, e2, e3, e4, e5, e6, listed, ResultStore.reset, Sequencer.reset, returnReserve, SeqState.holdsPoint, ModeFits]

end Sys2Proof.Proofs.Orders

/-! # Every step keeps the head, the pool and the counts -/

namespace Sys2Proof.Proofs.Orders
open Sys2Proof Sys2Proof.Machine

variable {P C : Prop} {n m : Nat} {s t : State} {o : Order} {p : Port} {src : Source}

/-! ## The events -/

theorem Inv.coldReset {pins : ResetPins} (e : execColdReset pins s = .next t) : Inv P C t := by
  obtain rfl := Host.Outcome.next.inj e
  exact Inv.ofReset rfl rfl rfl rfl rfl rfl

theorem Inv.startupLoadComplete {l : List Nat} (h : Inv P C s) (e : execStartupLoadComplete l s = .next t) : Inv P C t := by
  obtain rfl := Host.Outcome.next.inj e
  split
  · exact h
  · exact Inv.postLoadFaults (h.quiet rfl rfl rfl rfl rfl rfl)

theorem Inv.commitComplete {r : ReadBack} (h : Inv P C s) (e : execCommitComplete r s = .next t) : Inv P C t := by
  obtain rfl := Host.Outcome.next.inj e
  split
  · exact h
  · next c _ =>
    have h1 : Inv P C (s.modCal (commitTable c (committedSlot c r))) := h.quiet rfl rfl rfl rfl rfl rfl
    dsimp only
    split
    · exact (h1.postTo _ _).postBoth _
    · exact h1.postTo _ _

theorem Inv.frameTaken (h : Inv P C s) (e : execFrameTaken p s = .next t) : Inv P C t := by
  obtain rfl := Host.Outcome.next.inj e
  split
  · exact h
  · split
    · dsimp only
      split
      · exact (h.modPort _ _).takeShared
      · exact (h.modPort _ _).takeAddressed
    · exact h

theorem Inv.portReset (h : Inv P C s) (e : execPortReset p s = .next t) : Inv P C t := by
  obtain rfl := Host.Outcome.next.inj e
  split
  · exact h.resetPort
  · exact h

theorem Inv.decideCancel {id : Nat} (h : Inv P C s) : Inv P C (decideCancel src id s).state := by
  unfold Machine.decideCancel
  split
  · exact h
  · next ho =>
    obtain ⟨hf, hne, -⟩ := liveOrder_ok ho
    exact h.cancelEffect hf hne

theorem Inv.decideHold {id : Nat} (h : Inv P C s) : Inv P C (decideHold src id s).state := by
  unfold Machine.decideHold
  split
  · exact h
  · next ho =>
    obtain ⟨hf, hne, -⟩ := liveOrder_ok ho
    exact h.holdEffect hf hne

theorem Inv.decideResume {id : Nat} (h : Inv P C s) : Inv P C (decideResume src id s).state := by
  unfold Machine.decideResume
  split
  · exact h
  · next ho =>
    obtain ⟨hf, hne, -⟩ := liveOrder_ok ho
    split
    · exact h.resumeEffect hf hne
    · exact h

theorem Inv.decideReadCalibration {rec : Nat} (h : Inv P C s) : Inv P C (decideReadCalibration rec s).state := by
  unfold Machine.decideReadCalibration
  split <;> exact h

theorem Inv.inputChange {c : LineChange} (h : Inv P C s) (e : execInputChange c s = .next t) : Inv P C t := by
  obtain rfl := Host.Outcome.next.inj e
  cases c <;> exact h.quiet rfl rfl rfl rfl rfl rfl

theorem Inv.stabilityTimerExpiry {i : InputName} (h : Inv P C s) (e : execStabilityTimerExpiry i s = .next t) : Inv P C t := by
  obtain rfl := Host.Outcome.next.inj e
  have h1 (f : Inputs → Inputs) : Inv P C (s.modInputs f) := h.quiet rfl rfl rfl rfl rfl rfl
  cases i with
  | door =>
    dsimp only
    split
    · exact h
    · exact (h1 _).afterDoor
  | estop =>
    dsimp only
    split
    · exact h
    · exact (h1 _).afterEstop
  | station =>
    dsimp only
    split
    · exact h
    · exact (h1 _).judgeTurret

theorem Inv.stgDone (h : Inv P C s) (e : execStgDone s = .next t) : Inv P C t := by
  obtain rfl := Host.Outcome.next.inj e
  split
  · exact h
  · split
    · exact Inv.judgeMove (h.stageDone.same ⟨⟨rfl, rfl, rfl, rfl, rfl⟩, rfl, rfl, rfl, rfl, rfl⟩)
    · exact h.stageDone.judgeRest

theorem Inv.stgFault (h : Inv P C s) (e : execStgFault s = .next t) : Inv P C t := by
  obtain rfl := Host.Outcome.next.inj e
  split
  · exact h
  · split
    · exact h.stageDone
    · exact h.stageDone.abortPath

theorem Inv.turDone (h : Inv P C s) (e : execTurDone s = .next t) : Inv P C t := by
  obtain rfl := Host.Outcome.next.inj e
  split
  · exact h
  · split
    · exact h.turretDone.judgeTurret
    · exact h.turretDone.judgeRest

theorem Inv.stageTimerExpiry (h : Inv P C s) (e : execStageTimerExpiry s = .next t) : Inv P C t := by
  obtain rfl := Host.Outcome.next.inj e
  split
  · exact h
  · exact h.stageDone.abortPath

theorem Inv.turretTimerExpiry (h : Inv P C s) (e : execTurretTimerExpiry s = .next t) : Inv P C t := by
  obtain rfl := Host.Outcome.next.inj e
  split
  · exact h
  · exact h.abortPath

theorem Inv.loadSample {count : Int} (h : Inv P C s) (e : execLoadSample count s = .next t) : Inv P C t := by
  obtain rfl := Host.Outcome.next.inj e
  exact (h.modForce _).judgeSample.quiet rfl rfl rfl rfl rfl rfl

theorem Inv.actRaised {level : Bool} (h : Inv P C s) (e : execActRaised level s = .next t) : Inv P C t := by
  obtain rfl := Host.Outcome.next.inj e
  split
  · exact h
  · exact Inv.judgeRest (h.quiet rfl rfl rfl rfl rfl rfl)

theorem Inv.approachTimerExpiry (h : Inv P C s) (e : execApproachTimerExpiry s = .next t) : Inv P C t := by
  obtain rfl := Host.Outcome.next.inj e
  split
  · exact h
  · split
    · next hs =>
      exact h.retract (why := .noContact) (by constructor <;> simp) (by simp [hs.1]) (by simp [hs.1]) (by simp) (by simp)
        (fun hC _ => h.seq.point hC (by simp [hs.1, SeqState.holdsPoint])) (by simp) (by simp) (by simp [hs.2])
    · exact h

theorem Inv.unloadTimerExpiry (h : Inv P C s) (e : execUnloadTimerExpiry s = .next t) : Inv P C t := by
  obtain rfl := Host.Outcome.next.inj e
  split
  · exact h
  · exact h.abortPath

theorem Inv.retractTimerExpiry (h : Inv P C s) (e : execRetractTimerExpiry s = .next t) : Inv P C t := by
  obtain rfl := Host.Outcome.next.inj e
  split
  · exact h
  · split
    · next hw =>
      refine h.abortRecords ?_
      unfold abortReasonHeld at hw
      split at hw
      · assumption
      · simp at hw
    · exact h.abortPath

theorem Inv.starvationTimerExpiry (h : Inv P C s) (e : execStarvationTimerExpiry s = .next t) : Inv P C t := by
  obtain rfl := Host.Outcome.next.inj e
  split
  · next ho =>
    split
    · next hs => exact h.yieldOwner ho hs
    · exact h
  · exact h

/-! ## The camera -/

theorem Inv.modPins (h : Inv P C s) (f : Pins → Pins) : Inv P C (s.modPins f) := h.quiet rfl rfl rfl rfl rfl rfl

theorem Inv.frameStart (h : Inv P C s) (e : execFrameStart s = .next t) : Inv P C t := by
  obtain rfl := Host.Outcome.next.inj e
  split
  · exact h
  · exact (h.modPins _).modCap _

theorem Inv.lineMarker {rise : Bool} (h : Inv P C s) (e : execLineMarker rise s = .next t) : Inv P C t := by
  obtain rfl := Host.Outcome.next.inj e
  split
  · exact h
  · dsimp only
    split
    · exact (h.modPins _).modCap _
    · exact h.modPins _

theorem Inv.pixelTaken {value : Nat} (h : Inv P C s) (e : execPixelTaken value s = .next t) : Inv P C t := by
  obtain rfl := Host.Outcome.next.inj e
  split
  · exact h.modCap _
  · exact h

theorem Inv.frameCompletion (h : Inv P C s) (e : execFrameCompletion s = .next t) : Inv P C t := by
  obtain rfl := Host.Outcome.next.inj e
  split
  · exact h
  · dsimp only
    split
    · exact h.modPins _
    · exact ((h.modPins _).modCap _).followFocus

theorem Inv.scoreReady (h : Inv P C s) (e : execScoreReady s = .next t) : Inv P C t := by
  obtain rfl := Host.Outcome.next.inj e
  split
  · split
    · next hv => exact (h.modCap _).judgeFocus hv
    · exact h
  · exact h

theorem Inv.frameTimerExpiry (h : Inv P C s) (e : execFrameTimerExpiry s = .next t) : Inv P C t := by
  obtain rfl := Host.Outcome.next.inj e
  split
  · exact h
  · split
    · next hv => exact h.captureFailure hv
    · exact h

theorem Inv.measurementReport (h : Inv P C s) (e : execMeasurementReport s = .next t) : Inv P C t := by
  obtain rfl := Host.Outcome.next.inj e
  split
  · next ho =>
    split
    · next hs =>
      exact Inv.takeReport (h.quiet rfl rfl rfl rfl rfl rfl) (h.owner ho).2.1 hs.1 hs.2
    · exact h
  · exact h

theorem Inv.windowTimerExpiry (h : Inv P C s) (e : execWindowTimerExpiry s = .next t) : Inv P C t := by
  obtain rfl := Host.Outcome.next.inj e
  split
  · next hv => exact h.afterClose (closes_unmeasured .reviewExpired) (by simp [hv])
  · exact h

/-! ## A command, and a step -/

/-- A request answered by what its owner decided. -/
theorem Inv.served {cmd : Instr} {d : State → Answer} (h : Inv P C s) (e : Host.Outcome.next (Machine.serve cmd src d s)
    = (.next t : Host.Outcome State Fault Refusal)) (hd : Inv P C (d s).state) : Inv P C t := by
  obtain rfl := Host.Outcome.next.inj e
  exact h.serve hd

/-- A change of one port alone. -/
theorem Inv.ported {f : LinkPort → LinkPort} (h : Inv P C s) (e : Host.Outcome.next (s.modPort p f)
    = (.next t : Host.Outcome State Fault Refusal)) : Inv P C t := by
  obtain rfl := Host.Outcome.next.inj e
  exact h.modPort p f

/-- Every command keeps the head in order, and the pool and the counts balanced. -/
theorem Inv.exec {i : Instr} (h : Inv P C s) (e : exec i s = .next t) : Inv P C t := by
  cases i with
  | coldReset pins => exact Inv.coldReset e
  | startupLoadComplete l => exact h.startupLoadComplete e
  | commitComplete r => exact h.commitComplete e
  | frameReceived p chars => exact h.ported e
  | receiveGap p => exact h.ported e
  | frameTaken p => exact h.frameTaken e
  | responseSent p => exact h.ported e
  | lineBreak p => exact h.ported e
  | portReset p => exact h.portReset e
  | readState src => exact h.served e h
  | readNotices src => exact h.served e (h.decideReadNotices (src := src))
  | setLink src r => exact h.served e h.decideSetLink
  | openOrder src r => exact h.served e h.decideOpenOrder
  | addPoints src r => exact h.served e h.decideAddPoints
  | cancelOrder src id => exact h.served e h.decideCancel
  | holdOrder src id => exact h.served e h.decideHold
  | resumeOrder src id => exact h.served e h.decideResume
  | holdAll src => exact h.served e h.holdAllEffect
  | resumeAll src => exact h.served e h.resumeAllEffect
  | takeHead src => exact h.served e h.decideTakeHead
  | freeHead src => exact h.served e h.decideFreeHead
  | claimReview src seq => exact h.served e h.decideClaim
  | enterDiagonals src seq d1 d2 => exact h.served e h.decideEnter
  | rejectImpression src seq => exact h.served e h.decideReject
  | readResults src first maxN => exact h.served e h
  | releaseResults src through => exact h.served e h.decideReleaseResults
  | readSummary src id => exact h.served e h.decideReadSummary
  | readCalibration src rec => exact h.served e (h.decideReadCalibration (rec := rec))
  | writeCalibration src rec f => exact h.served e h.decideWriteCalibration
  | setLamp src g a r => exact h.served e h.decideSetLamp
  | setInputs src d e' c => exact h.served e h.decideSetInputs
  | inputChange c => exact h.inputChange e
  | stabilityTimerExpiry input => exact h.stabilityTimerExpiry e
  | stgDone => exact h.stgDone e
  | stgFault => exact h.stgFault e
  | turDone => exact h.turDone e
  | stageTimerExpiry => exact h.stageTimerExpiry e
  | turretTimerExpiry => exact h.turretTimerExpiry e
  | loadSample count => exact h.loadSample e
  | actRaised level => exact h.actRaised e
  | approachTimerExpiry => exact h.approachTimerExpiry e
  | unloadTimerExpiry => exact h.unloadTimerExpiry e
  | retractTimerExpiry => exact h.retractTimerExpiry e
  | starvationTimerExpiry => exact h.starvationTimerExpiry e
  | frameStart => exact h.frameStart e
  | frameCompletion => exact h.frameCompletion e
  | scoreReady => exact h.scoreReady e
  | frameTimerExpiry => exact h.frameTimerExpiry e
  | measurementReport => exact h.measurementReport e
  | windowTimerExpiry => exact h.windowTimerExpiry e
  | lampTimebaseTick =>
    obtain rfl := Host.Outcome.next.inj e
    exact h.quiet rfl rfl rfl rfl rfl rfl
  | lineMarker rise => exact h.lineMarker e
  | pixelTaken value => exact h.pixelTaken e

theorem Inv.step (h : Inv P C s) (e : step s = .next t) : Inv P C t := by
  unfold Machine.step at e
  split at e
  · obtain rfl := Host.Outcome.next.inj e
    exact h
  · next rest _ =>
    have h' : Inv P C { s with pending := rest } := h.quiet rfl rfl rfl rfl rfl rfl
    exact h'.exec e

/-- Settles O9: the head in order is the least of the invariants that every step keeps. -/
theorem stepKeepsTheHeadInOrder : Obligations.StepKeepsTheHeadInOrder :=
  fun _ _ h e => headOk_iff.2 ((headOk_iff.1 h).step e)

/-- Settles O10: the balanced pool and the balanced counts, each over the head in order, are two of the invariants that every step
keeps. -/
theorem stepKeepsThePoolBalanced : Obligations.StepKeepsThePoolBalanced :=
  ⟨fun _ _ h e => poolOk_iff.2 ((poolOk_iff.1 h).step e), fun _ _ h e => countsOk_iff.2 ((countsOk_iff.1 h).step e)⟩

end Sys2Proof.Proofs.Orders

/-! # Cold reset, and the frame of every command -/

namespace Sys2Proof.Proofs.Orders
open Sys2Proof Sys2Proof.Machine

variable {s t : State} {o : Order} {p : Port} {src : Source}

/-! ## Cold reset (3.5) -/

/-- Settles O2: each block's reset value is the one the spec states. -/
theorem coldResetStartsEveryBlock : Obligations.ColdResetStartsEveryBlock := by
  intro pins s
  refine ⟨_, rfl, rfl, rfl, rfl, rfl, rfl, rfl, rfl, rfl, rfl, ?banks, rfl, rfl, rfl, rfl, rfl, rfl, rfl, rfl, rfl, rfl, rfl, rfl, rfl,
    rfl, rfl, rfl, rfl, rfl, rfl, rfl, rfl, rfl, rfl, rfl, rfl, rfl, rfl, rfl, rfl, ?ports, rfl, rfl, rfl⟩
  case banks =>
    intro k hk
    rcases List.mem_pair.1 hk with rfl | rfl <;> rfl
  case ports =>
    intro p
    cases p <;> exact ⟨rfl, rfl, rfl, rfl, rfl, rfl, rfl, rfl, rfl, rfl, rfl, rfl⟩

end Sys2Proof.Proofs.Orders

/-! # The frame of every command

What each request's owner and each event leaves, block by block, in the form of the frame lemmas of the shared operations. -/

namespace Sys2Proof.Proofs.Orders
open Sys2Proof Sys2Proof.Machine

variable {s t : State} {o : Order} {p : Port} {src : Source}

/-! ## States taken block by block from two -/

/-- One port taken from another state, where the other port is the same in both. -/
theorem withPort_ports (h : t.port p.other = s.port p.other) : (s.withPort p t).portA = t.portA ∧ (s.withPort p t).portB = t.portB := by
  cases p
  · exact ⟨rfl, h.symm⟩
  · exact ⟨h.symm, rfl⟩

/-- Two states equal but for one port of the second. -/
theorem eq_withPort (hp : t.port p.other = s.port p.other) (h : t = { s with portA := t.portA, portB := t.portB }) :
    t = s.withPort p t := by
  rw [State.withPort]
  cases p
  · exact h.trans (by rw [show t.portB = s.portB from hp]; rfl)
  · exact h.trans (by rw [show t.portA = s.portA from hp]; rfl)

/-! ## Answering -/

/-- A block that the owner of a request leaves as it was is as it was once the request is answered. -/
@[simp] theorem serve_frame (cmd : Instr) (src : Source) (d : State → Answer) (s : State) :
    ((d s).state.straps = s.straps → (serve cmd src d s).straps = s.straps)
      ∧ ((d s).state.table = s.table → (serve cmd src d s).table = s.table)
      ∧ ((d s).state.arb = s.arb → (serve cmd src d s).arb = s.arb)
      ∧ ((d s).state.poolFree = s.poolFree → (serve cmd src d s).poolFree = s.poolFree)
      ∧ ((d s).state.seq = s.seq → (serve cmd src d s).seq = s.seq)
      ∧ ((d s).state.force = s.force → (serve cmd src d s).force = s.force)
      ∧ ((d s).state.cap = s.cap → (serve cmd src d s).cap = s.cap)
      ∧ ((d s).state.engine = s.engine → (serve cmd src d s).engine = s.engine)
      ∧ ((d s).state.desk = s.desk → (serve cmd src d s).desk = s.desk)
      ∧ ((d s).state.store = s.store → (serve cmd src d s).store = s.store)
      ∧ ((d s).state.cal = s.cal → (serve cmd src d s).cal = s.cal)
      ∧ ((d s).state.inputs = s.inputs → (serve cmd src d s).inputs = s.inputs)
      ∧ ((d s).state.lamps = s.lamps → (serve cmd src d s).lamps = s.lamps)
      ∧ ((d s).state.pins = s.pins → (serve cmd src d s).pins = s.pins)
      ∧ ((d s).state.pending = s.pending → (serve cmd src d s).pending = s.pending)
      ∧ ((d s).state.port src.port.other = s.port src.port.other → (serve cmd src d s).port src.port.other = s.port src.port.other) := by
  have h := serve_rest cmd src d s
  dsimp only at h
  split at h <;> simp +contextual [h]

/-! ## The owners of the requests -/

@[simp] theorem afterAppend_frame (id n : Nat) (s : State) :
    (afterAppend id n s).straps = s.straps ∧ (afterAppend id n s).cap = s.cap ∧ (afterAppend id n s).engine = s.engine
      ∧ (afterAppend id n s).desk = s.desk ∧ (afterAppend id n s).cal = s.cal ∧ (afterAppend id n s).inputs = s.inputs
      ∧ (afterAppend id n s).lamps = s.lamps ∧ (afterAppend id n s).pending = s.pending := by
  unfold afterAppend
  repeat' split
  all_goals simp

@[simp] theorem cancelNow_frame (o : Order) (s : State) :
    (cancelNow o s).straps = s.straps ∧ (cancelNow o s).cap = s.cap ∧ (cancelNow o s).engine = s.engine
      ∧ (cancelNow o s).desk = s.desk ∧ (cancelNow o s).cal = s.cal ∧ (cancelNow o s).inputs = s.inputs
      ∧ (cancelNow o s).lamps = s.lamps ∧ (cancelNow o s).pending = s.pending := by
  unfold cancelNow afterGrant
  split <;> simp

@[simp] theorem cancelEffect_frame (o : Order) (s : State) :
    (cancelEffect o s).straps = s.straps ∧ (cancelEffect o s).cap = s.cap ∧ (cancelEffect o s).engine = s.engine
      ∧ (cancelEffect o s).cal = s.cal ∧ (cancelEffect o s).inputs = s.inputs ∧ (cancelEffect o s).lamps = s.lamps
      ∧ (cancelEffect o s).pending = s.pending := by
  unfold cancelEffect
  split
  · simp
  · split
    · simp
    · unfold cancelOwner markCancel
      dsimp only
      repeat' split
      all_goals simp

@[simp] theorem holdEffect_frame (o : Order) (s : State) :
    (holdEffect o s).portA = s.portA ∧ (holdEffect o s).portB = s.portB ∧ (holdEffect o s).straps = s.straps
      ∧ (holdEffect o s).arb = s.arb ∧ (holdEffect o s).poolFree = s.poolFree ∧ (holdEffect o s).cap = s.cap
      ∧ (holdEffect o s).engine = s.engine ∧ (holdEffect o s).desk = s.desk ∧ (holdEffect o s).store = s.store
      ∧ (holdEffect o s).cal = s.cal ∧ (holdEffect o s).inputs = s.inputs ∧ (holdEffect o s).lamps = s.lamps
      ∧ (holdEffect o s).pins = s.pins ∧ (holdEffect o s).pending = s.pending := by
  unfold holdEffect
  repeat' split
  all_goals simp

@[simp] theorem resumeEffect_frame (o : Order) (s : State) :
    (resumeEffect o s).straps = s.straps ∧ (resumeEffect o s).cap = s.cap ∧ (resumeEffect o s).engine = s.engine
      ∧ (resumeEffect o s).cal = s.cal ∧ (resumeEffect o s).inputs = s.inputs ∧ (resumeEffect o s).lamps = s.lamps
      ∧ (resumeEffect o s).pending = s.pending := by
  unfold resumeEffect
  dsimp only
  repeat' split
  all_goals simp

@[simp] theorem decideOpenOrder_frame (src : Source) (r : OpenOrderReq) (s : State) :
    let t := (decideOpenOrder src r s).state
    (∀ q, t.port q = s.port q) ∧ t.straps = s.straps ∧ t.arb = s.arb ∧ t.poolFree = s.poolFree ∧ t.seq = s.seq
      ∧ t.force = s.force ∧ t.cap = s.cap ∧ t.engine = s.engine ∧ t.desk = s.desk ∧ t.store = s.store ∧ t.cal = s.cal
      ∧ t.inputs = s.inputs ∧ t.lamps = s.lamps ∧ t.pins = s.pins ∧ t.pending = s.pending := by
  unfold decideOpenOrder
  split <;> simp [Answer.refuse]

@[simp] theorem decideAddPoints_frame (src : Source) (r : AddPointsReq) (s : State) :
    let t := (decideAddPoints src r s).state
    t.straps = s.straps ∧ t.cap = s.cap ∧ t.engine = s.engine ∧ t.desk = s.desk ∧ t.cal = s.cal ∧ t.inputs = s.inputs
      ∧ t.lamps = s.lamps ∧ t.pending = s.pending := by
  unfold decideAddPoints
  dsimp only
  repeat' split
  all_goals simp [Answer.refuse]

@[simp] theorem decideCancel_frame (src : Source) (id : Nat) (s : State) :
    let t := (decideCancel src id s).state
    t.straps = s.straps ∧ t.cap = s.cap ∧ t.engine = s.engine ∧ t.cal = s.cal ∧ t.inputs = s.inputs ∧ t.lamps = s.lamps
      ∧ t.pending = s.pending := by
  unfold decideCancel
  split <;> simp [Answer.refuse, Answer.accept]

@[simp] theorem decideHold_frame (src : Source) (id : Nat) (s : State) :
    let t := (decideHold src id s).state
    (∀ q, t.port q = s.port q) ∧ t.straps = s.straps ∧ t.arb = s.arb ∧ t.poolFree = s.poolFree ∧ t.cap = s.cap ∧ t.engine = s.engine
      ∧ t.desk = s.desk ∧ t.store = s.store ∧ t.cal = s.cal ∧ t.inputs = s.inputs ∧ t.lamps = s.lamps ∧ t.pins = s.pins
      ∧ t.pending = s.pending := by
  unfold decideHold
  split <;> simp [Answer.refuse, Answer.accept, State.port]

@[simp] theorem decideResume_frame (src : Source) (id : Nat) (s : State) :
    let t := (decideResume src id s).state
    t.straps = s.straps ∧ t.cap = s.cap ∧ t.engine = s.engine ∧ t.cal = s.cal ∧ t.inputs = s.inputs ∧ t.lamps = s.lamps
      ∧ t.pending = s.pending := by
  unfold decideResume
  repeat' split
  all_goals simp [Answer.refuse, Answer.accept]

@[simp] theorem decideTakeHead_frame (src : Source) (s : State) :
    let t := (decideTakeHead src s).state
    t.straps = s.straps ∧ t.cap = s.cap ∧ t.engine = s.engine ∧ t.desk = s.desk ∧ t.cal = s.cal ∧ t.inputs = s.inputs
      ∧ t.lamps = s.lamps ∧ t.pending = s.pending := by
  unfold decideTakeHead
  repeat' split
  all_goals simp [Answer.refuse, Answer.accept]

@[simp] theorem decideFreeHead_frame (src : Source) (s : State) :
    let t := (decideFreeHead src s).state
    t.straps = s.straps ∧ t.cap = s.cap ∧ t.engine = s.engine ∧ t.desk = s.desk ∧ t.cal = s.cal ∧ t.inputs = s.inputs
      ∧ t.lamps = s.lamps ∧ t.pending = s.pending := by
  unfold decideFreeHead
  repeat' split
  all_goals simp [Answer.refuse, Answer.accept]

@[simp] theorem decideClaim_frame (src : Source) (seq : Nat) (s : State) :
    let t := (decideClaim src seq s).state
    (∀ q, t.port q = s.port q) ∧ t.straps = s.straps ∧ t.table = s.table ∧ t.arb = s.arb ∧ t.poolFree = s.poolFree
      ∧ t.seq = s.seq ∧ t.force = s.force ∧ t.cap = s.cap ∧ t.engine = s.engine ∧ t.store = s.store ∧ t.cal = s.cal
      ∧ t.inputs = s.inputs ∧ t.lamps = s.lamps ∧ t.pins = s.pins ∧ t.pending = s.pending := by
  unfold decideClaim
  repeat' split
  all_goals simp [Answer.refuse, Answer.accept]

@[simp] theorem decideEnter_frame (src : Source) (seq d1 d2 : Nat) (s : State) :
    let t := (decideEnter src seq d1 d2 s).state
    t.straps = s.straps ∧ t.cap = s.cap ∧ t.engine = s.engine ∧ t.cal = s.cal ∧ t.inputs = s.inputs ∧ t.lamps = s.lamps
      ∧ t.pending = s.pending := by
  unfold decideEnter
  repeat' split
  all_goals simp [Answer.refuse, Answer.accept]

@[simp] theorem decideReject_frame (src : Source) (seq : Nat) (s : State) :
    let t := (decideReject src seq s).state
    t.straps = s.straps ∧ t.cap = s.cap ∧ t.engine = s.engine ∧ t.cal = s.cal ∧ t.inputs = s.inputs ∧ t.lamps = s.lamps
      ∧ t.pending = s.pending := by
  unfold decideReject
  split <;> simp [Answer.refuse, Answer.accept]

@[simp] theorem decideReleaseResults_frame (src : Source) (through : Nat) (s : State) :
    let t := (decideReleaseResults src through s).state
    t.straps = s.straps ∧ t.cap = s.cap ∧ t.engine = s.engine ∧ t.desk = s.desk ∧ t.cal = s.cal ∧ t.inputs = s.inputs
      ∧ t.lamps = s.lamps ∧ t.pending = s.pending := by
  unfold decideReleaseResults
  dsimp only
  split <;> simp

@[simp] theorem decideReadSummary_frame (src : Source) (id : Nat) (s : State) :
    let t := (decideReadSummary src id s).state
    (∀ q, t.port q = s.port q) ∧ t.straps = s.straps ∧ t.arb = s.arb ∧ t.poolFree = s.poolFree ∧ t.seq = s.seq
      ∧ t.force = s.force ∧ t.cap = s.cap ∧ t.engine = s.engine ∧ t.desk = s.desk ∧ t.store = s.store ∧ t.cal = s.cal
      ∧ t.inputs = s.inputs ∧ t.lamps = s.lamps ∧ t.pins = s.pins ∧ t.pending = s.pending := by
  unfold decideReadSummary
  repeat' split
  all_goals simp [Answer.refuse]

@[simp] theorem decideReadCalibration_state (rec : Nat) (s : State) : (decideReadCalibration rec s).state = s := by
  unfold decideReadCalibration
  split <;> rfl

@[simp] theorem decideWriteCalibration_frame (src : Source) (rec : Nat) (f : CalFields) (s : State) :
    let t := (decideWriteCalibration src rec f s).state
    t.straps = s.straps ∧ t.cap = s.cap ∧ t.engine = s.engine ∧ t.desk = s.desk ∧ t.inputs = s.inputs ∧ t.lamps = s.lamps
      ∧ t.pending = s.pending := by
  unfold decideWriteCalibration
  dsimp only
  repeat' split
  all_goals simp [Answer.refuse]

theorem setLampEffect_frame {g a r : Nat} (h : setLampEffect g a r s = .some t) : t = { s with lamps := t.lamps } := by
  unfold setLampEffect at h
  split at h
  · obtain rfl := Option.some.inj h
    rfl
  · simp at h

@[simp] theorem decideSetLamp_frame (g a r : Nat) (s : State) :
    let t := (decideSetLamp g a r s).state
    (∀ q, t.port q = s.port q) ∧ t.straps = s.straps ∧ t.table = s.table ∧ t.arb = s.arb ∧ t.poolFree = s.poolFree
      ∧ t.seq = s.seq ∧ t.force = s.force ∧ t.cap = s.cap ∧ t.engine = s.engine ∧ t.desk = s.desk ∧ t.store = s.store
      ∧ t.cal = s.cal ∧ t.inputs = s.inputs ∧ t.pins = s.pins ∧ t.pending = s.pending := by
  unfold decideSetLamp
  split
  · simp [Answer.refuse]
  · next h =>
    dsimp only
    rw [setLampEffect_frame h]
    exact ⟨fun q => by cases q <;> rfl, rfl, rfl, rfl, rfl, rfl, rfl, rfl, rfl, rfl, rfl, rfl, rfl, rfl, rfl⟩

@[simp] theorem decideSetInputs_frame (d e c : Nat) (s : State) :
    let t := (decideSetInputs d e c s).state
    (∀ q, t.port q = s.port q) ∧ t.straps = s.straps ∧ t.table = s.table ∧ t.arb = s.arb ∧ t.poolFree = s.poolFree
      ∧ t.seq = s.seq ∧ t.force = s.force ∧ t.cap = s.cap ∧ t.engine = s.engine ∧ t.desk = s.desk ∧ t.store = s.store
      ∧ t.cal = s.cal ∧ t.lamps = s.lamps ∧ t.pins = s.pins ∧ t.pending = s.pending := by
  unfold decideSetInputs
  split <;> simp [Answer.refuse]

@[simp] theorem decideReadNotices_state (src : Source) (s : State) :
    (decideReadNotices src s).state = s.modPort src.port LinkPort.popNotices := rfl

/-- SET LINK changes the asking port alone. -/
theorem decideSetLink_port (src : Source) (r : SetLinkReq) (s : State) : ∃ f : LinkPort → LinkPort,
    (decideSetLink src r s).state = s.modPort src.port f := by
  unfold decideSetLink
  split
  · dsimp only
    exact ⟨_, rfl⟩
  · exact ⟨fun q => q, (State.modPort_id _ _).symm⟩

end Sys2Proof.Proofs.Orders

/-! # Every command keeps its frame -/

namespace Sys2Proof.Proofs.Orders
open Sys2Proof Sys2Proof.Machine

variable {s t : State} {o : Order} {p : Port} {src : Source}

@[simp] theorem withPort_frame (p : Port) (s t : State) :
    (s.withPort p t).straps = s.straps ∧ (s.withPort p t).table = s.table ∧ (s.withPort p t).arb = s.arb
      ∧ (s.withPort p t).poolFree = s.poolFree ∧ (s.withPort p t).seq = s.seq ∧ (s.withPort p t).force = s.force
      ∧ (s.withPort p t).cap = s.cap ∧ (s.withPort p t).engine = s.engine ∧ (s.withPort p t).desk = s.desk
      ∧ (s.withPort p t).store = s.store ∧ (s.withPort p t).cal = s.cal ∧ (s.withPort p t).inputs = s.inputs
      ∧ (s.withPort p t).lamps = s.lamps ∧ (s.withPort p t).pins = s.pins ∧ (s.withPort p t).pending = s.pending := by
  simp [State.withPort]

/-- Changing one port changes that port alone. -/
theorem modPort_withPort (f : LinkPort → LinkPort) : s.modPort p f = s.withPort p (s.modPort p f) := by
  cases p <;> rfl

/-! ## Requests -/

@[simp] theorem holdAllEffect_port (q : Port) (s : State) : (holdAllEffect s).port q = s.port q := by
  cases q <;> simp

/-- A request whose owner changes nothing changes the asking port alone. -/
theorem serve_withPort {cmd : Instr} {d : State → Answer} {f : LinkPort → LinkPort} (h : (d s).state = s.modPort src.port f) :
    serve cmd src d s = s.withPort src.port (serve cmd src d s) := by
  have hp : (serve cmd src d s).port src.port.other = s.port src.port.other := by
    simp [h, State.modPort_port_other (Port.other_ne src.port)]
  apply State.eq_of_blocks <;> simp [withPort_ports hp, h]

/-- The frame of every request. -/
theorem request_keepsFrame {i : Instr} (hi : (sourceOf i).isSome = true) (e : exec i s = .next t) : frameOf i s t := by
  cases i with
  | readState src =>
    obtain rfl := Host.Outcome.next.inj e
    exact serve_withPort (d := decideReadState src) (State.modPort_id _ s).symm
  | readNotices src =>
    obtain rfl := Host.Outcome.next.inj e
    exact serve_withPort (d := decideReadNotices src) rfl
  | setLink src r =>
    obtain rfl := Host.Outcome.next.inj e
    obtain ⟨f, hf⟩ := decideSetLink_port src r s
    exact serve_withPort hf
  | readResults src first maxN =>
    obtain rfl := Host.Outcome.next.inj e
    exact serve_withPort (d := decideReadResults src first maxN) (State.modPort_id _ s).symm
  | readCalibration src rec =>
    obtain rfl := Host.Outcome.next.inj e
    exact serve_withPort ((decideReadCalibration_state rec s).trans (State.modPort_id _ s).symm)
  | openOrder src r | holdOrder src id | claimReview src seq | readSummary src id | setLamp src g a r | setInputs src d c b =>
    obtain rfl := Host.Outcome.next.inj e
    apply State.eq_of_blocks <;> simp [withPort_ports]
  | holdAll src =>
    obtain rfl := Host.Outcome.next.inj e
    apply State.eq_of_blocks <;> simp [withPort_ports, Answer.accept]
  | addPoints src r | takeHead src | freeHead src | releaseResults src through | cancelOrder src id | resumeOrder src id
  | enterDiagonals src seq d1 d2 | rejectImpression src seq | writeCalibration src rec f =>
    obtain rfl := Host.Outcome.next.inj e
    apply State.eq_of_blocks <;> simp [State.withCycle]
  | resumeAll src =>
    obtain rfl := Host.Outcome.next.inj e
    apply State.eq_of_blocks <;> simp [State.withCycle, Answer.accept]
  | _ => simp [sourceOf] at hi

/-! ## The events of the links and the desk -/

@[simp] theorem postLoadFaults_frame (l : List Nat) (s : State) :
    let t := postLoadFaults l s
    t.straps = s.straps ∧ t.table = s.table ∧ t.arb = s.arb ∧ t.poolFree = s.poolFree ∧ t.seq = s.seq ∧ t.force = s.force
      ∧ t.cap = s.cap ∧ t.engine = s.engine ∧ t.desk = s.desk ∧ t.store = s.store ∧ t.cal = s.cal ∧ t.inputs = s.inputs
      ∧ t.lamps = s.lamps ∧ t.pins = s.pins ∧ t.pending = s.pending := by
  induction l generalizing s with
  | nil => simp [postLoadFaults]
  | cons rec l ih =>
    simp only [postLoadFaults, ih]
    split <;> simp [postCalFault]

@[simp] theorem takeShared_frame (p : Port) (f : RxFrame) (s : State) :
    let t := takeShared p f s
    t.straps = s.straps ∧ t.cap = s.cap ∧ t.engine = s.engine ∧ t.cal = s.cal ∧ t.inputs = s.inputs ∧ t.pending = s.pending := by
  unfold takeShared sharedEffect
  dsimp only
  split
  · next h =>
    split at h
    · simp at h
    · split at h
      · obtain rfl := Option.some.inj h; simp
      · split at h
        · obtain rfl := Option.some.inj h; simp
        · split at h
          · rw [setLampEffect_frame h]; simp
          · simp at h
  · simp

@[simp] theorem takeAddressed_frame (p : Port) (f : RxFrame) (s : State) :
    let t := takeAddressed p f s
    t.straps = s.straps ∧ t.table = s.table ∧ t.arb = s.arb ∧ t.poolFree = s.poolFree ∧ t.seq = s.seq ∧ t.force = s.force
      ∧ t.cap = s.cap ∧ t.engine = s.engine ∧ t.desk = s.desk ∧ t.store = s.store ∧ t.cal = s.cal ∧ t.inputs = s.inputs
      ∧ t.lamps = s.lamps ∧ t.pins = s.pins ∧ t.pending = s.pending := by
  unfold takeAddressed
  dsimp only
  repeat' split
  all_goals simp

@[simp] theorem dropClaim_frame (p : Port) (s : State) :
    let t := dropClaim p s
    t.portA = s.portA ∧ t.portB = s.portB ∧ t.straps = s.straps ∧ t.table = s.table ∧ t.arb = s.arb ∧ t.poolFree = s.poolFree
      ∧ t.seq = s.seq ∧ t.force = s.force ∧ t.cap = s.cap ∧ t.engine = s.engine ∧ t.store = s.store ∧ t.cal = s.cal
      ∧ t.inputs = s.inputs ∧ t.lamps = s.lamps ∧ t.pins = s.pins ∧ t.pending = s.pending := by
  unfold dropClaim
  repeat' split
  all_goals simp

@[simp] theorem resetPort_frame (p : Port) (s : State) :
    let t := resetPort p s
    t.straps = s.straps ∧ t.cap = s.cap ∧ t.engine = s.engine ∧ t.cal = s.cal ∧ t.inputs = s.inputs ∧ t.lamps = s.lamps
      ∧ t.pending = s.pending := by
  unfold resetPort dropLock
  dsimp only
  split <;> simp

/-! ## The events of the interlocks -/

@[simp] theorem postInterlock_frame (e : InterlockEvent) (s : State) :
    let t := postInterlock e s
    t.straps = s.straps ∧ t.table = s.table ∧ t.arb = s.arb ∧ t.poolFree = s.poolFree ∧ t.seq = s.seq ∧ t.force = s.force
      ∧ t.cap = s.cap ∧ t.engine = s.engine ∧ t.desk = s.desk ∧ t.store = s.store ∧ t.cal = s.cal ∧ t.inputs = s.inputs
      ∧ t.lamps = s.lamps ∧ t.pins = s.pins ∧ t.pending = s.pending := by
  unfold postInterlock
  split <;> simp

@[simp] theorem gainInterlock_frame (s : State) :
    let t := gainInterlock s
    t.portA = s.portA ∧ t.portB = s.portB ∧ t.straps = s.straps ∧ t.arb = s.arb ∧ t.poolFree = s.poolFree ∧ t.seq = s.seq
      ∧ t.force = s.force ∧ t.cap = s.cap ∧ t.engine = s.engine ∧ t.desk = s.desk ∧ t.store = s.store ∧ t.cal = s.cal
      ∧ t.inputs = s.inputs ∧ t.lamps = s.lamps ∧ t.pins = s.pins ∧ t.pending = s.pending := by
  unfold gainInterlock
  split <;> simp

@[simp] theorem beginStop_frame (s : State) :
    let t := beginStop s
    t.portA = s.portA ∧ t.portB = s.portB ∧ t.straps = s.straps ∧ t.table = s.table ∧ t.arb = s.arb ∧ t.poolFree = s.poolFree
      ∧ t.force = s.force ∧ t.cap = s.cap ∧ t.engine = s.engine ∧ t.desk = s.desk ∧ t.store = s.store ∧ t.cal = s.cal
      ∧ t.inputs = s.inputs ∧ t.lamps = s.lamps ∧ t.pending = s.pending := by
  simp [beginStop]

@[simp] theorem doorAction_frame (s : State) :
    let t := doorAction s
    t.portA = s.portA ∧ t.portB = s.portB ∧ t.straps = s.straps ∧ t.table = s.table ∧ t.arb = s.arb ∧ t.poolFree = s.poolFree
      ∧ t.desk = s.desk ∧ t.store = s.store ∧ t.cal = s.cal ∧ t.inputs = s.inputs ∧ t.lamps = s.lamps ∧ t.pending = s.pending := by
  unfold doorAction interruptPoint
  repeat' split
  all_goals simp

@[simp] theorem afterDoor_frame (was : Option DoorLevel) (now : DoorLevel) (s : State) :
    let t := afterDoor was now s
    t.straps = s.straps ∧ t.cal = s.cal ∧ t.inputs = s.inputs ∧ t.lamps = s.lamps ∧ t.pending = s.pending := by
  unfold afterDoor doorOpened doorShut
  split <;> simp

@[simp] theorem afterEstop_frame (was : Option EstopLevel) (now : EstopLevel) (s : State) :
    let t := afterEstop was now s
    t.straps = s.straps ∧ t.cal = s.cal ∧ t.inputs = s.inputs ∧ t.lamps = s.lamps ∧ t.pending = s.pending := by
  unfold afterEstop estopPressed estopFreed
  repeat' split
  all_goals simp

/-! ## The events of the cycle -/

@[simp] theorem tareSample_frame (count : Int) (s : State) :
    let t := tareSample count s
    t.portA = s.portA ∧ t.portB = s.portB ∧ t.straps = s.straps ∧ t.table = s.table ∧ t.arb = s.arb ∧ t.poolFree = s.poolFree
      ∧ t.cap = s.cap ∧ t.engine = s.engine ∧ t.desk = s.desk ∧ t.store = s.store ∧ t.cal = s.cal ∧ t.inputs = s.inputs
      ∧ t.lamps = s.lamps ∧ t.pins = s.pins ∧ t.pending = s.pending := by
  unfold tareSample
  dsimp only
  split <;> simp

@[simp] theorem approachSample_frame (o : Order) (s : State) :
    let t := approachSample o s
    t.portA = s.portA ∧ t.portB = s.portB ∧ t.straps = s.straps ∧ t.arb = s.arb ∧ t.poolFree = s.poolFree ∧ t.cap = s.cap
      ∧ t.engine = s.engine ∧ t.desk = s.desk ∧ t.store = s.store ∧ t.cal = s.cal ∧ t.inputs = s.inputs ∧ t.lamps = s.lamps
      ∧ t.pins = s.pins ∧ t.pending = s.pending := by
  unfold approachSample contactMade enterRamp
  repeat' split
  all_goals simp

@[simp] theorem rampSample_frame (o : Order) (s : State) :
    let t := rampSample o s
    t.portA = s.portA ∧ t.portB = s.portB ∧ t.straps = s.straps ∧ t.table = s.table ∧ t.arb = s.arb ∧ t.poolFree = s.poolFree
      ∧ t.cap = s.cap ∧ t.engine = s.engine ∧ t.desk = s.desk ∧ t.store = s.store ∧ t.cal = s.cal ∧ t.inputs = s.inputs
      ∧ t.lamps = s.lamps ∧ t.pins = s.pins ∧ t.pending = s.pending := by
  unfold rampSample
  dsimp only
  split <;> simp

@[simp] theorem dwellSample_frame (o : Order) (s : State) :
    let t := dwellSample o s
    t.portA = s.portA ∧ t.portB = s.portB ∧ t.straps = s.straps ∧ t.table = s.table ∧ t.arb = s.arb ∧ t.poolFree = s.poolFree
      ∧ t.cap = s.cap ∧ t.engine = s.engine ∧ t.desk = s.desk ∧ t.store = s.store ∧ t.cal = s.cal ∧ t.inputs = s.inputs
      ∧ t.lamps = s.lamps ∧ t.pins = s.pins ∧ t.pending = s.pending := by
  unfold dwellSample dwellGate forceLost
  dsimp only
  repeat' split
  all_goals simp

@[simp] theorem judgeSample_frame (count : Int) (s : State) :
    let t := judgeSample count s
    t.straps = s.straps ∧ t.cap = s.cap ∧ t.engine = s.engine ∧ t.desk = s.desk ∧ t.cal = s.cal ∧ t.inputs = s.inputs
      ∧ t.lamps = s.lamps ∧ t.pending = s.pending := by
  unfold judgeSample
  repeat' split
  all_goals simp

/-! ## The events of the camera -/

@[simp] theorem followFocus_frame (s : State) :
    let t := followFocus s
    t.portA = s.portA ∧ t.portB = s.portB ∧ t.straps = s.straps ∧ t.table = s.table ∧ t.arb = s.arb ∧ t.poolFree = s.poolFree
      ∧ t.cap = s.cap ∧ t.engine = s.engine ∧ t.desk = s.desk ∧ t.store = s.store ∧ t.cal = s.cal ∧ t.inputs = s.inputs
      ∧ t.lamps = s.lamps ∧ t.pins = s.pins ∧ t.pending = s.pending := by
  unfold followFocus
  split <;> simp

@[simp] theorem captureFailure_frame (why : Reason) (s : State) :
    let t := captureFailure why s
    t.straps = s.straps ∧ t.cal = s.cal ∧ t.inputs = s.inputs ∧ t.lamps = s.lamps ∧ t.pending = s.pending := by
  simp [captureFailure, noteFrames]

@[simp] theorem judgeFocus_frame (v : ViewParams) (o : Order) (s : State) :
    let t := judgeFocus v o s
    t.straps = s.straps ∧ t.cal = s.cal ∧ t.inputs = s.inputs ∧ t.lamps = s.lamps ∧ t.pending = s.pending := by
  unfold judgeFocus chooseBank noteFrames
  repeat' split
  all_goals simp

@[simp] theorem takeReport_frame (o : Order) (r : Except Reason Measured) (s : State) :
    let t := takeReport o r s
    t.straps = s.straps ∧ t.cal = s.cal ∧ t.inputs = s.inputs ∧ t.lamps = s.lamps ∧ t.pending = s.pending := by
  unfold takeReport
  split <;> simp

/-- The frame of every event. -/
theorem event_keepsFrame {i : Instr} (hi : (sourceOf i).isSome = false) (e : exec i s = .next t) : frameOf i s t := by
  cases i with
  | coldReset pins =>
    obtain rfl := Host.Outcome.next.inj e
    exact ⟨rfl, rfl, rfl, rfl, rfl⟩
  | frameReceived p chars | receiveGap p | responseSent p | lineBreak p =>
    obtain rfl := Host.Outcome.next.inj e
    exact modPort_withPort _
  | inputChange c =>
    obtain rfl := Host.Outcome.next.inj e
    cases c <;> rfl
  | stabilityTimerExpiry i =>
    obtain rfl := Host.Outcome.next.inj e
    cases i <;> dsimp only <;> split <;> apply State.eq_of_blocks <;> simp [State.withView, State.withCycle]
  | lampTimebaseTick =>
    obtain rfl := Host.Outcome.next.inj e
    rfl
  | stgFault | stageTimerExpiry | turretTimerExpiry | unloadTimerExpiry | retractTimerExpiry | scoreReady | frameTimerExpiry
  | measurementReport =>
    obtain rfl := Host.Outcome.next.inj e
    repeat' split
    all_goals apply State.eq_of_blocks <;> simp [State.withView, State.withCycle, stageDone]
  | portReset p | stgDone | turDone | loadSample count | actRaised level | starvationTimerExpiry | windowTimerExpiry =>
    obtain rfl := Host.Outcome.next.inj e
    repeat' split
    all_goals apply State.eq_of_blocks <;> simp [State.withCycle, stageDone, turretDone, sendSetPoint, yieldOwner]
  | startupLoadComplete l | approachTimerExpiry | frameStart | pixelTaken value =>
    obtain rfl := Host.Outcome.next.inj e
    repeat' split
    all_goals apply State.eq_of_blocks <;> simp
  | commitComplete r =>
    obtain rfl := Host.Outcome.next.inj e
    split
    · rfl
    · dsimp only
      split <;> apply State.eq_of_blocks <;> simp [postCalFault]
  | frameTaken p =>
    obtain rfl := Host.Outcome.next.inj e
    split
    · rfl
    · split
      · dsimp only
        split <;> apply State.eq_of_blocks <;> simp [State.withCycle]
      · rfl
  | frameCompletion =>
    obtain rfl := Host.Outcome.next.inj e
    split
    · rfl
    · dsimp only
      split <;> apply State.eq_of_blocks <;> simp
  | lineMarker rise =>
    obtain rfl := Host.Outcome.next.inj e
    split
    · rfl
    · dsimp only
      split <;> rfl
  | _ => simp [sourceOf] at hi

/-- Settles O4: requests through what their owners leave, events through what the shared operations leave. -/
theorem everyCommandKeepsItsFrame : Obligations.EveryCommandKeepsItsFrame := by
  intro i s t e
  cases h : (sourceOf i).isSome with
  | true => exact request_keepsFrame h e
  | false => exact event_keepsFrame h e

end Sys2Proof.Proofs.Orders

/-! # One pass over the boundary steps (R48) -/

namespace Sys2Proof.Proofs.Orders
open Sys2Proof Sys2Proof.Machine

variable {s t : State} {o : Order}

/-- The state with the order of an id replaced. -/
def replaceOrder (id : Nat) (y : Order) (s : State) : State :=
  { s with table := { s.table with orders := s.table.orders.map fun x => if x.id = id then y else x } }

/-- Where ids are distinct, updating an order is replacing it by its update. -/
theorem updOrder_eq_replaceOrder {f : Order → Order} (hn : (s.table.orders.map (·.id)).Nodup) (ho : o ∈ s.table.orders) :
    updOrder o.id f s = replaceOrder o.id (f o) s := by
  have e : s.table.orders.map (fun x => if x.id = o.id then f x else x) = s.table.orders.map fun x => if x.id = o.id then f o else x :=
    List.map_congr_left fun x hx => by
      split
      · next e => rw [eq_of_id_eq hn hx ho e]
      · rfl
  simp only [updOrder, replaceOrder, State.modTable, e]

/-! ## From a head in order the passes come to rest -/

/-- Over a head in order the boundary is a chain of passes, each followed by another but the last. -/
theorem boundary_passes (h : s.HeadOk) : ∃ (n : Nat) (u : Nat → State), u 0 = s
    ∧ (∀ k < n, boundaryStep (u k) = (u (k + 1), true)) ∧ boundaryStep (u n) = (boundary s, false) := by
  have hi := headOk_iff.1 h
  have hb : AtBoundary False False s := ⟨hi.books.hand nofun, fun e => ⟨hi.seq.idle.1 e, hi.seq.bare e⟩, nofun, nofun, nofun, nofun⟩
  obtain ⟨n, u, h0, hs, he, -⟩ := hb.passes (passesLeft_lt_bound s)
  exact ⟨n, u, h0, hs, he⟩

/-! ## Steps 1 and 2: the pending cancel and the pending causes -/

theorem boundaryStep_owner (ho : ownerOf s = .some o) : boundaryStep s =
    if o.cancelPending then completeCancel o s
    else if (applyPending o).status = .held then (boundaryPause (applyPending o) (updOrder o.id applyPending s), false)
    else boundaryRun (applyPending o) (updOrder o.id applyPending s) := by
  simp only [boundaryStep, ho]

/-- The hold causes of an order once its pending causes have taken effect. -/
def mergedHolds (o : Order) : Holds :=
  ⟨o.holds.own || o.pendingHolds.own, o.holds.device || o.pendingHolds.device, o.holds.interlock⟩

theorem any_iff_ne_none (h : Holds) : h.any = true ↔ h ≠ ⟨false, false, false⟩ := by
  obtain ⟨a, b, c⟩ := h
  cases a <;> cases b <;> cases c <;> simp [Holds.any]

theorem applyPending_caused (h : mergedHolds o ≠ ⟨false, false, false⟩) :
    applyPending o = { o with holds := mergedHolds o, pendingHolds := ⟨false, false⟩, status := .held } := by
  have : (mergedHolds o).any = true := (any_iff_ne_none _).2 h
  simp only [applyPending, mergedHolds] at this ⊢
  rw [if_pos this]; rfl

theorem applyPending_free (h : mergedHolds o = ⟨false, false, false⟩) :
    applyPending o = { o with holds := mergedHolds o, pendingHolds := ⟨false, false⟩ } := by
  have : ¬(mergedHolds o).any = true := fun e => (any_iff_ne_none _).1 e h
  simp only [applyPending, mergedHolds] at this ⊢
  rw [if_neg this]; rfl

/-- The owner of a head in order with no cause, pending or effective, is RUNNING. -/
theorem owner_unheld (h : s.HeadOk) (ho : ownerOf s = .some o) (hm : mergedHolds o = ⟨false, false, false⟩) : o.status ≠ .held := by
  obtain ⟨hmem, hown⟩ := ownerOf_some ho
  intro e
  have hany := (((headOk_iff.1 h).books.head.fits o hmem).held hown).1 e
  have : (mergedHolds o).any = false := by rw [hm]; rfl
  simp_all [Holds.any, mergedHolds]

theorem boundaryPause_eq : boundaryPause o s =
    { s with seq := { s.seq with state := .paused
                                 round := if o.mode = .deferred ∧ s.seq.impressions ≠ [] then .measure else s.seq.round }
             force := { s.force with setPoint := 0 } } := by
  unfold boundaryPause
  split <;> rfl

/-! ## Steps 3 to 5: the measure phase of a deferred round -/

/-- A deferred round is in its measure phase or goes to it, with impressions listed. -/
def measuresNext (o : Order) (s : State) : Prop :=
  o.mode = .deferred ∧ s.seq.impressions ≠ []
    ∧ (s.seq.round = .measure ∨ 64 ≤ s.seq.impressions.length ∨ o.points = [] ∨ freeRoom s ≤ s.seq.impressions.length)

/-- A deferred round with no impression listed is in its indent phase. -/
def indenting (o : Order) (s : State) : State :=
  s.modSeq fun q => { q with round := if o.mode = .deferred ∧ q.impressions = [] then .indent else q.round }

theorem indentPhaseOver_iff : indentPhaseOver o s = true ↔
    64 ≤ s.seq.impressions.length ∨ o.points = [] ∨ freeRoom s ≤ s.seq.impressions.length := by
  change (decide (64 ≤ s.seq.impressions.length) || o.points.isEmpty || decide (freeRoom s ≤ s.seq.impressions.length)) = true ↔ _
  simp [or_assoc]

theorem setRound_self {r : RoundPhase} (h : s.seq.round = r) : (s.modSeq fun q => { q with round := r }) = s := by
  subst h; rfl

theorem boundaryRun_measures (h : measuresNext o s) :
    boundaryRun o s = takeImpression o (s.modSeq fun q => { q with round := .measure }) := by
  obtain ⟨hd, hi, hr⟩ := h
  have hi : s.seq.impressions.isEmpty = false := by simpa using hi
  simp only [boundaryRun, hd, hi, Bool.false_eq_true, if_false]
  split
  · next hm => rw [setRound_self hm]
  · next hm => rw [if_pos (indentPhaseOver_iff.2 (hr.resolve_left hm))]

theorem boundaryRun_indents (h : ¬measuresNext o s) : boundaryRun o s = boundaryTake o (indenting o s) := by
  cases hd : o.mode with
  | immediate =>
    have : indenting o s = s := by simp [indenting, hd, State.modSeq]
    simp only [boundaryRun, hd, this]
  | deferred =>
    by_cases hi : s.seq.impressions = []
    · simp [boundaryRun, indenting, hd, hi, State.modSeq]
    · have hk : s.seq.round ≠ .measure ∧ indentPhaseOver o s ≠ true := by
        rw [Ne, Ne, indentPhaseOver_iff]
        exact ⟨fun e => h ⟨hd, hi, .inl e⟩, fun e => h ⟨hd, hi, .inr e⟩⟩
      have : indenting o s = s := by simp [indenting, hi, State.modSeq]
      simp [boundaryRun, hd, hi, hk.1, hk.2, this]

/-- The front impression taken as the current point. -/
def impressionTaken (i : Impression) (rest : List Impression) (s : State) : State :=
  s.modSeq fun q => { q with impressions := rest, cur := .some (CurPoint.ofImpression i) }

theorem takeImpression_unmarked {i : Impression} {rest : List Impression} (h : s.seq.impressions = i :: rest) (hm : i.mark = .none) :
    takeImpression o s = (enterMoveView o (impressionTaken i rest s), false) := by
  simp only [takeImpression, h, hm, impressionTaken]

theorem takeImpression_marked {i : Impression} {rest : List Impression} {m : Mark} (h : s.seq.impressions = i :: rest)
    (hm : i.mark = .some m) : takeImpression o s = (recordCurrent o .unmeasured m.reason (impressionTaken i rest s), true) := by
  simp only [takeImpression, h, hm, impressionTaken]

/-- Settles O50: the passes come to rest, since each that another follows takes up a point, an impression or an order; one pass is the
first of its steps that applies. -/
theorem boundaryRunsItsSteps : Obligations.BoundaryRunsItsSteps := by
  intro s h
  refine ⟨boundary_passes h, fun o ho => ?_⟩
  obtain ⟨hmem, hown⟩ := ownerOf_some ho
  have hids := (headOk_iff.1 h).books.head.ids
  have step := boundaryStep_owner ho
  rw [updOrder_eq_replaceOrder hids hmem] at step
  have run (hc : o.cancelPending = false) (hm : mergedHolds o = ⟨false, false, false⟩) :
      boundaryStep s = boundaryRun (applyPending o) (replaceOrder o.id (applyPending o) s) := by
    rw [step, if_neg (by simp [hc]), if_neg]
    rw [applyPending_free hm]
    exact owner_unheld h (o := o) ho hm
  have indents (hc : o.cancelPending = false) (hm : mergedHolds o = ⟨false, false, false⟩) (hn : ¬measuresNext o s) :
      boundaryStep s = boundaryTake (applyPending o) (indenting (applyPending o) (replaceOrder o.id (applyPending o) s)) := by
    rw [run hc hm, boundaryRun_indents]; exact hn
  refine ⟨fun hc => ?_, fun hc hm => ?_, fun hc hm hk i rest hi => ?_, fun hc hm hk hp hl => ?_, fun hc hm hk hp hl => ?_,
    fun hc hm hk hp hr => ?_, fun hc hm hk hp hr => ?_⟩
  · rw [step, if_pos hc]
  · rw [step, if_neg (by simp [hc]), applyPending_caused hm, if_pos rfl, boundaryPause_eq]
    rfl
  · have e : boundaryStep s = takeImpression (applyPending o) ((replaceOrder o.id (applyPending o) s).modSeq fun q =>
        { q with round := .measure }) := by
      rw [run hc hm, boundaryRun_measures]; exact hk
    have hi' : ((replaceOrder o.id (applyPending o) s).modSeq fun q => { q with round := .measure }).seq.impressions = i :: rest := hi
    exact ⟨fun hm' => by rw [e, takeImpression_unmarked hi' hm', applyPending_free hm]; rfl,
      fun hm' => by rw [e, takeImpression_marked hi' hm', applyPending_free hm]; rfl,
      fun hm' => by rw [e, takeImpression_marked hi' hm', applyPending_free hm]; rfl⟩
  · rw [indents hc hm hk, applyPending_free hm, boundaryTake, if_pos (by simp [hp]), if_pos hl]
    rfl
  · rw [indents hc hm hk, applyPending_free hm, boundaryTake, if_pos (by simp [hp]), if_neg (by simp [hl])]
    rfl
  · rw [indents hc hm hk, applyPending_free hm, boundaryTake, if_neg (by simp [hp]), if_pos (by exact hr)]
    rfl
  · rw [indents hc hm hk, applyPending_free hm, boundaryTake, if_neg (by simp [hp]), if_neg (by exact Nat.not_le.2 hr)]
    rfl

end Sys2Proof.Proofs.Orders

/-! # The requests that hold an order, pass the head lock and read a summary, and the yield -/

namespace Sys2Proof.Proofs.Orders
open Sys2Proof Sys2Proof.Machine

variable {s t : State} {o : Order} {src : Source} {id : Nat}

/-! ## A request answered, and the order it names -/

/-- Once loaded, a request is answered with what its owner decides. -/
theorem served {cmd : Instr} {d : State → Answer} {st : Status} {body : List Byte} (hl : s.cal.loaded = true)
    (h : d s = { state := t, status := st, body := body }) :
    (Host.Outcome.next (serve cmd src d s) : Host.Outcome State Fault Refusal) = .next (answered cmd src st body t) := by
  rw [serve_loaded hl, h]

theorem liveOrder_none (h : findOrder id s = .none) : liveOrder src id s = .error .noOrder := by simp [liveOrder, h]

theorem liveOrder_ended (h : findOrder id s = .some o) (he : o.status = .ended) : liveOrder src id s = .error .noOrder := by
  simp [liveOrder, h, he]

theorem liveOrder_notOwner (h : findOrder id s = .some o) (he : o.status ≠ .ended) (ho : o.origin ≠ src.port) :
    liveOrder src id s = .error .notOwner := by simp [liveOrder, h, he, ho]

theorem liveOrder_owned (h : findOrder id s = .some o) (he : o.status ≠ .ended) (ho : o.origin = src.port) :
    liveOrder src id s = .ok o := by simp [liveOrder, h, he, ho]

/-- No order of an id in the table. -/
theorem findOrder_none (h : ∀ o ∈ s.table.orders, o.id ≠ id) : findOrder id s = .none :=
  List.find?_eq_none.2 (by simpa using h)

/-! ## HOLD ORDER (R21) -/

theorem holdOwner_held {f : Holds → Holds} {g : PendingHolds → PendingHolds} (h : o.status = .held) :
    holdOwner o f g s = updOrder o.id (fun x => { x with holds := f x.holds }) s := if_pos h

theorem holdOwner_waiting {f : Holds → Holds} {g : PendingHolds → PendingHolds} (h : o.status = .running)
    (hw : s.seq.state = .awaitPoints ∨ s.seq.state = .storeWait) : holdOwner o f g s =
      pauseWaiting (updOrder o.id (fun x => { x with holds := f x.holds, status := .held }) s) := by
  rw [holdOwner, if_neg (by simp [h]), if_pos (waitingAtBoundary_iff.2 hw)]

theorem holdOwner_working {f : Holds → Holds} {g : PendingHolds → PendingHolds} (h : o.status = .running)
    (hw : ¬(s.seq.state = .awaitPoints ∨ s.seq.state = .storeWait)) :
    holdOwner o f g s = updOrder o.id (fun x => { x with pendingHolds := g x.pendingHolds }) s := by
  rw [holdOwner, if_neg (by simp [h]), if_neg (fun e => hw (waitingAtBoundary_iff.1 e))]

/-- An order that already has OWN is held no further. -/
theorem holdEffect_already (h : o.holds.own = true ∨ o.pendingHolds.own = true) : holdEffect o s = s :=
  if_pos (Bool.or_eq_true_iff.2 h)

theorem holdEffect_opened (h : o.holds.own = false) (hp : o.pendingHolds.own = false) (ho : o.status = .opened) :
    holdEffect o s = updOrder o.id (fun x => { x with holds := { x.holds with own := true } }) s := by
  simp [holdEffect, h, hp, ho]

theorem holdEffect_active (h : o.holds.own = false) (hp : o.pendingHolds.own = false) (ho : o.status ≠ .opened) :
    holdEffect o s = holdOwner o (fun x => { x with own := true }) (fun x => { x with own := true }) s := by
  simp [holdEffect, h, hp, ho]

/-- Settles O27: the checks of R21, then OWN by the order's state. -/
theorem holdOrderActsByState : Obligations.HoldOrderActsByState := by
  intro src id s hl
  have refused {st : Status} (h : liveOrder src id s = .error st) :
      exec (.holdOrder src id) s = .next (answered (.holdOrder src id) src st [] s) :=
    served hl (by simp [decideHold, h, Answer.refuse])
  refine ⟨fun hf => refused (liveOrder_none hf), fun o hf => ?_⟩
  have accepted (he : o.status ≠ .ended) (ho : o.origin = src.port) :
      exec (.holdOrder src id) s = .next (answered (.holdOrder src id) src .accepted [] (holdEffect o s)) :=
    served hl (by simp [decideHold, liveOrder_owned hf he ho, Answer.accept])
  obtain ⟨-, rfl⟩ := findOrder_some hf
  refine ⟨fun he => refused (liveOrder_ended hf he), fun he ho => refused (liveOrder_notOwner hf he ho),
    fun he ho hown => ?_, fun he ho h1 h2 => ⟨fun hs => ?_, fun hs => ?_, fun hs hw => ?_, fun hs hw => ?_⟩⟩
  · have e := accepted he ho
    rwa [holdEffect_already hown] at e
  · rw [accepted he ho, holdEffect_opened h1 h2 hs]; rfl
  · rw [accepted he ho, holdEffect_active h1 h2 (by simp [hs]), holdOwner_held hs]; rfl
  · rw [accepted he ho, holdEffect_active h1 h2 (by simp [hs]), holdOwner_waiting hs (by simpa using hw)]; rfl
  · rw [accepted he ho, holdEffect_active h1 h2 (by simp [hs]), holdOwner_working hs (by simpa using hw)]; rfl

/-! ## The head lock (R17, R18) -/

/-- With an owner a grant changes nothing. -/
theorem grant_owned (h : s.arb.owner.isSome = true) : grant s = s := by
  obtain ⟨id, e⟩ := Option.isSome_iff_exists.1 h
  simp [grant, considerGrant, e, afterGrant]

theorem eligible_lock (h : eligible s o = true) : s.arb.lock = .none ∨ s.arb.lock = .some o.origin := by
  simp only [eligible, Bool.and_eq_true, Bool.or_eq_true, decide_eq_true_eq] at h
  exact h.1.1.2

/-- Settles O30: the lock decides by its holder, and the choice of a grant respects it. -/
theorem takeHeadAndFreeHead : Obligations.TakeHeadAndFreeHead := by
  intro src s hl
  refine ⟨fun h => ⟨?_, ?_⟩, fun h => ⟨?_, ?_⟩, fun h => ⟨?_, ?_⟩, fun p hp o ho => ?_, grant_owned⟩
  · refine served hl ?_
    simp only [decideTakeHead, h, Answer.accept]
    cases src.port <;> rfl
  · exact served hl (by simp [decideFreeHead, h, Answer.accept])
  · exact served hl (by simp [decideTakeHead, h, Answer.accept])
  · refine served hl ?_
    simp only [decideFreeHead, h, Answer.accept, if_true]
    rfl
  · exact served hl (by simp [decideTakeHead, h, Answer.refuse])
  · exact served hl (by simp [decideFreeHead, h, Answer.refuse])
  · have := (eligible_lock (chooseOrder_mem ho).2).resolve_left (by simp [hp])
    simpa [hp] using this.symm

/-! ## READ SUMMARY (R10) -/

/-- Settles O33: an ENDED order has its summary, and no other order is ENDED. -/
theorem readSummaryFreesTheSlot : Obligations.ReadSummaryFreesTheSlot := by
  intro src id s hl h
  have hp := poolOk_iff.1 h
  refine ⟨fun hno => served hl ?_, ?_⟩
  · simp [decideReadSummary, findOrder_none hno, Answer.refuse]
  · rintro o hm rfl
    have hf := findOrder_eq hp.books.head.ids hm
    refine ⟨fun ho => served hl ?_, fun ho he => served hl ?_, fun ho he => ?_⟩
    · simp [decideReadSummary, hf, ho, Answer.refuse]
    · simp [decideReadSummary, hf, ho, he, Answer.refuse]
    · obtain ⟨m, hm⟩ := Option.isSome_iff_exists.1 ((hp.books.pool trivial).ended o hm he).2
      refine ⟨m, hm, served hl ?_⟩
      simp only [decideReadSummary, hf, ho, he, hm, ne_eq, not_true_eq_false, if_false]
      rfl

/-! ## The yield (R16, R28) -/

theorem releaseHead_postTo (p : Port) (n : Notice) (s : State) : releaseHead (postTo p n s) = postTo p n (releaseHead s) := by
  cases p <;> rfl

/-- A head with nothing in hand is released. -/
theorem releaseHead_bare (h1 : s.seq.cur = .none) (h2 : s.seq.impressions = []) (h3 : s.seq.purpose = .none)
    (h4 : s.seq.stopFlag = false) : releaseHead s =
      { s with arb := { s.arb with owner := .none }, seq := { s.seq with state := .idle, round := .indent }
               force := { s.force with setPoint := 0 } } := by
  apply State.eq_of_blocks <;> simp [h1, h2, h3, h4]

/-- Settles O32: the owner that yields has nothing in hand, so that the release leaves the rest of the sequencer. -/
theorem starvedOrderYields : Obligations.StarvedOrderYields := by
  refine fun s => ⟨fun h => ?_, fun o ho ht hs h1 h2 h3 h4 => ?_⟩
  · simp only [exec, execStarvationTimerExpiry, h]
  · obtain ⟨k, hk⟩ := Option.isSome_iff_exists.1 ht
    have e : exec .starvationTimerExpiry s = .next (yieldOwner o s) := by
      simp [exec, execStarvationTimerExpiry, hk, ho, hs]
    rw [e, yieldOwner, releaseHead_postTo, releaseHead_bare (by simpa using h1) (by simpa using h2) (by simpa using h3)
      (by simpa using h4)]
    rfl

end Sys2Proof.Proofs.Orders

/-! # Resuming, and the device hold (R22 to R24) -/

namespace Sys2Proof.Proofs.Orders
open Sys2Proof Sys2Proof.Machine

variable {s t : State} {o : Order} {src : Source} {id : Nat}

/-! ## RESUME ORDER (R22) -/

theorem resumeEffect_lacks (h : o.holds.own = false ∧ o.holds.interlock = false ∧ o.pendingHolds.own = false) :
    resumeEffect o s = s := by
  simp [resumeEffect, h]

/-- The order has one of the causes that RESUME ORDER removes. -/
theorem resumable {o : Order} (h : ¬(o.holds.own = false ∧ o.holds.interlock = false ∧ o.pendingHolds.own = false)) :
    (!(o.holds.own || o.holds.interlock || o.pendingHolds.own)) = false := by
  by_contra e
  simp only [Bool.not_eq_false, Bool.not_eq_true', Bool.or_eq_false_iff] at e
  exact h ⟨e.1.1, e.1.2, e.2⟩

@[simp] theorem dropOwn_any (o : Order) : (dropOwn o).holds.any = o.holds.device := by simp [dropOwn, Holds.any]

/-- What RESUME ORDER does where there is a cause to remove. -/
theorem resumeEffect_removes (h : ¬(o.holds.own = false ∧ o.holds.interlock = false ∧ o.pendingHolds.own = false)) :
    resumeEffect o s =
      if o.holds.device then updOrder o.id dropOwn s
      else if o.status = .held then resumeOwner (dropOwn o) (updOrder o.id dropOwn s)
      else if o.status = .opened then grant (updOrder o.id dropOwn s) else updOrder o.id dropOwn s := by
  simp only [resumeEffect, resumable h, Bool.false_eq_true, if_false, dropOwn_any]

/-- What resuming the HELD owner leads to, by the sequencer's state (R60, R65). -/
theorem resumeOwner_paused {c : CurPoint} (hs : s.seq.state = .paused) (hc : s.seq.cur = .some c) :
    resumeOwner o s = enterMoveView o (updOrder o.id (fun x => { x with status := .running }) s) := by
  simp only [resumeOwner, hs, hc]

theorem resumeOwner_boundary (hs : s.seq.state = .paused) (hc : s.seq.cur = .none) :
    resumeOwner o s = boundary (updOrder o.id (fun x => { x with status := .running }) s) := by
  simp only [resumeOwner, hs, hc]

theorem resumeOwner_review (hs : s.seq.state = .reviewWait) :
    resumeOwner o s = supersedeReview o (updOrder o.id (fun x => { x with status := .running }) s) := by
  simp only [resumeOwner, hs]

theorem resumeOwner_working (h1 : s.seq.state ≠ .paused) (h2 : s.seq.state ≠ .reviewWait) :
    resumeOwner o s = updOrder o.id (fun x => { x with status := .running }) s := by
  unfold resumeOwner
  split
  · contradiction
  · contradiction
  · rfl

/-- A move to a view depends on the order by its objective alone. -/
theorem enterMoveView_objective {a b : Order} (h : a.objective = b.objective) : enterMoveView a s = enterMoveView b s := by
  simp [enterMoveView, h]

theorem supersedeReview_objective {a b : Order} (h : a.objective = b.objective) : supersedeReview a s = supersedeReview b s := by
  simp [supersedeReview, enterMoveView, h]

/-- Settles O28: the checks of R21 and the door, then the causes removed and the order resumed by where the sequencer stands. -/
theorem resumeOrderRemovesItsCauses : Obligations.ResumeOrderRemovesItsCauses := by
  refine ⟨fun src id o s hl hf he ho => ?_, fun src id s hl => ?_⟩
  · have hlive := liveOrder_owned hf he ho
    obtain ⟨-, rfl⟩ := findOrder_some hf
    have leaves (hd : doorClosed s = true) :
        exec (.resumeOrder src o.id) s = .next (answered (.resumeOrder src o.id) src .accepted [] (resumeEffect o s)) :=
      served hl (by simp [decideResume, hlive, hd, Answer.accept])
    have merge : updOrder o.id (fun x => { x with status := .running }) (updOrder o.id dropOwn s)
        = updOrder o.id (fun x => { dropOwn x with status := .running }) s := updOrder_updOrder o.id dropOwn _ (fun _ => rfl) s
    refine ⟨fun hd => served hl ?_, fun hd hk => ?_, fun hd hk hdev => ?_, fun hd hk hdev hs => ?_, fun hd hk hdev hs => ?_,
      fun hd hk hdev hs => ⟨fun hq hc => ?_, fun hq hc => ?_, fun hq => ?_, fun hq1 hq2 => ?_⟩⟩
    · simp [decideResume, hlive, hd, Answer.refuse]
    · have e := leaves hd
      rwa [resumeEffect_lacks hk] at e
    · rw [leaves hd, resumeEffect_removes hk, if_pos hdev]; rfl
    · rw [leaves hd, resumeEffect_removes hk, if_neg (by simp [hdev]), if_neg (by simp [hs]), if_neg (by simp [hs])]; rfl
    · rw [leaves hd, resumeEffect_removes hk, if_neg (by simp [hdev]), if_neg (by simp [hs]), if_pos hs]; rfl
    all_goals rw [leaves hd, resumeEffect_removes hk, if_neg (by simp [hdev]), if_pos hs]
    · obtain ⟨c, hc⟩ := Option.isSome_iff_exists.1 hc
      rw [resumeOwner_paused (s := updOrder o.id dropOwn s) hq hc, enterMoveView_objective (b := o) rfl]
      exact congrArg (fun u => Host.Outcome.next (answered _ src .accepted [] (enterMoveView o u))) merge
    · rw [resumeOwner_boundary (s := updOrder o.id dropOwn s) hq hc]
      exact congrArg (fun u => Host.Outcome.next (answered _ src .accepted [] (boundary u))) merge
    · rw [resumeOwner_review (s := updOrder o.id dropOwn s) hq, supersedeReview_objective (b := o) rfl]
      exact congrArg (fun u => Host.Outcome.next (answered _ src .accepted [] (supersedeReview o u))) merge
    · rw [resumeOwner_working (s := updOrder o.id dropOwn s) hq1 hq2]
      exact congrArg (fun u => Host.Outcome.next (answered _ src .accepted [] u)) merge
  · have refused {st : Status} (h : liveOrder src id s = .error st) :
        exec (.resumeOrder src id) s = .next (answered (.resumeOrder src id) src st [] s) :=
      served hl (by simp [decideResume, h, Answer.refuse])
    exact ⟨fun hno => refused (liveOrder_none (findOrder_none hno)), fun o hf =>
      ⟨fun he => refused (liveOrder_ended hf he), fun he ho => refused (liveOrder_notOwner hf he ho)⟩⟩

/-! ## HOLD ALL and RESUME ALL (R23, R24) -/

/-- Where the owner is found, changing it is changing the order that holds the head. -/
theorem updOrder_owner {f : Order → Order} (h : s.arb.owner = .some id) : updOrder id f s =
    { s with table := { s.table with orders := s.table.orders.map fun x => if s.arb.owner = .some x.id then f x else x } } := by
  have e (x : Order) : (if s.arb.owner = .some x.id then f x else x) = if x.id = id then f x else x := by
    simp [h, eq_comm]
  simp only [e]; rfl

/-- The device hold set for an owner that lacks DEVICE. -/
theorem holdAllEffect_owner (hd : s.arb.deviceHold = false) (ho : ownerOf s = .some o) (h1 : o.holds.device = false)
    (h2 : o.pendingHolds.device = false) : holdAllEffect s =
      holdOwner o (fun h => { h with device := true }) (fun h => { h with device := true })
        (s.modArb fun a => { a with deviceHold := true }) := by
  simp [holdAllEffect, hd, ho, h1, h2]

/-- The orders once DEVICE is gone from all of them and one left with no cause is RUNNING (R24). -/
def freeing (x : Order) : Order :=
  { dropDevice x with
    status := if x.status = .held ∧ x.holds.own = false ∧ x.holds.interlock = false then .running else x.status }

/-- The state in which the device hold is over (R24). -/
def deviceFreed (s : State) : State :=
  { s with arb := { s.arb with deviceHold := false }, table := { s.table with orders := s.table.orders.map freeing } }

/-- Clearing the flag and removing DEVICE, before the owner is resumed. -/
def deviceDropped (s : State) : State :=
  (s.modArb fun a => { a with deviceHold := false }).modTable fun t => { t with orders := t.orders.map dropDevice }

theorem ownerOf_deviceDropped (s : State) : ownerOf (deviceDropped s) = (ownerOf s).map dropDevice := by
  have (id : Nat) : findOrder id (deviceDropped s) = (findOrder id s).map dropDevice :=
    findOrder_of_map (g := dropDevice) (fun _ => rfl) rfl id
  simp only [ownerOf]
  rw [show (deviceDropped s).arb.owner = s.arb.owner from rfl]
  cases s.arb.owner with
  | none => rfl
  | some id => exact this id

/-- RESUME ALL with no HELD owner that is left without a cause. -/
theorem resumeAllEffect_rest (h : ∀ o, ownerOf s = .some o → ¬(o.status = .held ∧ o.holds.own = false ∧ o.holds.interlock = false)) :
    resumeAllEffect s = grant (deviceDropped s) := by
  have e := ownerOf_deviceDropped s
  simp only [deviceDropped] at e
  simp only [resumeAllEffect, e, deviceDropped]
  cases ho : ownerOf s with
  | none => rfl
  | some o =>
    have := h o ho
    rw [← and_assoc] at this
    simp only [Option.map_some]
    rw [if_neg]
    simpa [dropDevice, Holds.any, and_assoc] using this

/-- RESUME ALL with the HELD owner left without a cause. -/
theorem resumeAllEffect_resumes (ho : ownerOf s = .some o) (h : o.status = .held ∧ o.holds.own = false ∧ o.holds.interlock = false) :
    resumeAllEffect s = grant (resumeOwner (dropDevice o) (deviceDropped s)) := by
  have e := ownerOf_deviceDropped s
  simp only [deviceDropped] at e
  simp only [resumeAllEffect, e, ho, Option.map_some, deviceDropped]
  rw [if_pos]
  simpa [dropDevice, Holds.any] using h

/-- With no HELD order left without a cause, removing DEVICE is all there is to do. -/
theorem deviceDropped_eq (h : ∀ x ∈ s.table.orders, ¬(x.status = .held ∧ x.holds.own = false ∧ x.holds.interlock = false)) :
    deviceDropped s = deviceFreed s := by
  have e : s.table.orders.map dropDevice = s.table.orders.map freeing :=
    List.map_congr_left fun x hx => by rw [freeing, if_neg (h x hx)]; rfl
  simp only [deviceDropped, deviceFreed, State.modTable, State.modArb, e]

/-- Where the HELD owner is left without a cause, it alone is RUNNING besides. -/
theorem deviceDropped_resumed (h : s.HeadOk) (ho : ownerOf s = .some o)
    (hk : o.status = .held ∧ o.holds.own = false ∧ o.holds.interlock = false) :
    updOrder o.id (fun x => { x with status := .running }) (deviceDropped s) = deviceFreed s := by
  obtain ⟨hm, hown⟩ := ownerOf_some ho
  have hh := (headOk_iff.1 h).books.head
  have e : (s.table.orders.map dropDevice).map (fun x => if x.id = o.id then { x with status := .running } else x)
      = s.table.orders.map freeing := by
    rw [List.map_map]
    refine List.map_congr_left fun x hx => ?_
    simp only [Function.comp]
    by_cases hid : x.id = o.id
    · obtain rfl := eq_of_id_eq hh.ids hx hm hid
      rw [freeing, if_pos hk, if_pos (show (dropDevice x).id = x.id from rfl)]
    · have : ¬x.status = .held := fun e => hid (by simpa [hown] using ((hh.fits x hx).active.1 (.inr e)).symm)
      rw [if_neg (show ¬(dropDevice x).id = o.id from hid), freeing, if_neg (fun e => this e.1)]; rfl
  simp only [updOrder, deviceDropped, deviceFreed, State.modTable, State.modArb, e]

/-- Settles O29: DEVICE reaches the owner as any cause does, and leaves every order; with an owner no grant follows. -/
theorem holdAllAndResumeAll : Obligations.HoldAllAndResumeAll := by
  intro src s hl h
  have hh := (headOk_iff.1 h).books.head
  have holds : exec (.holdAll src) s = .next (answered (.holdAll src) src .accepted [] (holdAllEffect s)) := served hl rfl
  have resumes : exec (.resumeAll src) s = .next (answered (.resumeAll src) src .accepted [] (resumeAllEffect s)) := served hl rfl
  have owned {u : State} {o : Order} (ho : ownerOf s = .some o) (hu : u.arb = (deviceFreed s).arb) : grant u = u :=
    grant_owned (by rw [hu]; simpa [deviceFreed] using (ownerOf_some ho).2 ▸ rfl)
  refine ⟨fun hd => ?_, fun hd hn => ?_, fun o ho hd hk => ?_, fun o ho hd h1 h2 => ?_, fun hn => ?_, fun o ho hk => ?_,
    fun o ho hs h1 h2 => ?_⟩
  · have : holdAllEffect s = s := by simp [holdAllEffect, hd]
    rw [holds, this]
  · have : holdAllEffect s = s.modArb fun a => { a with deviceHold := true } := by simp [holdAllEffect, hd, hn]
    rw [holds, this]; rfl
  · have : holdAllEffect s = s.modArb fun a => { a with deviceHold := true } := by simp [holdAllEffect, hd, ho, hk]
    rw [holds, this]; rfl
  · have hown : (s.modArb fun a => { a with deviceHold := true }).arb.owner = .some o.id := (ownerOf_some ho).2
    rw [holds, holdAllEffect_owner hd ho h1 h2]
    refine ⟨fun hs => ?_, fun hs hw => ?_, fun hs hw => ?_⟩
    · rw [holdOwner_held hs, updOrder_owner hown]; rfl
    · rw [holdOwner_waiting hs (by simpa using hw), updOrder_owner hown]; rfl
    · rw [holdOwner_working hs (by simpa using hw), updOrder_owner hown]; rfl
  · have hk : ∀ x ∈ s.table.orders, ¬(x.status = .held ∧ x.holds.own = false ∧ x.holds.interlock = false) := fun x hx hk => by
      simpa [hn] using (hh.fits x hx).active.1 (.inr hk.1)
    rw [resumes, resumeAllEffect_rest fun o ho => hk o (ownerOf_some ho).1, deviceDropped_eq hk]; rfl
  · obtain ⟨hm, hown⟩ := ownerOf_some ho
    by_cases hr : o.status = .held ∧ o.holds.own = false ∧ o.holds.interlock = false
    · have hq : s.seq.state ≠ .paused ∧ s.seq.state ≠ .reviewWait := by simpa [hr] using hk
      rw [resumes, resumeAllEffect_resumes ho hr, resumeOwner_working (s := deviceDropped s) hq.1 hq.2]
      rw [show (dropDevice o).id = o.id from rfl, deviceDropped_resumed h ho hr, owned ho rfl]; rfl
    · have hr' : ∀ x ∈ s.table.orders, ¬(x.status = .held ∧ x.holds.own = false ∧ x.holds.interlock = false) := fun x hx e => by
        have := (hh.fits x hx).active.1 (.inr e.1)
        rw [eq_of_id_eq hh.ids hx hm (by simpa [hown] using this.symm)] at e
        exact hr e
      rw [resumes, resumeAllEffect_rest fun o ho => hr' o (ownerOf_some ho).1, deviceDropped_eq hr', owned ho rfl]; rfl
  · have e := resumeAllEffect_resumes ho ⟨hs, h1, h2⟩
    have hfreed := deviceDropped_resumed h ho ⟨hs, h1, h2⟩
    refine ⟨fun hq hc => ?_, fun hq hc => ?_, fun hq => ?_⟩
    · obtain ⟨c, hc⟩ := Option.isSome_iff_exists.1 hc
      rw [resumes, e, resumeOwner_paused (s := deviceDropped s) hq hc, enterMoveView_objective (b := o) rfl,
        show (dropDevice o).id = o.id from rfl, hfreed, owned ho (by simp)]; rfl
    · rw [resumes, e, resumeOwner_boundary (s := deviceDropped s) hq hc, show (dropDevice o).id = o.id from rfl, hfreed]; rfl
    · rw [resumes, e, resumeOwner_review (s := deviceDropped s) hq, supersedeReview_objective (b := o) rfl,
        show (dropDevice o).id = o.id from rfl, hfreed]; rfl

end Sys2Proof.Proofs.Orders

/-! # The arbiter's grant (R12 to R15, R34) -/

namespace Sys2Proof.Proofs.Orders
open Sys2Proof Sys2Proof.Machine

variable {s : State} {o : Order}

/-! ## The choice (R12, R14) -/

/-- The conditions of R12, one by one. -/
theorem eligible_iff : eligible s o = true ↔
    o.status = .opened ∧ o.holds = ⟨false, false, false⟩ ∧ o.points ≠ [] ∧ s.arb.deviceHold = false
      ∧ s.inputs.door.level = .some .isClosed ∧ s.inputs.estop.level = .some .clear
      ∧ (s.arb.lock = .none ∨ s.arb.lock = .some o.origin) ∧ s.cal.loaded = true ∧ conditionOf 6 s ≠ .loadFault := by
  have unheld : (!o.holds.any) = true ↔ o.holds = ⟨false, false, false⟩ := by
    rw [Bool.not_eq_true', Bool.eq_false_iff, Ne, any_iff_ne_none, not_not]
  simp only [eligible, Bool.and_eq_true, unheld, decide_eq_true_eq, Bool.not_eq_true', List.isEmpty_eq_false_iff, doorClosed,
    estopClear, Bool.or_eq_true, and_assoc, ne_eq]

/-- The eligible orders of a port. -/
def eligibleOf (p : Port) (s : State) : List Order := (s.table.orders.filter (eligible s)).filter (·.origin = p)

theorem mem_eligibleOf {p : Port} : o ∈ eligibleOf p s ↔ (o ∈ s.table.orders ∧ eligible s o = true) ∧ o.origin = p := by
  simp only [eligibleOf, List.mem_filter, decide_eq_true_eq]

/-- The port other than the last-granted one goes first (R14). -/
theorem chooseOrder_eq (s : State) : chooseOrder s =
    if eligibleOf s.arb.lastGranted.other s = [] then earliest (eligibleOf s.arb.lastGranted s)
    else earliest (eligibleOf s.arb.lastGranted.other s) := by
  simp only [chooseOrder, List.isEmpty_iff]; rfl

theorem port_eq_or_other (p q : Port) : p = q ∨ p = q.other := by cases p <;> cases q <;> simp [Port.other]

theorem chooseOrder_none : chooseOrder s = .none ↔ ∀ o, ¬(o ∈ s.table.orders ∧ eligible s o = true) := by
  have some {p : Port} (h : ∀ o, ¬(o ∈ s.table.orders ∧ eligible s o = true)) : eligibleOf p s = [] :=
    List.eq_nil_iff_forall_not_mem.2 fun o ho => h o (mem_eligibleOf.1 ho).1
  rw [chooseOrder_eq]
  split
  · next hn =>
    rw [earliest_none]
    refine ⟨fun hl o ho => ?_, some⟩
    rcases port_eq_or_other o.origin s.arb.lastGranted with e | e
    · simpa [hl] using mem_eligibleOf.2 ⟨ho, e⟩
    · simpa [hn] using mem_eligibleOf.2 ⟨ho, e⟩
  · next hn =>
    rw [earliest_none]
    exact ⟨fun e => absurd e hn, some⟩

/-- The order chosen is the earliest of its port, and of the last-granted port only where the other has none eligible. -/
theorem chooseOrder_first (h : chooseOrder s = .some o) :
    (∀ p, p ∈ s.table.orders ∧ eligible s p = true → p.origin = o.origin → o.rank ≤ p.rank)
      ∧ (o.origin = s.arb.lastGranted → ∀ p, p ∈ s.table.orders ∧ eligible s p = true → p.origin = s.arb.lastGranted) := by
  rw [chooseOrder_eq] at h
  split at h
  · next hn =>
    obtain ⟨hm, hr⟩ := earliest_some h
    have ho := (mem_eligibleOf.1 hm).2
    refine ⟨fun p hp e => hr p (mem_eligibleOf.2 ⟨hp, e.trans ho⟩), fun _ p hp => ?_⟩
    refine (port_eq_or_other p.origin s.arb.lastGranted).resolve_right fun e => ?_
    simpa [hn] using mem_eligibleOf.2 ⟨hp, e⟩
  · obtain ⟨hm, hr⟩ := earliest_some h
    have ho := (mem_eligibleOf.1 hm).2
    refine ⟨fun p hp e => hr p (mem_eligibleOf.2 ⟨hp, e.trans ho⟩), fun e => ?_⟩
    rw [ho] at e
    exact absurd e (by cases s.arb.lastGranted <;> simp [Port.other])

/-! ## The grant (R13, R15, R34) -/

/-- The state in which an order has taken the head, POINTS LOW judged as due or not. -/
def headTaken (due : Bool) (o : Order) (s : State) : State :=
  { s with
    table := { s.table with orders := s.table.orders.map fun x =>
      if x.id = o.id then { x with status := .running, lowArmed := x.lowArmed && !due } else x }
    arb := { s.arb with owner := .some o.id, lastGranted := o.origin } }

theorem considerGrant_chosen (hn : s.arb.owner = .none) (hc : chooseOrder s = .some o) : considerGrant s =
    (judgePointsLow (postTo o.origin (orderNotice .orderStarted o 0 0) (headTaken false o s)), true) := by
  simp only [considerGrant, hn, hc, headTaken, Bool.not_false, Bool.and_true]; rfl

/-- POINTS LOW, once due, is not armed. -/
theorem updOrder_headTaken : updOrder o.id (fun x => { x with lowArmed := false }) (headTaken false o s) = headTaken true o s := by
  simp only [updOrder, headTaken, State.modTable, List.map_map]
  congr 2
  refine List.map_congr_left fun x _ => ?_
  by_cases e : x.id = o.id <;> simp [e]

theorem considerGrant_rest (h : s.arb.owner ≠ .none ∨ chooseOrder s = .none) : considerGrant s = (s, false) := by
  unfold considerGrant
  split
  · rfl
  · next hn => simp only [h.resolve_left (not_not.2 hn)]

/-- The order that has taken the head is the owner found. -/
theorem ownerOf_headTaken (hf : findOrder o.id s = .some o) :
    ownerOf (headTaken false o s) = .some { o with status := .running } := by
  have := findOrder_of_map (s := s) (t := headTaken false o s)
    (g := fun x => if x.id = o.id then { x with status := .running, lowArmed := x.lowArmed && !false } else x)
    (fun x => by split <;> rfl) rfl o.id
  rw [show ownerOf (headTaken false o s) = findOrder o.id (headTaken false o s) from rfl, this, hf]
  simp

theorem judgePointsLow_due (ho : ownerOf s = .some o) (h : pointsLowDue o = true) : judgePointsLow s =
    postTo o.origin (orderNotice .pointsLow o 0 o.points.length) (updOrder o.id (fun o => { o with lowArmed := false }) s) := by
  simp [judgePointsLow, ho, h]

theorem judgePointsLow_quiet (ho : ownerOf s = .some o) (h : pointsLowDue o = false) : judgePointsLow s = s := by
  simp [judgePointsLow, ho, h]

/-- Posting, an update of an order and the taking of the head do not meet. -/
theorem updOrder_postTo (p : Port) (n : Notice) (id : Nat) (f : Order → Order) (s : State) :
    updOrder id f (postTo p n s) = postTo p n (updOrder id f s) := by
  cases p <;> rfl

theorem headTaken_postTo (due : Bool) (p : Port) (n : Notice) (o : Order) (s : State) :
    headTaken due o (postTo p n s) = postTo p n (headTaken due o s) := by
  cases p <;> rfl

/-- A notice to a queue with room is at its back. -/
theorem postTo_room {p : Port} {n : Notice} (h : (s.port p).notices.length < 32) :
    postTo p n s = s.modPort p fun q => { q with notices := q.notices ++ [n], attention := true } := by
  cases p
  · exact congrArg (fun q => { s with portA := q }) (LinkPort.post_room h)
  · exact congrArg (fun q => { s with portB := q }) (LinkPort.post_room h)

theorem postTo_room_two {p : Port} {n m : Notice} (h : (s.port p).notices.length + 1 < 32) :
    postTo p m (postTo p n s) = s.modPort p fun q => { q with notices := q.notices ++ [n, m], attention := true } := by
  have first : postTo p n s = _ := postTo_room (by omega)
  rw [first, postTo_room (by simpa using h), State.modPort_modPort]
  exact congrArg (State.modPort p · s) (funext fun q => by simp)

/-- Settles O31: the new owner's POINTS LOW is judged over its own list, which the grant does not touch. -/
theorem grantGoesToTheRightOrder : Obligations.GrantGoesToTheRightOrder := by
  refine ⟨fun s => ?_, fun s => ⟨fun h => ⟨considerGrant_rest h, ?_⟩, fun o hc h hn => ?_⟩, fun t => ⟨rfl, rfl⟩⟩
  · simp only [← eligible_iff]
    exact ⟨chooseOrder_none, fun o h => ⟨chooseOrder_mem h, chooseOrder_first h⟩⟩
  · rw [grant, considerGrant_rest h]; rfl
  · intro due about posts posted granted
    have hf := findOrder_eq (headOk_iff.1 h).books.head.ids (chooseOrder_mem hc).1
    have ho : ownerOf (postTo o.origin (orderNotice .orderStarted o 0 0) (headTaken false o s)) = .some { o with status := .running } :=
      (ownerOf_modPort ..).trans (ownerOf_headTaken hf)
    have e : considerGrant s = (headTaken due o posted, true) := by
      rw [considerGrant_chosen hn hc]
      congr 1
      cases hd : due with
      | false =>
        rw [judgePointsLow_quiet ho hd]
        simp only [posted, posts, hd]
        exact (headTaken_postTo ..).symm
      | true =>
        rw [judgePointsLow_due ho hd, updOrder_postTo]
        refine (congrArg (fun t => postTo _ _ (postTo _ _ t)) updOrder_headTaken).trans ?_
        simp only [posted, posts, hd, ← headTaken_postTo]; rfl
    have eg : headTaken due o posted = granted := by
      have (l : List Notice) (u : State) : (l.foldl (fun u n => postTo o.origin n u) u).table = u.table
          ∧ (l.foldl (fun u n => postTo o.origin n u) u).arb = u.arb := by
        induction l generalizing u with
        | nil => exact ⟨rfl, rfl⟩
        | cons n l ih => simpa [postTo] using ih (postTo o.origin n u)
      simp only [headTaken, granted, posted, this]
    refine ⟨e.trans (congrArg (·, true) eg), by rw [grant, e, eg]; rfl, fun hr => ?_⟩
    cases hd : due with
    | false =>
      simp only [posted, posts, hd]
      exact postTo_room (by omega)
    | true =>
      simp only [posted, posts, hd]
      exact postTo_room_two (by omega)

end Sys2Proof.Proofs.Orders

/-! # Port reset (R20, R135, R145, R177, R186) -/

namespace Sys2Proof.Proofs.Orders
open Sys2Proof Sys2Proof.Machine

variable {s t : State} {o : Order}

/-! ## The boundary and the grant add notices behind those waiting -/

/-- The lock is the same, and the notices of each port are those it had and perhaps more behind. -/
structure Extends (s t : State) : Prop where
  lock : t.arb.lock = s.arb.lock
  noticesA : s.portA.notices <+: t.portA.notices
  noticesB : s.portB.notices <+: t.portB.notices

theorem Extends.of_same (hl : t.arb.lock = s.arb.lock) (ha : t.portA = s.portA) (hb : t.portB = s.portB) : Extends s t :=
  ⟨hl, ha ▸ List.prefix_rfl, hb ▸ List.prefix_rfl⟩

theorem Extends.refl (s : State) : Extends s s := .of_same rfl rfl rfl

theorem Extends.trans {u : State} (h : Extends s t) (k : Extends t u) : Extends s u :=
  ⟨k.lock.trans h.lock, h.noticesA.trans k.noticesA, h.noticesB.trans k.noticesB⟩

/-- What is done first to the blocks that hold neither lock nor notices does not matter. -/
theorem Extends.after {u : State} (h : Extends t u) (hl : t.arb.lock = s.arb.lock) (ha : t.portA = s.portA) (hb : t.portB = s.portB) :
    Extends s u :=
  .trans (.of_same hl ha hb) h

/-- A posted notice is behind those waiting, or lost. -/
theorem prefix_post (q : LinkPort) (n : Notice) : q.notices <+: (q.post n).notices := by
  unfold LinkPort.post
  split
  · exact List.prefix_append ..
  · exact List.prefix_rfl

theorem extends_postTo (p : Port) (n : Notice) (s : State) : Extends s (postTo p n s) := by
  cases p with
  | A => exact ⟨rfl, prefix_post .., List.prefix_rfl⟩
  | B => exact ⟨rfl, List.prefix_rfl, prefix_post ..⟩

theorem extends_judgePointsLow (s : State) : Extends s (judgePointsLow s) := by
  unfold judgePointsLow
  split
  · exact .refl s
  · split
    · exact (extends_postTo ..).after rfl rfl rfl
    · exact .refl s

theorem extends_postResultsWaiting (o : Order) (seq : Nat) (s : State) : Extends s (postResultsWaiting o seq s) :=
  .trans (extends_postTo ..) (.of_same rfl rfl rfl)

theorem extends_countWaiting (o : Order) (seq : Nat) (s : State) : Extends s (countWaiting o seq s) := by
  unfold countWaiting
  dsimp only
  split
  · exact (extends_postResultsWaiting ..).after rfl rfl rfl
  · exact .of_same rfl rfl rfl

theorem extends_writeRecord (o : Order) (r : Record) (s : State) : Extends s (writeRecord o r s) := by
  have h : Extends s (countWaiting o s.store.nextSeq (updOrder o.id (noteSeq s.store.nextSeq) (appendRecord r s))) :=
    (extends_countWaiting ..).after rfl rfl rfl
  unfold writeRecord
  dsimp only
  split
  · exact h
  · exact h.trans (.of_same rfl rfl rfl)

theorem extends_recordCurrent (o : Order) (st : RecState) (why : Reason) (s : State) : Extends s (recordCurrent o st why s) := by
  rcases recordCurrent_cases o st why s with ⟨-, e⟩ | ⟨c, -, e⟩
  · rw [e]; exact .refl s
  · rw [e]; exact .trans (extends_writeRecord ..) (.of_same rfl rfl rfl)

theorem extends_recordImpressions (o : Order) (why : Reason) (l : List Impression) (s : State) :
    Extends s (recordImpressions o why l s) := by
  induction l generalizing s with
  | nil => exact .refl s
  | cons i l ih => exact (extends_writeRecord ..).trans (ih _)

theorem extends_endOrder (id : Nat) (out : OrderOutcome) (why : Option AbortReason) (s : State) :
    Extends s (endOrder id out why s) := by
  unfold endOrder
  split
  · exact .refl s
  · exact ((extends_postTo ..).trans (extends_postResultsWaiting ..)).after rfl rfl rfl

theorem extends_considerGrant (s : State) : Extends s (considerGrant s).1 := by
  unfold considerGrant
  split
  · exact .refl s
  · split
    · exact .refl s
    · exact ((extends_postTo ..).trans (extends_judgePointsLow _)).after rfl rfl rfl

theorem extends_endOwner (id : Nat) (out : OrderOutcome) (why : Option AbortReason) (s : State) :
    Extends s (endOwner id out why s).1 :=
  (extends_endOrder ..).trans ((extends_considerGrant _).after rfl rfl rfl)

theorem extends_completeCancel (o : Order) (s : State) : Extends s (completeCancel o s).1 :=
  (extends_recordImpressions ..).trans ((extends_endOwner ..).after rfl rfl rfl)

theorem extends_takeImpression (o : Order) (s : State) : Extends s (takeImpression o s).1 := by
  cases h : s.seq.impressions with
  | nil => simp only [takeImpression, h]; exact .refl s
  | cons i rest =>
    have taken : Extends s (impressionTaken i rest s) := .of_same rfl rfl rfl
    cases hm : i.mark with
    | none =>
      rw [takeImpression_unmarked h hm]
      exact taken.trans (.of_same (by simp) (by simp) (by simp))
    | some m =>
      rw [takeImpression_marked h hm]
      exact taken.trans (extends_recordCurrent ..)

theorem extends_takePoint (o : Order) (s : State) : Extends s (takePoint o s).1 := by
  unfold takePoint
  split
  · exact .refl s
  · next p rest _ =>
    have h : Extends s (judgePointsLow (((updOrder o.id
        (fun o => { o with points := rest, counts := { o.counts with taken := o.counts.taken + 1 } }) s).setPoolFree
        (s.poolFree + 1)).modSeq fun q => { q with cur := .some (CurPoint.ofPoint p) })) :=
      (extends_judgePointsLow _).after rfl rfl rfl
    dsimp only
    split
    · exact h.trans (.of_same (by simp) (by simp) (by simp))
    · exact h.trans (extends_recordCurrent ..)

theorem extends_boundaryTake (o : Order) (s : State) : Extends s (boundaryTake o s).1 := by
  unfold boundaryTake
  split
  · split
    · exact extends_endOwner ..
    · exact .of_same (by simp) (by simp) (by simp)
  · split
    · exact .of_same (by simp) (by simp) (by simp)
    · exact extends_takePoint ..

theorem extends_boundaryRun (o : Order) (s : State) : Extends s (boundaryRun o s).1 := by
  unfold boundaryRun
  repeat' split
  · exact extends_boundaryTake ..
  · exact (extends_boundaryTake ..).after rfl rfl rfl
  · exact extends_takeImpression ..
  · exact (extends_takeImpression ..).after rfl rfl rfl
  · exact extends_boundaryTake ..

theorem extends_boundaryStep (s : State) : Extends s (boundaryStep s).1 := by
  unfold boundaryStep
  split
  · exact .refl s
  · split
    · exact extends_completeCancel ..
    · dsimp only
      split
      · rw [boundaryPause_eq]; exact .of_same rfl rfl rfl
      · exact (extends_boundaryRun ..).after rfl rfl rfl

theorem extends_grant (s : State) : Extends s (grant s) :=
  grant_keeps (P := Extends s) (fun _ h => h.trans (extends_boundaryStep _)) (fun _ h => h.trans (extends_considerGrant _)) s
    (.refl s)

theorem Extends.head {p : Port} {n : Notice} (h : Extends s t) (hn : (s.port p).notices.head? = .some n) :
    (t.port p).notices.head? = .some n := by
  cases p with
  | A => obtain ⟨l, e⟩ := h.noticesA; simp only [State.port] at *; rw [← e]; simp [hn]
  | B => obtain ⟨l, e⟩ := h.noticesB; simp only [State.port] at *; rw [← e]; simp [hn]

/-! ## The steps of the reset -/

/-- A port emptied, its RESULTS WAITING armed and its claim dropped (R186 steps 1 to 5). -/
def portCleared (p : Port) (s : State) : State := dropClaim p ((s.modPort p (LinkPort.restart p)).modStore (·.setArmed p true))

/-- Dropping a claim writes the desk alone. -/
theorem dropClaim_eq (p : Port) (s : State) : dropClaim p s = s.setDesk { s.desk with
    review := s.desk.review.map fun r => if r.claimant = .some p then { r with claimant := .none } else r } := by
  have same (d : ReviewDesk) (h : s.desk = d) : s = s.setDesk d := h ▸ rfl
  cases h : s.desk.review with
  | none =>
    simp only [dropClaim, h]
    exact same _ (congrArg (fun r => { s.desk with review := r }) h)
  | some r =>
    simp only [dropClaim, h, Option.map_some]
    split
    · rfl
    · exact same _ (congrArg (fun r => { s.desk with review := r }) h)

theorem portReset_broken {p : Port} (h : (s.port p).inBreak = true) :
    exec (.portReset p) s = .next (dropLock p (portCleared p s)) := by
  simp only [exec, execPortReset, h]; rfl

theorem portCleared_lock (p : Port) (s : State) : (portCleared p s).arb.lock = s.arb.lock := by simp [portCleared]

/-- The lock freed by the reset, both HEAD LOCK notices posted, a grant not yet considered. -/
def lockFreed (p : Port) (s : State) : State :=
  postBoth (plainNotice .headLock 0) ((portCleared p s).modArb fun a => { a with lock := .none })

theorem dropLock_held {p : Port} (h : s.arb.lock = .some p) : dropLock p (portCleared p s) = grant (lockFreed p s) := by
  simp only [dropLock, portCleared_lock, h]; rfl

/-- A notice to an emptied queue is first in it. -/
theorem post_restart (p : Port) (n : Notice) (q : LinkPort) : (q.restart p).post n =
    { q with rx := Receiver.hunt, buffers := [], responses := [], inBreak := false, options := LinkOptions.default p
             notices := [n], lost := 0, attention := true } :=
  LinkPort.post_room (show 0 < 32 by decide)

theorem post_eq (n : Notice) (q : LinkPort) : q.post n =
    if q.notices.length < 32 then { q with notices := q.notices ++ [n], attention := true }
    else { q with lost := if q.lost < 65535 then q.lost + 1 else q.lost } := rfl

/-- The port reset queues HEAD LOCK alone, the other port behind its own notices. -/
theorem lockFreed_ports (p : Port) (s : State) :
    (lockFreed p s).port p = ((s.port p).restart p).post (plainNotice .headLock 0)
      ∧ (lockFreed p s).port p.other = (s.port p.other).post (plainNotice .headLock 0) := by
  cases p <;> rw [lockFreed, portCleared, dropClaim_eq] <;> exact ⟨rfl, rfl⟩

/-- Settles O19: the HEAD LOCK of a freed lock is first in the emptied queue, and what the grant posts is behind it. -/
theorem portResetTakesItsSteps : Obligations.PortResetTakesItsSteps := by
  refine ⟨fun p s hb hl => ⟨portCleared p s, ?_⟩, fun p s hb hl => ⟨grant (lockFreed p s), ?_⟩, fun p s hb hl => ?_⟩
  · rw [portReset_broken hb, dropLock, if_neg (by rwa [portCleared_lock]), portCleared, dropClaim_eq]
    cases p <;> exact ⟨rfl, rfl, rfl, rfl, rfl, rfl⟩
  · rw [portReset_broken hb, dropLock_held hl]
    have behind := extends_grant (lockFreed p s)
    refine ⟨rfl, behind.lock, behind.head ?_⟩
    rw [(lockFreed_ports p s).1, post_restart]; rfl
  · intro n other
    obtain ⟨hp, ho⟩ := lockFreed_ports p s
    rw [post_restart] at hp
    rw [post_eq] at ho
    refine ⟨lockFreed p s, by rw [portReset_broken hb, dropLock_held hl], hp.trans (by cases p <;> rfl), ho, ?_⟩
    rw [lockFreed, portCleared, dropClaim_eq]
    cases p <;> exact ⟨rfl, rfl, rfl, rfl⟩

end Sys2Proof.Proofs.Orders

/-! # OPEN ORDER (R2 to R6) -/

namespace Sys2Proof.Proofs.Orders
open Sys2Proof Sys2Proof.Machine

variable {s : State} {r : OpenOrderReq} {src : Source}

/-! ## The checks (R3) -/

/-- A code outside its range, a case limit without a TRAVERSE, or limits that cross (R3 steps 1 to 4). -/
def BadValue (r : OpenOrderReq) : Prop :=
  2 < r.kind ∨ 1 < r.method ∨ 1 < r.mode ∨ 11 < r.forceCode ∨ (r.caseLimit ≠ 0 ∧ r.kind ≠ 2)
    ∨ (r.lower ≠ 0 ∧ r.upper ≠ 0 ∧ min r.upper 99999 < min r.lower 99999)

/-- A station out of range, or one not of the kind asked for (R3 steps 5 to 7). -/
def BadStation (r : OpenOrderReq) (s : State) : Prop :=
  5 < r.indenter ∨ 5 < r.objective ∨ (stationRecord r.indenter s).kind ≠ (if r.method = 0 then .vickersIndenter else .knoopIndenter)
    ∨ (stationRecord r.objective s).kind ≠ .objective

/-- All slots taken and none by an ENDED order (R5). -/
def NoSlot (s : State) : Prop := 8 ≤ s.table.orders.length ∧ ∀ o ∈ s.table.orders, o.status ≠ .ended

theorem orderKindOfCode_some {n : Nat} (h : n ≤ 2) : ∃ k, orderKindOfCode n = .some k ∧ (k = .traverse ↔ n = 2) := by
  interval_cases n <;> simp [orderKindOfCode]

theorem orderKindOfCode_none {n : Nat} (h : 2 < n) : orderKindOfCode n = .none := by
  obtain ⟨n, rfl⟩ := Nat.exists_eq_add_of_lt h
  rw [show 2 + n + 1 = n + 3 by omega]; rfl

theorem orderKindOfCode_getD (n : Nat) : (orderKindOfCode n).getD .single = [.single, .pattern, .traverse].getD n .single := by
  match n with
  | 0 | 1 | 2 => rfl
  | n + 3 => rfl

theorem methodOfCode_some {n : Nat} (h : n ≤ 1) : methodOfCode n = .some (if n = 0 then .vickers else .knoop) := by
  interval_cases n <;> rfl

theorem methodOfCode_none {n : Nat} (h : 1 < n) : methodOfCode n = .none := by
  obtain ⟨n, rfl⟩ := Nat.exists_eq_add_of_lt h
  rw [show 1 + n + 1 = n + 2 by omega]; rfl

theorem modeOfCode_some {n : Nat} (h : n ≤ 1) : modeOfCode n = .some (if n = 0 then .immediate else .deferred) := by
  interval_cases n <;> rfl

theorem modeOfCode_none {n : Nat} (h : 1 < n) : modeOfCode n = .none := by
  obtain ⟨n, rfl⟩ := Nat.exists_eq_add_of_lt h
  rw [show 1 + n + 1 = n + 2 by omega]; rfl

theorem limitsCross_iff {l u : Nat} :
    limitsCross (limitOf l) (limitOf u) = true ↔ l ≠ 0 ∧ u ≠ 0 ∧ min u 99999 < min l 99999 := by
  simp only [limitOf]
  by_cases hl : l = 0
  · simp [hl, limitsCross]
  · by_cases hu : u = 0
    · simp [hl, hu, limitsCross]
    · simp [hl, hu, limitsCross, Config.hardnessMax]

/-- A code that names nothing is a bad value. -/
theorem openOrderCheck_badCode (h : 2 < r.kind ∨ 1 < r.method ∨ 1 < r.mode) : openOrderCheck r s = .some .badValue := by
  unfold openOrderCheck
  split
  · next h1 h2 h3 =>
    rcases h with h | h | h
    · simp [orderKindOfCode_none h] at h1
    · simp [methodOfCode_none h] at h2
    · simp [modeOfCode_none h] at h3
  · rfl

/-- The checks that follow where every code names something. -/
theorem openOrderCheck_codes (h1 : r.kind ≤ 2) (h2 : r.method ≤ 1) (h3 : r.mode ≤ 1) : openOrderCheck r s =
    if 11 < r.forceCode then .some .badValue
    else if r.caseLimit ≠ 0 ∧ r.kind ≠ 2 then .some .badValue
    else if r.lower ≠ 0 ∧ r.upper ≠ 0 ∧ min r.upper 99999 < min r.lower 99999 then .some .badValue
    else if 5 < r.indenter ∨ 5 < r.objective then .some .badStation
    else if (stationRecord r.indenter s).kind = .empty ∨ (stationRecord r.objective s).kind = .empty then .some .badStation
    else if (stationRecord r.indenter s).kind ≠ (if r.method = 0 then .vickersIndenter else .knoopIndenter)
        ∨ (stationRecord r.objective s).kind ≠ .objective then .some .badStation
    else if 8 ≤ s.table.orders.length ∧ ∀ o ∈ s.table.orders, o.status ≠ .ended then .some .full
    else .none := by
  obtain ⟨k, hk, hk2⟩ := orderKindOfCode_some h1
  have indenter : indenterFor (if r.method = 0 then .vickers else .knoop) =
      if r.method = 0 then .vickersIndenter else .knoopIndenter := by split <;> rfl
  have slots : (Config.orderSlots ≤ s.table.orders.length ∧ s.table.orders.all (·.status ≠ .ended) = true) ↔
      8 ≤ s.table.orders.length ∧ ∀ o ∈ s.table.orders, o.status ≠ .ended := by simp [Config.orderSlots]
  simp only [openOrderCheck, hk, methodOfCode_some h2, modeOfCode_some h3, ne_eq, hk2, limitsCross_iff, indenter]
  simp only [← ne_eq, slots]

theorem openOrderCheck_badValue (h : BadValue r) : openOrderCheck r s = .some .badValue := by
  by_cases hc : 2 < r.kind ∨ 1 < r.method ∨ 1 < r.mode
  · exact openOrderCheck_badCode hc
  · rw [openOrderCheck_codes (by omega) (by omega) (by omega)]
    by_cases h1 : 11 < r.forceCode
    · rw [if_pos h1]
    · rw [if_neg h1]
      by_cases h2 : r.caseLimit ≠ 0 ∧ r.kind ≠ 2
      · rw [if_pos h2]
      · rw [if_neg h2, if_pos (by unfold BadValue at h; tauto)]

/-- The checks of the stations and the slots follow good values. -/
theorem openOrderCheck_value (h : ¬BadValue r) : openOrderCheck r s =
    if 5 < r.indenter ∨ 5 < r.objective then .some .badStation
    else if (stationRecord r.indenter s).kind = .empty ∨ (stationRecord r.objective s).kind = .empty then .some .badStation
    else if (stationRecord r.indenter s).kind ≠ (if r.method = 0 then .vickersIndenter else .knoopIndenter)
        ∨ (stationRecord r.objective s).kind ≠ .objective then .some .badStation
    else if 8 ≤ s.table.orders.length ∧ ∀ o ∈ s.table.orders, o.status ≠ .ended then .some .full
    else .none := by
  simp only [BadValue, not_or] at h
  obtain ⟨h1, h2, h3, h4, h5, h6⟩ := h
  rw [openOrderCheck_codes (by omega) (by omega) (by omega), if_neg h4, if_neg h5, if_neg h6]

/-- An EMPTY station is of no kind that is asked for. -/
theorem badStation_of_empty (h : (stationRecord r.indenter s).kind = .empty ∨ (stationRecord r.objective s).kind = .empty) :
    (stationRecord r.indenter s).kind ≠ (if r.method = 0 then .vickersIndenter else .knoopIndenter)
      ∨ (stationRecord r.objective s).kind ≠ .objective := by
  rcases h with h | h
  · left; rw [h]; split <;> decide
  · right; rw [h]; decide

theorem openOrderCheck_badStation (h : ¬BadValue r) (hs : BadStation r s) : openOrderCheck r s = .some .badStation := by
  rw [openOrderCheck_value h]
  by_cases h1 : 5 < r.indenter ∨ 5 < r.objective
  · rw [if_pos h1]
  · rw [if_neg h1]
    split
    · rfl
    · rw [if_pos (by unfold BadStation at hs; tauto)]

theorem openOrderCheck_slots (h : ¬BadValue r) (hs : ¬BadStation r s) : openOrderCheck r s =
    if 8 ≤ s.table.orders.length ∧ ∀ o ∈ s.table.orders, o.status ≠ .ended then .some .full else .none := by
  rw [openOrderCheck_value h]
  simp only [BadStation, not_or] at hs
  have sound : ¬((stationRecord r.indenter s).kind ≠ (if r.method = 0 then .vickersIndenter else .knoopIndenter)
      ∨ (stationRecord r.objective s).kind ≠ .objective) := not_or.2 hs.2.2
  rw [if_neg (not_or.2 ⟨hs.1, hs.2.1⟩), if_neg fun e => sound (badStation_of_empty e), if_neg sound]

/-! ## The parameters (R4) -/

theorem clampTo_eq {lo hi : Nat} (h : lo ≤ hi) (v : Nat) : clampTo lo hi v = max lo (min hi v) := by
  unfold clampTo; split
  · omega
  · split <;> omega

theorem clampBand_eq (v : Nat) : clampBand v = 2 * (max 8 (min 64 v) / 2) := by
  rw [clampBand, clampTo_eq (by decide), Nat.mul_comm]

theorem clampWindow_eq (v : Nat) : clampWindow v = if v = 0 then 0 else max 10 (min 600 v) := by
  rw [clampWindow, clampTo_eq (by decide)]

/-- The parameters of an accepted order, each at its default or its field and within its range. -/
theorem clampParams_asked (r : OpenOrderReq) : clampParams (askedParams r) =
    { dwell := max 20 (min 600 (paramOr r 0 150 r.dwell)), ramp := max 20 (min 80 (paramOr r 1 50 r.ramp))
      window := if paramOr r 2 120 r.window = 0 then 0 else max 10 (min 600 (paramOr r 2 120 r.window))
      starvation := max 1 (min 60 (paramOr r 3 10 r.starvation)), lowWater := max 0 (min 64 (paramOr r 4 8 r.lowWater))
      threshold := max 1 (min 256 (paramOr r 5 1 r.threshold)), bandW := 2 * (max 8 (min 64 (paramOr r 6 32 r.bandW)) / 2)
      rh := max 64 (min 576 (paramOr r 7 400 r.rh)), rv := max 64 (min 448 (paramOr r 8 320 r.rv))
      contrast := max 1 (min 255 (paramOr r 9 40 r.contrast)), asymmetry := max 0 (min 200 (paramOr r 10 50 r.asymmetry))
      offCentre := max 0 (min 500 (paramOr r 11 100 r.offCentre)), frameLimit := max 1 (min 16 (paramOr r 12 6 r.frameLimit)) } := by
  simp only [clampParams, askedParams, clampBand_eq, clampWindow_eq]
  rw [clampTo_eq (by decide), clampTo_eq (by decide), clampTo_eq (by decide), clampTo_eq (by decide), clampTo_eq (by decide),
    clampTo_eq (by decide), clampTo_eq (by decide), clampTo_eq (by decide), clampTo_eq (by decide), clampTo_eq (by decide),
    clampTo_eq (by decide)]

/-- Two sets of parameters differ where one of them does. -/
theorem params_ne_iff {p q : OrderParams} : p ≠ q ↔ p.dwell ≠ q.dwell ∨ p.ramp ≠ q.ramp ∨ p.window ≠ q.window
    ∨ p.starvation ≠ q.starvation ∨ p.lowWater ≠ q.lowWater ∨ p.threshold ≠ q.threshold ∨ p.bandW ≠ q.bandW ∨ p.rh ≠ q.rh
    ∨ p.rv ≠ q.rv ∨ p.contrast ≠ q.contrast ∨ p.asymmetry ≠ q.asymmetry ∨ p.offCentre ≠ q.offCentre
    ∨ p.frameLimit ≠ q.frameLimit := by
  cases p; cases q
  simp only [ne_eq, OrderParams.mk.injEq]
  tauto

/-- A value was altered where a parameter is not as asked for or a limit is above 99,999 (R4). -/
theorem wasClamped_iff : wasClamped r = true ↔ (let p := clampParams (askedParams r)
    p.dwell ≠ (askedParams r).dwell ∨ p.ramp ≠ (askedParams r).ramp ∨ p.window ≠ (askedParams r).window
      ∨ p.starvation ≠ (askedParams r).starvation ∨ p.lowWater ≠ (askedParams r).lowWater
      ∨ p.threshold ≠ (askedParams r).threshold ∨ p.bandW ≠ (askedParams r).bandW ∨ p.rh ≠ (askedParams r).rh
      ∨ p.rv ≠ (askedParams r).rv ∨ p.contrast ≠ (askedParams r).contrast ∨ p.asymmetry ≠ (askedParams r).asymmetry
      ∨ p.offCentre ≠ (askedParams r).offCentre ∨ p.frameLimit ≠ (askedParams r).frameLimit
      ∨ 99999 < r.lower ∨ 99999 < r.upper ∨ 99999 < r.caseLimit) := by
  simp only [wasClamped, Bool.or_eq_true, decide_eq_true_eq, params_ne_iff, or_assoc]
  exact Iff.rfl

/-! ## The order opened (R2, R5, R6) -/

/-- A maximum taken along a list is at least where it began and at least each entry. -/
theorem le_foldl_max (l : List Nat) (a : Nat) : a ≤ l.foldl max a ∧ ∀ x ∈ l, x ≤ l.foldl max a := by
  induction l generalizing a with
  | nil => simp
  | cons b l ih =>
    obtain ⟨h1, h2⟩ := ih (max a b)
    refine ⟨le_trans (le_max_left ..) h1, fun x hx => ?_⟩
    rcases List.mem_cons.1 hx with rfl | hx
    · exact le_trans (le_max_right ..) h1
    · exact h2 x hx

/-- The open rank is after every rank there is. -/
theorem lt_nextRank {l : List Order} {p : Order} (h : p ∈ l) : p.rank < nextRank l :=
  Nat.lt_succ_of_le ((le_foldl_max (l.map (·.rank)) 0).2 _ (List.mem_map_of_mem h))

/-- The slots an accepted order is placed among leave room for it. -/
theorem slotsFor_room {u : OrderTable} (h8 : u.orders.length ≤ 8) (hf : ¬(8 ≤ u.orders.length ∧ ∀ o ∈ u.orders, o.status ≠ .ended)) :
    (slotsFor u).length < 9 ∧ (u.orders.length < 8 → slotsFor u = u.orders)
      ∧ (u.orders.length = 8 → ∃ e ∈ u.orders, e.status = .ended ∧ (∀ f ∈ u.orders, f.status = .ended → e.rank ≤ f.rank)
          ∧ slotsFor u = u.orders.filter (·.id ≠ e.id)) := by
  rcases slotsFor_cases u hf with ⟨hlt, e⟩ | ⟨hge, e, he⟩
  · exact ⟨by rw [e]; omega, fun _ => e, fun h => absurd h (by omega)⟩
  · refine ⟨?_, fun h => absurd h (by omega), fun _ => ⟨e, he⟩⟩
    rw [he.2.2.2]
    exact lt_of_le_of_lt (List.length_filter_le ..) (by omega)

/-- The id an accepted order takes. -/
def idTaken (u : OrderTable) : Nat := searchId ((slotsFor u).map (·.id)) 9 u.nextId

/-- The first candidate that no order left in the table has is taken. -/
theorem idTaken_first {u : OrderTable} (h : (slotsFor u).length < 9) : ∃ k, idTaken u = idAfter^[k] u.nextId
    ∧ (∀ j < k, ∃ p ∈ slotsFor u, p.id = idAfter^[j] u.nextId) ∧ ∀ p ∈ slotsFor u, p.id ≠ idTaken u := by
  obtain ⟨k, hk, htaken, hfree⟩ := searchId_free (ids := (slotsFor u).map (·.id)) (n := 9) (by simpa using h) (by omega) u.nextId
  exact ⟨k, hk, fun j hj => by simpa using htaken j hj, fun p hp e => hfree (by
    rw [← show p.id = searchId _ _ _ from e]; exact List.mem_map_of_mem hp)⟩

/-- The order an accepted OPEN ORDER opens. -/
def orderOpened (src : Source) (r : OpenOrderReq) (s : State) : Order :=
  newOrder src r (idTaken s.table) (nextRank (slotsFor s.table))

theorem exec_openOrder (hl : s.cal.loaded = true) (h : openOrderCheck r s = .none) : exec (.openOrder src r) s =
    .next (answered (.openOrder src r) src (if wasClamped r then .acceptedClamped else .accepted) (bytesOf 2 (idTaken s.table))
      { s with table := { nextId := idAfter (idTaken s.table), orders := slotsFor s.table ++ [orderOpened src r s] } }) :=
  served hl (by simp only [decideOpenOrder, h]; rfl)

/-- Settles O23: a free id is among the first candidates, since the slots left are fewer than the candidates tried. -/
theorem openOrderIsCheckedAndOpened : Obligations.OpenOrderIsCheckedAndOpened := by
  intro src r s hl badValue badStation full asked param window bandW limit moved altered status refused
  have refuses {st : Status} (h : openOrderCheck r s = .some st) : refused st := served hl (by simp only [decideOpenOrder, h]; rfl)
  refine ⟨fun hv => refuses (openOrderCheck_badValue hv), fun hv hs => refuses (openOrderCheck_badStation hv hs),
    fun hv hs hf => refuses ((openOrderCheck_slots hv hs).trans (if_pos hf)), fun hv hs hf => ?_⟩
  have hp := clampParams_asked r
  have halt : wasClamped r = altered := by
    rw [Bool.eq_iff_iff, wasClamped_iff, hp]
    simp only [altered, moved, Bool.or_eq_true, decide_eq_true_eq, or_assoc]
    exact Iff.rfl
  have opened := exec_openOrder (src := src) hl ((openOrderCheck_slots hv hs).trans (if_neg hf))
  rw [halt] at opened
  refine ⟨⟨_, _, opened⟩, fun h h1 h2 => ?_⟩
  obtain ⟨hlen, hroom, hended⟩ := slotsFor_room (headOk_iff.1 h).books.head.slots hf
  obtain ⟨k, hk, htaken, hfree⟩ := idTaken_first hlen
  refine ⟨slotsFor s.table, k, orderOpened src r s, opened, hroom, hended, hk, htaken, fun p hp => ⟨hfree p hp, lt_nextRank hp⟩, ?_⟩
  have hcodes : r.method ≤ 1 ∧ r.mode ≤ 1 := by
    simp only [badValue, not_or, Nat.not_lt] at hv
    exact ⟨hv.2.1, hv.2.2.1⟩
  have hmethod : (orderOpened src r s).method = if r.method = 0 then .vickers else .knoop :=
    congrArg (Option.getD · _) (methodOfCode_some hcodes.1)
  have hmode : (orderOpened src r s).mode = if r.mode = 0 then .immediate else .deferred :=
    congrArg (Option.getD · _) (modeOfCode_some hcodes.2)
  refine ⟨orderKindOfCode_getD _, hmethod, rfl, rfl, rfl, hmode, halt, rfl, rfl, rfl, rfl, rfl, rfl, rfl, rfl, rfl, rfl, rfl, rfl,
    rfl, rfl, rfl, rfl, rfl, rfl, rfl, rfl, rfl, rfl, rfl, rfl, congrArg (·.dwell) hp, congrArg (·.ramp) hp, congrArg (·.window) hp,
    congrArg (·.starvation) hp, congrArg (·.lowWater) hp, congrArg (·.threshold) hp, congrArg (·.bandW) hp, congrArg (·.rh) hp,
    congrArg (·.rv) hp, congrArg (·.contrast) hp, congrArg (·.asymmetry) hp, congrArg (·.offCentre) hp,
    congrArg (·.frameLimit) hp, rfl, rfl, rfl⟩

end Sys2Proof.Proofs.Orders

/-! # CANCEL ORDER refused, or acting on the work in hand (R25 to R27) -/

namespace Sys2Proof.Proofs.Orders
open Sys2Proof Sys2Proof.Machine

variable {s : State} {o : Order} {src : Source} {id : Nat}

theorem abortingRetract_eq (s : State) : abortingRetract s = (abortReasonHeld s).isSome := by
  unfold abortingRetract abortReasonHeld
  by_cases h : s.seq.state = .retract
  · rw [h]
    cases s.seq.purpose with
    | none => rfl
    | some p => cases p <;> rfl
  · cases hs : s.seq.state <;> simp_all

/-- Stopping the stage writes its pin alone. -/
theorem stopStage_eq (s : State) : stopStage s =
    { s with pins := if s.seq.stageOutstanding then { s.pins with stage := .stop } else s.pins } := by
  unfold stopStage
  split <;> rfl

theorem enterRetract_eq (p : RetractPurpose) (s : State) : enterRetract p s =
    { s with seq := { s.seq with state := .retract, purpose := .some p, timers := { s.seq.timers with retract := .some 5000 } }
             force := { s.force with setPoint := 0 } } := rfl

theorem enterUnload_eq (s : State) : enterUnload s =
    { s with seq := { s.seq with state := .unload, timers := { s.seq.timers with unload := .some 5000 } }
             force := { s.force with setPoint := 0 } } := rfl

/-! ## The cancel by the sequencer's state, no stop in progress (R26) -/

section
variable (hk : s.seq.stopFlag = false)
include hk

theorem cancelOwner_moveIndent (hs : s.seq.state = .moveIndent) : cancelOwner o s =
    enterRetract .cancel (stopMoveTimers (stopStage (markCancel o s))) := by
  simp [cancelOwner, hk, hs]

theorem cancelOwner_tare (hs : s.seq.state = .tare) : cancelOwner o s = enterRetract .cancel (markCancel o s) := by
  simp [cancelOwner, hk, hs]

theorem cancelOwner_approach (hs : s.seq.state = .approach) : cancelOwner o s =
    enterRetract .cancel ((markCancel o s).modTimers fun t => { t with approach := .none }) := by
  simp [cancelOwner, hk, hs]

theorem cancelOwner_forcing (hs : s.seq.state ∈ [.ramp, .dwell]) : cancelOwner o s = enterUnload (markCancel o s) := by
  simp only [List.mem_cons, List.not_mem_nil, or_false] at hs
  rcases hs with hs | hs <;> simp [cancelOwner, hk, hs]

theorem cancelOwner_runsOn (hs : s.seq.state ∈ [.unload, .moveView, .settle, .focus, .measure, .retract]) : cancelOwner o s =
    markCancel o s := by
  simp only [List.mem_cons, List.not_mem_nil, or_false] at hs
  rcases hs with hs | hs | hs | hs | hs | hs <;> simp [cancelOwner, hk, hs]

theorem cancelOwner_awaitPoints (hs : s.seq.state = .awaitPoints) : cancelOwner o s =
    cancelNow o (stopStarvation (markCancel o s)) := by
  simp [cancelOwner, hk, hs]

theorem cancelOwner_storeWait (hs : s.seq.state = .storeWait) : cancelOwner o s = cancelNow o (markCancel o s) := by
  simp [cancelOwner, hk, hs]

theorem cancelOwner_paused (hs : s.seq.state = .paused) : cancelOwner o s =
    cancelNow o (recordCurrent o .unmeasured .cancelled (markCancel o s)) := by
  simp [cancelOwner, hk, hs]

theorem cancelOwner_reviewWait (hs : s.seq.state = .reviewWait) : cancelOwner o s =
    cancelNow o (closeReview .cancelled (Record.unmeasured .cancelled) (markCancel o s)) := by
  simp [cancelOwner, hk, hs]

end

/-- Settles O26: the refusals, then the cancel of the head owner by the sequencer's state. -/
theorem cancelActsOnTheWorkInHand : Obligations.CancelActsOnTheWorkInHand := by
  refine ⟨?_, fun src id s hl => ?_⟩
  · intro src id o s hl hf ha ho leaves s1 retract acts
    obtain ⟨-, rfl⟩ := findOrder_some hf
    have live : o.status ≠ .ended ∧ o.status ≠ .opened := by rcases ha with h | h <;> simp [h]
    have accepted : leaves (cancelEffect o s) :=
      served hl (by simp [decideCancel, liveOrder_owned hf live.1 ho, Answer.accept])
    have acting {t : State} (h : acts) (e : cancelOwner o s = t) : leaves t := by
      have : cancelEffect o s = cancelOwner o s := by
        rw [cancelEffect, if_neg live.2, if_neg]
        simp [abortingRetract_eq, h.1, h.2]
      rwa [← e, ← this]
    have retracts {p : Pins} {k : CycleTimers} : enterRetract .cancel { s1 with pins := p, seq := { s.seq with timers := k } } = retract p k :=
      rfl
    refine ⟨fun h => ?_, fun h hk => acting h (if_pos hk), fun h hk hs => acting h ?_, fun h hk hs => acting h ?_,
      fun h hk hs => acting h ?_, fun h hk hs => acting h ?_, fun h hk hs => acting h ?_, fun h hk hs => acting h ?_,
      fun h hk hs => acting h ?_, fun h hk hs => acting h ?_, fun h hk hs => acting h ?_⟩
    · have : cancelEffect o s = s := by
        rw [cancelEffect, if_neg live.2, if_pos]
        simpa [abortingRetract_eq] using h
      rwa [this] at accepted
    · rw [cancelOwner_moveIndent hk hs, stopStage_eq]; exact retracts
    · rw [cancelOwner_tare hk hs]; exact retracts
    · rw [cancelOwner_approach hk hs]; exact retracts
    · rw [cancelOwner_forcing hk hs]; rfl
    · rw [cancelOwner_runsOn hk hs]; rfl
    · rw [cancelOwner_awaitPoints hk hs]; rfl
    · rw [cancelOwner_storeWait hk hs]; rfl
    · rw [cancelOwner_paused hk hs]; rfl
    · rw [cancelOwner_reviewWait hk hs]; rfl
  · intro refused
    have refuses {st : Status} (h : liveOrder src id s = .error st) : refused st :=
      served hl (by simp [decideCancel, h, Answer.refuse])
    exact ⟨fun h => refuses (liveOrder_none (findOrder_none h)), fun o hf =>
      ⟨fun he => refuses (liveOrder_ended hf he), fun he ho => refuses (liveOrder_notOwner hf he ho)⟩⟩

end Sys2Proof.Proofs.Orders

/-! # Records written at an order's end, one behind the other (R27, R67, R140, R145) -/

namespace Sys2Proof.Proofs.Orders
open Sys2Proof Sys2Proof.Machine

variable {s t u : State} {o : Order} {l m : List Record} {r : Record}

/-- A record without a measurement: UNMEASURED or SKIPPED, with neither hardness nor verdict (R136). -/
structure Plain (r : Record) : Prop where
  hardness : r.hardness = .none
  verdict : r.verdict = .none
  state : r.state = .unmeasured ∨ r.state = .skipped

theorem recordOf_plain {c : CurPoint} {st : RecState} {why : Reason} (h : st = .unmeasured ∨ st = .skipped) :
    Plain (recordOf o c st why s) := ⟨rfl, rfl, h⟩

/-- An order once the records `l` are written for it under the numbers from `first` on (R140, R148). -/
def noted (l : List Record) (first : Nat) (x : Order) : Order :=
  { x with
    counts := { x.counts with
      unmeasured := x.counts.unmeasured + l.countP (·.state = .unmeasured)
      skipped := x.counts.skipped + l.countP (·.state = .skipped) }
    firstSeq := if l = [] then x.firstSeq else .some (x.firstSeq.getD first)
    lastSeq := if l = [] then x.lastSeq else .some (first + l.length - 1) }

theorem noted_nil (first : Nat) (x : Order) : noted [] first x = x := rfl

theorem noted_append (l m : List Record) (first : Nat) (x : Order) :
    noted m (first + l.length) (noted l first x) = noted (l ++ m) first x := by
  have hf : (if m = [] then if l = [] then x.firstSeq else .some (x.firstSeq.getD first)
      else .some ((if l = [] then x.firstSeq else .some (x.firstSeq.getD first)).getD (first + l.length)))
        = if l ++ m = [] then x.firstSeq else .some (x.firstSeq.getD first) := by
    cases l <;> cases m <;> simp
  have hq : (if m = [] then if l = [] then x.lastSeq else .some (first + l.length - 1)
      else .some (first + (l.length + m.length) - 1)) = if l ++ m = [] then x.lastSeq else .some (first + (l.length + m.length) - 1) := by
    cases l <;> cases m <;> simp
  simp only [noted, hf, hq, List.countP_append, List.length_append, Nat.add_assoc]

/-- A plain record is counted and nothing else is drawn from it. -/
theorem reportRecord_plain (h : Plain r) (n : Nat) (x : Order) : reportRecord { r with seq := n } (noteSeq n x) = noted [r] n x := by
  have e : reportRecord { r with seq := n } (noteSeq n x) =
      { noteSeq n x with counts := countRecord { r with seq := n } x.counts } := by
    simp [reportRecord, h.hardness, noteSeq]
  rw [e]
  rcases h.state with hs | hs <;> simp [countRecord, noted, noteSeq, hs, h.verdict]

/-- The store and the origin port after the records `l` of order `o`, its RESULTS WAITING posted at most once on the way. -/
structure Wrote (o : Order) (l : List Record) (s t : State) : Prop where
  nextId : t.table.nextId = s.table.nextId
  orders : t.table.orders = s.table.orders.map fun x => if x.id = o.id then noted l s.store.nextSeq x else x
  records : t.store.records = s.store.records ++ l.mapIdx fun i r => { r with seq := s.store.nextSeq + i }
  nextSeq : t.store.nextSeq = s.store.nextSeq + l.length
  waiting : t.store.waiting o.origin = s.store.waiting o.origin + l.length
  waitingOther : t.store.waiting o.origin.other = s.store.waiting o.origin.other
  armedOther : t.store.armed o.origin.other = s.store.armed o.origin.other
  portOther : t.port o.origin.other = s.port o.origin.other
  early : ∃ early : List Notice, t.port o.origin = early.foldl (fun q n => q.post n) (s.port o.origin) ∧ early.length ≤ 1
    ∧ (∀ n ∈ early, n.kind = .resultsWaiting ∧ n.orderId = o.id) ∧ (l = [] → early = [])
    ∧ (t.store.armed o.origin = true → s.store.armed o.origin = true ∧ early = [])
    ∧ (s.store.armed o.origin = false → early = [])

/-- Nothing written, and nothing changed that a write changes. -/
theorem Wrote.nothing (ht : t.table = s.table) (hs : t.store = s.store) (hp : ∀ p, t.port p = s.port p) : Wrote o [] s t := by
  refine ⟨by rw [ht], by simp [noted_nil, ht], by simp [hs], by simp [hs], by simp [hs], by rw [hs], by rw [hs], hp _, [], hp _, by simp, by simp,
    fun _ => rfl, fun h => ⟨by rwa [hs] at h, rfl⟩, fun _ => rfl⟩

theorem Wrote.trans (h : Wrote o l s t) (k : Wrote o m t u) : Wrote o (l ++ m) s u := by
  obtain ⟨a, ha, ha1, hak, hal, haa, has⟩ := h.early
  obtain ⟨b, hb, hb1, hbk, hbl, hba, hbs⟩ := k.early
  refine ⟨k.nextId.trans h.nextId, ?_, ?_, by rw [k.nextSeq, h.nextSeq]; simp [Nat.add_assoc], by rw [k.waiting, h.waiting]; simp [Nat.add_assoc],
    k.waitingOther.trans h.waitingOther, k.armedOther.trans h.armedOther, k.portOther.trans h.portOther, a ++ b, ?_, ?_, ?_, ?_, ?_, ?_⟩
  · rw [k.orders, h.orders, h.nextSeq, List.map_map]
    refine List.map_congr_left fun x _ => ?_
    by_cases e : x.id = o.id
    · simp only [Function.comp, if_pos e, noted_append]; exact if_pos e
    · simp [e]
  · rw [k.records, h.records, h.nextSeq, List.mapIdx_append, List.append_assoc]
    congr 3
    funext i r
    rw [Nat.add_assoc, Nat.add_comm i]
  · rw [hb, ha, List.foldl_append]
  · rcases Bool.eq_false_or_eq_true (t.store.armed o.origin) with e | e
    · simpa [(haa e).2] using hb1
    · simpa [hbs e] using ha1
  · exact fun n hn => (List.mem_append.1 hn).elim (hak n) (hbk n)
  · intro e
    obtain ⟨el, em⟩ := List.append_eq_nil_iff.1 e
    rw [hal el, hbl em]; rfl
  · intro e
    obtain ⟨et, eb⟩ := hba e
    obtain ⟨es, ea⟩ := haa et
    exact ⟨es, by rw [ea, eb]; rfl⟩
  · intro e
    have et : t.store.armed o.origin = false := Bool.eq_false_iff.2 fun h => by simp [(haa h).1] at e
    rw [has e, hbs et]; rfl

theorem writeRecord_plain (h : Plain r) : writeRecord o r s =
    updOrder o.id (reportRecord { r with seq := s.store.nextSeq })
      (countWaiting o s.store.nextSeq (updOrder o.id (noteSeq s.store.nextSeq) (appendRecord r s))) :=
  if_neg (by rcases h.state with e | e <;> simp [e])

/-- Counting a record for a port leaves the other port alone, and may post RESULTS WAITING where the flag is armed. -/
theorem countWaiting_ports (o : Order) (n : Nat) (s : State) :
    (countWaiting o n s).store.waiting o.origin.other = s.store.waiting o.origin.other
      ∧ (countWaiting o n s).store.armed o.origin.other = s.store.armed o.origin.other
      ∧ (countWaiting o n s).port o.origin.other = s.port o.origin.other
      ∧ (((countWaiting o n s).port o.origin = s.port o.origin
            ∧ (countWaiting o n s).store.armed o.origin = s.store.armed o.origin)
          ∨ ∃ v, (countWaiting o n s).port o.origin = (s.port o.origin).post (orderNotice .resultsWaiting o n v)
            ∧ (countWaiting o n s).store.armed o.origin = false ∧ s.store.armed o.origin = true) := by
  unfold countWaiting
  dsimp only
  split
  · next h =>
    rw [Bool.and_eq_true] at h
    cases ho : o.origin <;> rw [ho] at h <;> simp only [postResultsWaiting, ho] <;>
      exact ⟨rfl, rfl, rfl, .inr ⟨_, rfl, rfl, h.1⟩⟩
  · cases o.origin <;> exact ⟨rfl, rfl, rfl, .inl ⟨rfl, rfl⟩⟩

/-- One plain record written. -/
theorem writeRecord_wrote (h : Plain r) : Wrote o [r] s (writeRecord o r s) := by
  obtain ⟨hrec, hnext, hwA, hwB⟩ := writeRecord_store o r s
  refine ⟨?_, ?_, by simpa using hrec, hnext, ?_, ?_, ?_, ?_, ?_⟩
  · rw [writeRecord_plain h]
    simp [updOrder, State.modTable, appendRecord]
  · rw [writeRecord_orders]
    refine List.map_congr_left fun x _ => ?_
    by_cases e : x.id = o.id
    · rw [if_pos e, if_pos e, if_neg (by rcases h.state with e | e <;> simp [e]), reportRecord_plain h]
    · simp [e]
  · cases ho : o.origin <;> simp_all [ResultStore.waiting]
  · cases ho : o.origin <;> simp_all [ResultStore.waiting, Port.other]
  all_goals
    obtain ⟨hwo, hao, hpo, hown⟩ := countWaiting_ports o s.store.nextSeq (updOrder o.id (noteSeq s.store.nextSeq) (appendRecord r s))
    rw [writeRecord_plain h]
  · exact hao
  · exact hpo
  · rcases hown with ⟨hp, ha⟩ | ⟨v, hp, ha, hs⟩
    · exact ⟨[], hp, by simp, by simp, fun _ => rfl, fun e => ⟨ha ▸ e, rfl⟩, fun _ => rfl⟩
    · exact ⟨[_], hp, le_rfl, by simp [orderNotice], by simp, fun e => absurd (ha.symm.trans e) (by simp),
        fun e => absurd (hs.symm.trans e) (by simp)⟩

/-- What a change of neither table, store nor ports follows. -/
theorem Wrote.followed (h : Wrote o l s t) (ht : u.table = t.table) (hs : u.store = t.store) (hA : u.portA = t.portA)
    (hB : u.portB = t.portB) : Wrote o l s u := by
  simpa using h.trans (.nothing ht hs fun p => by cases p <;> assumption)

theorem recordOf_cal {c : CurPoint} {st : RecState} {why : Reason} (h : t.cal = s.cal) :
    recordOf o c st why t = recordOf o c st why s := by
  simp only [recordOf, h]

theorem recordCurrent_wrote {st : RecState} {why : Reason} (h : st = .unmeasured ∨ st = .skipped) :
    Wrote o (s.seq.cur.toList.map fun c => recordOf o c st why s) s (recordCurrent o st why s) := by
  rcases recordCurrent_cases o st why s with ⟨hc, e⟩ | ⟨c, hc, e⟩
  · rw [e, hc]; exact .nothing rfl rfl fun _ => rfl
  · rw [e, hc]; exact (writeRecord_wrote (recordOf_plain h)).followed rfl rfl rfl rfl

theorem recordImpressions_wrote (why : Reason) (l : List Impression) (s : State) :
    Wrote o (l.map fun i => recordOf o (CurPoint.ofImpression i) .unmeasured why s) s (recordImpressions o why l s) := by
  induction l generalizing s with
  | nil => exact .nothing rfl rfl fun _ => rfl
  | cons i l ih =>
    have first := writeRecord_wrote (o := o) (s := s) (recordOf_plain (o := o) (s := s) (c := CurPoint.ofImpression i) (why := why) (.inl rfl))
    have rest := ih (writeRecord o (recordOf o (CurPoint.ofImpression i) .unmeasured why s) s)
    simp only [recordOf_cal (writeRecord_frame o _ s).2.2.2.2.2.2.2.2.1] at rest
    exact first.trans rest

theorem flushImpressions_wrote (why : Reason) (s : State) :
    Wrote o (s.seq.impressions.map fun i => recordOf o (CurPoint.ofImpression i) .unmeasured why s) s
      (flushImpressions o why s) :=
  (recordImpressions_wrote why s.seq.impressions s).followed rfl rfl rfl rfl

end Sys2Proof.Proofs.Orders

/-! # The end of an order (R9, R27, R151, R152) -/

namespace Sys2Proof.Proofs.Orders
open Sys2Proof Sys2Proof.Machine

variable {s t u : State} {o : Order} {l : List Record} {out : OrderOutcome} {why : Option AbortReason}

theorem summaryOf_eq (o : Order) (out : OrderOutcome) (why : Option AbortReason) : summaryOf o out why = endSummary o out why := by
  cases hc : o.caseLimit with
  | none => simp [summaryOf, endSummary, settleCase, hc, measuredCount, roundHalfUp]
  | some c =>
    cases hx : o.crossingFound with
    | true => simp [summaryOf, endSummary, settleCase, hc, hx, measuredCount, roundHalfUp]
    | false =>
      by_cases hn : o.counts.auto + o.counts.manual < 2
      · simp [summaryOf, endSummary, settleCase, hc, hx, measuredCount, roundHalfUp, hn, Nat.not_le.2 hn]
      · simp [summaryOf, endSummary, settleCase, hc, hx, measuredCount, roundHalfUp, hn, Nat.not_lt.1 hn]

/-- An order that ends with the records `l` written last. -/
theorem ending_noted (o : Order) (out : OrderOutcome) (why : Option AbortReason) (l : List Record) (first : Nat) :
    ending out why (discarding (noted l first o)) = endedOrder o out why l first := by
  simp only [ending, summaryOf_eq]; rfl

/-- Notices to a queue with room for all of them are at its back. -/
theorem foldl_post_room {q : LinkPort} {l : List Notice} (h : q.notices.length + l.length ≤ 32) (hl : l ≠ []) :
    l.foldl (fun q n => q.post n) q = { q with notices := q.notices ++ l, attention := true } := by
  induction l generalizing q with
  | nil => exact absurd rfl hl
  | cons n l ih =>
    simp only [List.length_cons] at h
    rw [List.foldl_cons, LinkPort.post_room (by omega)]
    cases l with
    | nil => rfl
    | cons m l => rw [ih (by simp at *; omega) (by simp)]; simp

/-! ## An order ended, its points discarded -/

/-- Two notices posted to a port, its RESULTS WAITING then disarmed. -/
def endPosted (p : Port) (n m : Notice) (s : State) : State :=
  (postTo p m (postTo p n s)).modStore (·.setArmed p false)

theorem endPosted_rest (p : Port) (n m : Notice) (s : State) : (endPosted p n m s).table = s.table
    ∧ (endPosted p n m s).poolFree = s.poolFree ∧ (endPosted p n m s).store = s.store.setArmed p false
    ∧ (endPosted p n m s).port p = [n, m].foldl (fun q n => q.post n) (s.port p)
    ∧ (endPosted p n m s).port p.other = s.port p.other := by
  cases p <;> exact ⟨rfl, rfl, rfl, rfl, rfl⟩

/-- An order ended: its notices go to its origin port (R146). -/
theorem endOrder_eq {id : Nat} (h : findOrder id s = .some o) : endOrder id out why s =
    endPosted o.origin (orderNotice .orderEnded o (orZero o.lastSeq) (endedValue out why))
      (orderNotice .resultsWaiting o (orZero o.lastSeq) (s.store.waiting o.origin)) (updOrder id (ending out why) s) := by
  have store (p : Port) (n : Notice) (u : State) : (postTo p n u).store = u.store := State.modPort_store ..
  simp only [endOrder, h, postResultsWaiting, store]
  rfl

/-- What the end of an order changes, its listed points discarded before. -/
structure WoundUp (o : Order) (out : OrderOutcome) (why : Option AbortReason) (s t : State) : Prop where
  nextId : t.table.nextId = s.table.nextId
  orders : t.table.orders = s.table.orders.map fun x => if x.id = o.id then ending out why (discarding x) else x
  poolFree : t.poolFree = s.poolFree + o.points.length
  store : t.store = s.store.setArmed o.origin false
  port : t.port o.origin = [orderNotice .orderEnded o (orZero o.lastSeq) (endedValue out why),
    orderNotice .resultsWaiting o (orZero o.lastSeq) (s.store.waiting o.origin)].foldl (fun q n => q.post n) (s.port o.origin)
  portOther : t.port o.origin.other = s.port o.origin.other

/-- The end of the order found under an id, told by an order of the same points. -/
theorem endOrder_woundUp {x : Order} (h : findOrder o.id s = .some x) (hp : x.points = o.points) :
    WoundUp x out why s (endOrder o.id out why (discardPoints o s)) := by
  have hid : x.id = o.id := (findOrder_some h).2
  have hf : findOrder o.id (discardPoints o s) = .some (discarding x) := by
    rw [discardPoints_eq, findOrder_updOrder _ discarding fun _ => rfl]
    simp [h]
  obtain ⟨ht, hpool, hs, hq, hother⟩ := endPosted_rest x.origin
    (orderNotice .orderEnded x (orZero x.lastSeq) (endedValue out why))
    (orderNotice .resultsWaiting x (orZero x.lastSeq) (s.store.waiting x.origin))
    (updOrder o.id (ending out why) (discardPoints o s))
  have e : endOrder o.id out why (discardPoints o s) = _ := endOrder_eq hf
  change endOrder o.id out why (discardPoints o s) = endPosted x.origin
    (orderNotice .orderEnded x (orZero x.lastSeq) (endedValue out why))
    (orderNotice .resultsWaiting x (orZero x.lastSeq) (s.store.waiting x.origin))
    (updOrder o.id (ending out why) (discardPoints o s)) at e
  rw [e]
  refine ⟨by rw [ht]; rfl, ?_, by rw [hpool, hp]; rfl, hs, hq, hother⟩
  rw [ht, discardPoints_eq, ← hid]
  simp only [updOrder_orders, List.map_map, State.setPoolFree]
  refine List.map_congr_left fun z _ => ?_
  by_cases e : z.id = x.id <;> simp [e, discarding]

/-! ## The head owner ended and the head released -/

/-- The order of an id once records are written for it. -/
theorem Wrote.findOrder (h : Wrote o l s u) (hf : findOrder o.id s = .some o) :
    findOrder o.id u = .some (noted l s.store.nextSeq o) := by
  rw [findOrder_of_map (g := fun x => if x.id = o.id then noted l s.store.nextSeq x else x) (fun x => by split <;> rfl) h.orders, hf]
  simp

theorem setArmed_self (t : ResultStore) (p : Port) (b : Bool) : (t.setArmed p b).armed p = b := by cases p <;> rfl

theorem setArmed_other (t : ResultStore) (p : Port) (b : Bool) : (t.setArmed p b).armed p.other = t.armed p.other := by cases p <;> rfl

/-- The blocks that the cycle leaves as they were. -/
theorem eq_withCycle (h1 : t.straps = s.straps) (h2 : t.cap = s.cap) (h3 : t.engine = s.engine) (h4 : t.desk = s.desk)
    (h5 : t.cal = s.cal) (h6 : t.inputs = s.inputs) (h7 : t.lamps = s.lamps) (h8 : t.pending = s.pending) : t = s.withCycle t :=
  State.eq_of_blocks rfl rfl h1 rfl rfl rfl rfl rfl h2 h3 h4 rfl h5 h6 h7 rfl h8

theorem withCycle_trans (h : u = s.withCycle u) (k : t = u.withCycle t) : t = s.withCycle t :=
  k.trans (congrArg (·.withCycle t) h)

theorem table_eq {t : OrderTable} {m : Nat} {x : List Order} (h1 : t.nextId = m) (h2 : t.orders = x) : t = ⟨m, x⟩ := by
  rw [← h1, ← h2]

theorem releaseHead_port (s : State) (p : Port) : (releaseHead s).port p = s.port p := by cases p <;> rfl

/-- The owner ended behind the records `l`, its points discarded and the head released. -/
theorem headEnded_of_wrote (h : Wrote o l s u) (hn : (s.table.orders.map (·.id)).Nodup) (ho : ownerOf s = .some o)
    (hc : u = s.withCycle u) (ha : u.arb = s.arb) (hp : u.poolFree = s.poolFree) (hpin : u.pins = s.pins) (hf : u.force = s.force)
    (hq : { u.seq with cur := .none, impressions := [] } = { s.seq with cur := .none, impressions := [] }) :
    headEnded o out why l s (releaseHead (endOrder o.id out why (discardPoints o u))) := by
  have hfound := findOrder_eq hn (ownerOf_some ho).1
  obtain ⟨wnext, worders, wpool, wstore, wport, wother⟩ :=
    endOrder_woundUp (out := out) (why := why) (h.findOrder hfound) (show (noted l s.store.nextSeq o).points = o.points from rfl)
  generalize he : endOrder o.id out why (discardPoints o u) = e at *
  unfold headEnded
  intro first y about old
  refine ⟨?_, ?_, ?_, ?_, ?_, ?_, ?_, ?_, ?_, ?_, ?_, ?_, ?_, ?_, ?_⟩
  · refine withCycle_trans hc (eq_withCycle ?_ ?_ ?_ ?_ ?_ ?_ ?_ ?_) <;> simp [← he]
  · refine table_eq (wnext.trans h.nextId) (worders.trans ?_)
    rw [h.orders, List.map_map]
    refine List.map_congr_left fun x hx => ?_
    by_cases hid : x.id = o.id
    · obtain rfl := eq_of_id_eq hn hx (ownerOf_some ho).1 hid
      simp only [Function.comp, if_pos]
      exact ending_noted ..
    · simp only [Function.comp, if_neg hid]
      exact if_neg hid
  · simp [← he, ha]
  · exact wpool.trans (by rw [hp]; rfl)
  · simp [← he, hpin]
  · have hs : e.seq = u.seq := by simp [← he]
    rw [releaseHead_seq, hs]
    exact congrArg (fun q => { q with state := .idle, round := .indent, purpose := .none, stopFlag := false }) hq
  · simp [← he, hf]
  · exact (congrArg ResultStore.records wstore).trans (by rw [(setArmed_rest _ _ _).1, h.records])
  · exact (congrArg ResultStore.nextSeq wstore).trans (by rw [(setArmed_rest _ _ _).2.1, h.nextSeq])
  · exact (congrArg (ResultStore.waiting · _) wstore).trans (by simpa using h.waiting)
  · exact (congrArg (ResultStore.armed · _) wstore).trans (setArmed_self ..)
  · exact (congrArg (ResultStore.waiting · _) wstore).trans (by simpa using h.waitingOther)
  · exact (congrArg (ResultStore.armed · _) wstore).trans ((setArmed_other ..).trans h.armedOther)
  · exact (releaseHead_port ..).trans (wother.trans h.portOther)
  · intro hroom
    obtain ⟨early, hearly, hlen, hkind, hnone, -, harmed⟩ := h.early
    refine ⟨early, ?_, hlen, hkind, fun hq => hq.elim harmed hnone⟩
    have two : (releaseHead e).port o.origin = (early ++ [about .orderEnded (endedValue out why),
        about .resultsWaiting (s.store.waiting o.origin + l.length)]).foldl (fun q n => q.post n) old := by
      rw [releaseHead_port, List.foldl_append, ← hearly, ← h.waiting]
      exact wport
    rw [two, foldl_post_room (by simp; omega) (by simp), List.append_assoc]

end Sys2Proof.Proofs.Orders

/-! # The cancel of an OPEN order, the cancel's completion and the abort records (R25, R27, R67) -/

namespace Sys2Proof.Proofs.Orders
open Sys2Proof Sys2Proof.Machine

variable {s : State} {o : Order}

/-- The completed cancel of the owner, up to the grant it considers. -/
theorem completeCancel_ended (h : s.HeadOk) (ho : ownerOf s = .some o) : ∃ t : State, completeCancel o s = considerGrant t
    ∧ headEnded o .cancelled .none
        (s.seq.impressions.map fun i => recordOf o (CurPoint.ofImpression i) .unmeasured .cancelled s) s t := by
  have rest : flushImpressions o .cancelled s = s.withCycle (flushImpressions o .cancelled s) := by apply eq_withCycle <;> simp
  exact ⟨_, rfl, headEnded_of_wrote (flushImpressions_wrote .cancelled s) (headOk_iff.1 h).books.head.ids ho rest (by simp) (by simp)
    (by simp) (by simp) (by simp)⟩

/-- Settles O25: an OPEN order has nothing in hand; the head owner's impressions are recorded before it ends. -/
theorem cancelEndsAnOpenOrder : Obligations.CancelEndsAnOpenOrder := by
  refine ⟨?_, fun o s h ho => completeCancel_ended h ho⟩
  intro src id o s hl h hf hs ho hr counts n m
  have hids := (headOk_iff.1 h).books.head.ids
  obtain ⟨hm, rfl⟩ := findOrder_some hf
  obtain ⟨wnext, worders, wpool, wstore, wport, wother⟩ :=
    endOrder_woundUp (out := .cancelled) (why := .none) hf rfl
  have accepted : exec (.cancelOrder src o.id) s =
      .next (answered (.cancelOrder src o.id) src .accepted [] (endOrder o.id .cancelled .none (discardPoints o s))) :=
    served hl (by simp [decideCancel, liveOrder_owned hf (by simp [hs]) ho, Answer.accept, cancelEffect, hs])
  generalize he : endOrder o.id .cancelled .none (discardPoints o s) = t at *
  rw [ho] at wstore wport wother
  refine ⟨t, accepted, table_eq wnext (worders.trans ?_), wpool, wstore, wport.trans ?_, wother, ?_⟩
  · refine List.map_congr_left fun x hx => ?_
    by_cases hid : x.id = o.id
    · rw [eq_of_id_eq hids hx hm hid]
      simp only [if_pos, ending, summaryOf_eq]
      rfl
    · rw [if_neg hid, if_neg hid]
  · rw [foldl_post_room (by simpa using hr) (by simp)]
    simp only [orderNotice, ho]; rfl
  · exact State.eq_of_blocks rfl rfl (by simp [← he]) rfl (by simp [← he]) rfl (by simp [← he]) (by simp [← he]) (by simp [← he])
      (by simp [← he]) (by simp [← he]) rfl (by simp [← he]) (by simp [← he]) (by simp [← he]) (by simp [← he]) (by simp [← he])

end Sys2Proof.Proofs.Orders

/-! # The abort path (R52, R66, R67, R98, R131, R133) -/

namespace Sys2Proof.Proofs.Orders
open Sys2Proof Sys2Proof.Machine

variable {s : State} {o : Order} {why : AbortReason}

/-! ## The abort records (R67) -/

/-- The record of the current point of an aborted owner, where there is a point. -/
theorem gathered_written (o : Order) (s : State) :
    ((gathered s).seq.cur.toList.map fun c => recordOf o c (abortState s) .aborted (gathered s))
      = s.seq.cur.toList.map fun c => recordOf o (abortPoint s.force c) (if c.indented then .unmeasured else .skipped) .aborted s := by
  rw [show (gathered s).seq.cur = s.seq.cur.map (abortPoint s.force) from rfl, abortState]
  cases s.seq.cur <;> rfl

theorem abortPoint_eq (f : ForceMonitor) (c : CurPoint) : abortPoint f c =
    if c.indented = true ∧ c.handed = false then
      { c with peak := f.peak, achieved := f.dwellCount / 100, deviation := f.deviation, framesUsed := 0, softFocus := false }
    else { c with framesUsed := 0, softFocus := false } := by
  have e : (c.indented && !c.handed) = true ↔ c.indented = true ∧ c.handed = false := by simp
  simp only [abortPoint, e]
  split <;> rfl

/-- The abort records end the owner behind the records of its current point and its impressions. -/
theorem abortRecords_ended (h : s.HeadOk) (ho : ownerOf s = .some o) : ∃ t : State,
    abortRecords why s = afterGrant (considerGrant t)
      ∧ headEnded o .aborted (.some why)
          ((s.seq.cur.toList.map fun c => recordOf o (abortPoint s.force c) (if c.indented then .unmeasured else .skipped) .aborted s)
            ++ s.seq.impressions.map fun i => recordOf o (CurPoint.ofImpression i) .unmeasured .aborted s)
          { s with seq := { s.seq with timers := { s.seq.timers with retract := .none } } } t := by
  have hst : abortState s = .unmeasured ∨ abortState s = .skipped := by unfold abortState; split <;> simp
  have before : Wrote o [] { s with seq := { s.seq with timers := { s.seq.timers with retract := .none } } } (gathered s) :=
    .nothing rfl rfl fun p => by cases p <;> rfl
  have current : Wrote o _ (gathered s) (recordCurrent o (abortState s) .aborted (gathered s)) := recordCurrent_wrote hst
  have listed := flushImpressions_wrote (o := o) .aborted (recordCurrent o (abortState s) .aborted (gathered s))
  have hcal : (recordCurrent o (abortState s) .aborted (gathered s)).cal = s.cal := by simp [gathered]
  simp only [gathered_written] at current
  simp only [recordCurrent_seq, recordOf_cal hcal] at listed
  refine ⟨_, abortRecords_some why ho, headEnded_of_wrote ((before.trans current).trans listed) (headOk_iff.1 h).books.head.ids ho
    (eq_withCycle ?_ ?_ ?_ ?_ ?_ ?_ ?_ ?_) ?_ ?_ ?_ ?_ ?_⟩ <;> simp [gathered]

/-! ## The retract with purpose ABORT (R52, R66, R98, R133) -/

theorem halted_pins (s : State) :
    (halted s).pins = if s.seq.stageOutstanding then { s.pins with stage := .stop } else s.pins :=
  stopStage_pins _

theorem halted_rest (s : State) : (halted s).portA = s.portA ∧ (halted s).portB = s.portB ∧ (halted s).table = s.table
    ∧ (halted s).store = s.store ∧ (halted s).desk = s.desk := by simp [halted]

/-- The abort's retract over the halted work. -/
theorem enterRetract_halted (why : AbortReason) (s : State) : enterRetract (.abort why) (halted s) =
    { s with
      pins := if s.seq.stageOutstanding then { s.pins with stage := .stop } else s.pins
      cap := s.cap.stop, engine := .none, force := { s.force with setPoint := 0 }
      seq := { s.seq with
        state := .retract, purpose := .some (.abort why), stopFlag := false
        cur := s.seq.cur.map fun c => { c with framesUsed := 0, softFocus := false }
        timers := ⟨.none, .none, .none, .none, .some 5000, .none⟩ } } := by
  rw [enterRetract_eq]
  apply State.eq_of_blocks
  case h16 => exact halted_pins s
  all_goals simp [halted]

/-- A record of a store in order is the one found under its sequence number. -/
theorem findRecord_eq {x : Record} (h : StoreFits s.store) (hx : x ∈ s.store.records) : findRecord x.seq s = .some x := by
  have hn : (s.store.records.map (·.seq)).Nodup := h.increase.imp fun h => Nat.ne_of_lt h
  obtain ⟨y, hy⟩ : ∃ y, findRecord x.seq s = .some y :=
    Option.isSome_iff_exists.1 (List.find?_isSome.2 ⟨x, hx, by simp⟩)
  rw [hy, List.inj_on_of_nodup_map hn (List.mem_of_find?_eq_some hy) hx (by simpa using List.find?_some hy)]

/-- The close of an open review whose order is in the table, each port with room for its REVIEW CLOSED (R131). -/
theorem closeReview_eq {v : Review} {x : Record} {out : ReviewOutcome} {change : Record → Record} (hv : s.desk.review = .some v)
    (hx : findRecord v.seq s = .some x) (ho : findOrder v.orderId s = .some o) (hA : s.portA.notices.length < 32)
    (hB : s.portB.notices.length < 32) : closeReview out change s =
      let n : Notice := { kind := .reviewClosed, orderId := v.orderId, origin := .some o.origin, seq := v.seq
                          value := reviewOutcomeCode out }
      { s with
        portA := { s.portA with notices := s.portA.notices ++ [n], attention := true }
        portB := { s.portB with notices := s.portB.notices ++ [n], attention := true }
        desk := { review := .none, window := .none }
        table := { s.table with orders := s.table.orders.map fun y => if y.id = v.orderId then reportRecord (change x) y else y }
        store := { s.store with records := s.store.records.map fun y => if y.seq = v.seq then change y else y } } := by
  have hf : findOrder v.orderId (clearDesk (updOrder v.orderId (reportRecord (change x)) (s.modStore fun t =>
      { t with records := t.records.map fun y => if y.seq = v.seq then change y else y }))) = .some (reportRecord (change x) o) := by
    rw [findOrder_of_map (s := s) (g := fun y => if y.id = v.orderId then reportRecord (change x) y else y)
      (fun y => by split <;> simp) rfl, ho]
    simp [(findOrder_some ho).2]
  simp only [closeReview, hv, hx, postReviewClosed, hf, postBoth, postTo, Option.map_some, (reportRecord_rest _ _).2.1]
  apply State.eq_of_blocks
  case h1 => exact LinkPort.post_room hA
  case h2 => exact LinkPort.post_room hB
  all_goals rfl

/-- Settles O44: what the halt leaves is retracted, an open review closed over it; the abort records then end the order. -/
theorem abortPathBringsTheHeadToRest : Obligations.AbortPathBringsTheHeadToRest := by
  refine ⟨?_, fun why o s h ho => ?_⟩
  · intro why s hs free stopped retracts
    obtain ⟨o, ho⟩ := Option.isSome_iff_exists.1 hs
    have hret : enterRetract (.abort why) (halted s) = retracts := enterRetract_halted why s
    refine ⟨fun hq => by rw [abortPath_false why ho, if_neg hq, hret], ?_, abortPath_true why ho⟩
    intro v o' x hr hv ho' hx hxs hA hB x' n post
    obtain rfl : o' = o := Option.some.inj (ho'.symm.trans ho)
    have hrw : s.seq.state = .reviewWait := hr.2.2.1.1 (by simp [hv])
    have hown := (hr.2.2.2.2.2 v hv).1
    have hid : v.orderId = o'.id := Option.some.inj (hown.symm.trans (ownerOf_some ho).2)
    have hfo : findOrder v.orderId s = .some o' := by rw [hid]; exact findOrder_eq hr.1.1.2.1 (ownerOf_some ho).1
    have hfx : findRecord v.seq s = .some x := hxs ▸ findRecord_eq (storeOk_iff.1 hr.2.1) hx
    obtain ⟨eA, eB, et, es, ed⟩ := halted_rest s
    have hclose := closeReview_eq (s := halted s) (out := .aborted) (change := Record.unmeasured .aborted) (v := v) (o := o') (x := x)
      (by rw [ed]; exact hv) (by rw [findRecord, es]; exact hfx) (by rw [findOrder, et]; exact hfo) (by rwa [eA]) (by rwa [eB])
    have only : s.store.records.map (fun y => if y.seq = v.seq then Record.unmeasured .aborted y else y)
        = s.store.records.map fun y => if y.seq = v.seq then x' else y := List.map_congr_left fun y hy => by
      split
      · next e =>
        have hfy := findRecord_eq (storeOk_iff.1 hr.2.1) hy
        rw [e, hfx] at hfy
        rw [← Option.some.inj hfy]; rfl
      · rfl
    rw [eA, eB, et, es, hid, only] at hclose
    rw [abortPath_false why ho, if_pos hrw, hclose, ← hret]
    rfl
  · obtain ⟨t, ht, hended⟩ := abortRecords_ended (why := why) h ho
    simp only [abortPoint_eq] at hended
    exact ⟨t, ht, hended⟩

end Sys2Proof.Proofs.Orders

/-! # Every step keeps the store in order (R36, R139, R140, R145)

The store is changed by three things alone: a record written, a port's records released, and the record of a review changed in
place or taken back.  What the records, the impression list and the current point hold together grows only where the front point
is taken, which the boundary steps do with room left (R36). -/

namespace Sys2Proof.Proofs.Store
open Sys2Proof Sys2Proof.Machine Sys2Proof.Proofs.Orders

variable {s t : State} {o : Order}

/-! ## The invariant carried over -/

/-- What the store, the impression list and the hand hold together (R36). -/
def storeLoad (s : State) : Nat := s.store.records.length + s.seq.impressions.length + inHand s

/-- On the way from `s` to `t` the store stays in order, and room is kept. -/
structure StoreKept (s t : State) : Prop where
  fits : StoreFits s.store → StoreFits t.store
  room : storeLoad s ≤ 1024 → storeLoad t ≤ 1024

variable {a : State}

theorem StoreKept.refl (s : State) : StoreKept s s := ⟨id, id⟩

/-- Nothing written, and no more in hand than there was. -/
theorem StoreKept.lighter (h : StoreKept a s) (hs : t.store = s.store)
    (hl : t.seq.impressions.length + inHand t ≤ s.seq.impressions.length + inHand s) : StoreKept a t := by
  refine ⟨fun e => hs ▸ h.fits e, fun e => ?_⟩
  have := h.room e
  simp only [storeLoad, hs] at this ⊢
  omega

/-- Nothing written, and the same in hand. -/
theorem StoreKept.quiet (h : StoreKept a s) (e : t.store = s.store ∧ t.seq.impressions = s.seq.impressions
    ∧ t.seq.cur.isSome = s.seq.cur.isSome) : StoreKept a t :=
  h.lighter e.1 (by simp [inHand, e.2])

theorem StoreKept.sameSeq (h : StoreKept a s) (hs : t.store = s.store) (hq : t.seq = s.seq) : StoreKept a t :=
  h.quiet ⟨hs, by rw [hq], by rw [hq]⟩

theorem StoreKept.modPort (h : StoreKept a s) (p : Port) (f : LinkPort → LinkPort) : StoreKept a (s.modPort p f) := h.quiet (by simp)

/-! ## Records written -/

/-- What is written and what is recorded leave the load as it is, but for an impression written that is still listed. -/
theorem storeLoad_recordImpressions (o : Order) (why : Reason) (l : List Impression) (s : State) :
    storeLoad (recordImpressions o why l s) = storeLoad s + l.length := by
  induction l generalizing s with
  | nil => rfl
  | cons i l ih =>
    rw [recordImpressions, ih]
    simp [storeLoad, inHand, (writeRecord_store o _ s).1]
    omega

theorem recordImpressions_fits (why : Reason) (l : List Impression) (h : StoreFits s.store) :
    StoreFits (recordImpressions o why l s).store := by
  induction l generalizing s with
  | nil => exact h
  | cons i l ih => exact ih (h.writeRecord rfl)

/-- The impressions written leave the list (R27, R44). -/
theorem StoreKept.flushImpressions {why : Reason} (h : StoreKept a s) : StoreKept a (flushImpressions o why s) := by
  refine ⟨fun e => recordImpressions_fits why _ (h.fits e), fun e => ?_⟩
  have hl : storeLoad (Machine.flushImpressions o why s) + s.seq.impressions.length
      = storeLoad (Machine.recordImpressions o why s.seq.impressions s) := by
    simp [storeLoad, inHand, Machine.flushImpressions]; omega
  rw [storeLoad_recordImpressions] at hl
  have := h.room e
  omega

/-- A record of the order's port stands for the current point, which is given up. -/
theorem StoreKept.writeCurrent {r : Record} (h : StoreKept a s) (hc : s.seq.cur.isSome = true) (hr : r.origin = o.origin) :
    StoreKept a (dropCurrent (writeRecord o r s)) := by
  refine ⟨fun e => (h.fits e).writeRecord hr, fun e => ?_⟩
  have := h.room e
  simp [storeLoad, inHand, hc, (writeRecord_store o r s).1] at this ⊢
  omega

theorem StoreKept.recordCurrent {st : RecState} {why : Reason} (h : StoreKept a s) : StoreKept a (recordCurrent o st why s) := by
  rcases recordCurrent_cases o st why s with ⟨-, e⟩ | ⟨c, hc, e⟩ <;> rw [e]
  · exact h
  · exact h.writeCurrent (by simp [hc]) rfl

/-! ## The end of an order and the grant -/

theorem StoreKept.endOrder {id : Nat} {out : OrderOutcome} {why : Option AbortReason} (h : StoreKept a s) :
    StoreKept a (endOrder id out why s) := by
  cases hf : findOrder id s with
  | none => simpa [Machine.endOrder, hf] using h
  | some o =>
    have hs := (endOrder_effect out why hf).2
    refine ⟨fun e => hs ▸ (h.fits e).setArmed _ _, fun e => ?_⟩
    simpa [storeLoad, inHand, hs] using h.room e

theorem StoreKept.releaseHead (h : StoreKept a s) : StoreKept a (releaseHead s) := h.lighter (by simp) (by simp [inHand])

theorem StoreKept.endOwner {id : Nat} {out : OrderOutcome} {why : Option AbortReason} (h : StoreKept a s) :
    StoreKept a (endOwner id out why s).1 :=
  have ended : StoreKept a (Machine.releaseHead (Machine.endOrder id out why s)) := h.endOrder.releaseHead
  ended.quiet (t := (considerGrant _).1) (by simp)

/-- The impressions recorded, the points discarded and the owner ended (R27, R67). -/
theorem StoreKept.windUp {id : Nat} {reason : Reason} {out : OrderOutcome} {why : Option AbortReason} (h : StoreKept a s) :
    StoreKept a (Machine.endOwner id out why (discardPoints o (Machine.flushImpressions o reason s))).1 :=
  StoreKept.endOwner ((h.flushImpressions (o := o) (why := reason)).quiet (by simp))

/-! ## The boundary (R48) -/

theorem StoreKept.takeImpression (h : StoreKept a s) : StoreKept a (takeImpression o s).1 := by
  unfold Machine.takeImpression
  split
  · exact h
  · next i rest hi =>
    have h1 : StoreKept a (s.modSeq fun q => { q with impressions := rest, cur := .some (CurPoint.ofImpression i) }) :=
      h.lighter rfl (by simp [inHand, hi])
    dsimp only
    split
    · exact h1.recordCurrent
    · exact h1.quiet (by simp)

/-- The front point comes into the hand where the room is not used up. -/
theorem StoreKept.takePoint (h : StoreKept a s) (hroom : s.seq.impressions.length < freeRoom s) :
    StoreKept a (takePoint o s).1 := by
  cases hp : o.points with
  | nil => simpa [Machine.takePoint, hp] using h
  | cons p rest =>
    have h1 : StoreKept a (frontTaken o p rest s) := by
      refine ⟨fun e => by simpa using h.fits e, fun _ => ?_⟩
      have : s.seq.impressions.length < 1024 - s.store.records.length := by
        unfold freeRoom at hroom
        split at hroom
        · omega
        · exact hroom
      simp [storeLoad, inHand]
      omega
    rw [takePoint_cons hp]
    split
    · exact h1.quiet (by simp)
    · exact h1.recordCurrent

theorem StoreKept.boundaryTake (h : StoreKept a s) : StoreKept a (boundaryTake o s).1 := by
  unfold Machine.boundaryTake
  split
  · split
    · exact h.endOwner
    · exact h.quiet (by simp)
  · split
    · exact h.quiet (by simp)
    · next hroom => exact h.takePoint (by omega)

theorem StoreKept.boundaryRun (h : StoreKept a s) : StoreKept a (boundaryRun o s).1 := by
  have h1 (r : RoundPhase) : StoreKept a (s.modSeq fun q => { q with round := r }) := h.quiet (by simp)
  unfold Machine.boundaryRun
  split
  · exact h.boundaryTake
  · split
    · exact (h1 _).boundaryTake
    · split
      · exact h.takeImpression
      · split
        · exact (h1 _).takeImpression
        · exact h.boundaryTake

theorem StoreKept.boundaryPause (h : StoreKept a s) : StoreKept a (boundaryPause o s) := by
  refine h.quiet ⟨by simp, ?_⟩
  unfold Machine.boundaryPause
  split <;> exact ⟨rfl, rfl⟩

theorem StoreKept.boundaryStep (h : StoreKept a s) : StoreKept a (boundaryStep s).1 := by
  unfold Machine.boundaryStep
  split
  · exact h
  · next o _ =>
    have h1 : StoreKept a (updOrder o.id applyPending s) := h.quiet (by simp)
    split
    · exact h.windUp
    · dsimp only
      split
      · exact h1.boundaryPause
      · exact h1.boundaryRun

theorem StoreKept.boundary (h : StoreKept a s) : StoreKept a (boundary s) :=
  boundary_keeps (P := StoreKept a) (fun _ h => h.boundaryStep) s h

theorem StoreKept.afterGrant {r : State × Bool} (h : StoreKept a r.1) : StoreKept a (afterGrant r) := by
  unfold Machine.afterGrant
  split
  · exact h.boundary
  · exact h

theorem StoreKept.grant (h : StoreKept a s) : StoreKept a (grant s) :=
  StoreKept.afterGrant (r := considerGrant s) (h.quiet (by simp))

theorem StoreKept.cancelNow (h : StoreKept a s) : StoreKept a (cancelNow o s) := StoreKept.afterGrant h.windUp

end Sys2Proof.Proofs.Store

/-! # The operations of the cycle and the desk keep the store in order -/

namespace Sys2Proof.Proofs.Store
open Sys2Proof Sys2Proof.Machine Sys2Proof.Proofs.Orders

variable {a s t : State} {o : Order} {p : Port} {src : Source}

/-! ## The review desk -/

theorem StoreKept.handleFailure {why : Reason} (h : StoreKept a s) : StoreKept a (handleFailure why s) := by
  unfold Machine.handleFailure
  split
  · exact h
  · split
    · exact StoreKept.quiet (h.recordCurrent (o := ‹Order›) (st := .review) (why := why)) (t := openReview _ why s)
        (by simp [openReview])
    · exact h.recordCurrent.boundary

/-- A close changes the record of the review in place (R131, R141). -/
theorem StoreKept.closeReview {out : ReviewOutcome} {change : Record → Record} (h : StoreKept a s) (hc : Closes change) :
    StoreKept a (closeReview out change s) := by
  cases hv : s.desk.review with
  | none => simpa [Machine.closeReview, hv] using h
  | some v =>
    obtain ⟨-, hs, -⟩ := closeReview_some (out := out) (change := change) hv
    refine ⟨fun e => ?_, fun e => by simpa [storeLoad, inHand, hs] using h.room e⟩
    rw [hs]
    refine (h.fits e).change fun x => ?_
    split
    · exact ⟨hc.seq x, hc.origin x⟩
    · exact ⟨rfl, rfl⟩

/-- A superseded review gives its record back for the current point (R134, R141). -/
theorem StoreKept.supersedeReview (h : StoreKept a s) : StoreKept a (supersedeReview o s) := by
  cases hv : s.desk.review with
  | none => simpa [Machine.supersedeReview, hv] using h
  | some v =>
    cases hx : findRecord v.seq s with
    | none => simpa [Machine.supersedeReview, hv, hx] using h
    | some x =>
      obtain ⟨hm, hseq⟩ : x ∈ s.store.records ∧ x.seq = v.seq :=
        ⟨List.mem_of_find?_eq_some hx, by simpa using List.find?_some hx⟩
      have given : StoreKept a (superseded v x s) := by
        refine ⟨fun e => by simpa [hseq] using (h.fits e).drop hm, fun e => ?_⟩
        have less : (s.store.records.filter fun y => !decide (y.seq = v.seq)).length < s.store.records.length :=
          List.length_filter_lt_length_iff_exists.2 ⟨x, hm, by simp [hseq]⟩
        have := h.room e
        simp [storeLoad, inHand] at this ⊢
        omega
      rw [supersedeReview_some hv hx]
      exact given.quiet (by simp)

theorem StoreKept.afterClose (h : StoreKept a s) : StoreKept a (afterClose s) := by
  unfold Machine.afterClose
  split
  · exact h.boundary
  · exact h

/-! ## The abort path, retracts, stops and unloads -/

theorem StoreKept.abortRecords {why : AbortReason} (h : StoreKept a s) : StoreKept a (abortRecords why s) := by
  cases ho : ownerOf s with
  | none => simpa [Machine.abortRecords, ho] using h
  | some o =>
    have h1 : StoreKept a (gathered s) := h.quiet ⟨rfl, rfl, by simp [gathered]⟩
    rw [abortRecords_some why ho]
    exact h1.recordCurrent.windUp.afterGrant

theorem StoreKept.abortPath {why : AbortReason} {spent : Bool} (h : StoreKept a s) : StoreKept a (abortPath why spent s) := by
  cases ho : ownerOf s with
  | none => simpa [Machine.abortPath, ho] using h
  | some o =>
    have h1 : StoreKept a (halted s) := h.quiet (by simp [halted])
    have retracted : StoreKept a (Machine.abortPath why false s) := by
      rw [abortPath_false why ho]
      split
      · exact (h1.closeReview (out := .aborted) (closes_unmeasured .aborted)).quiet (by simp)
      · exact h1.quiet (by simp)
    cases spent
    · exact retracted
    · rw [abortPath_true why ho]
      exact retracted.abortRecords

theorem StoreKept.finishRetract (h : StoreKept a s) : StoreKept a (finishRetract s) := by
  have h1 : StoreKept a (retractOver s) := h.quiet ⟨rfl, rfl, rfl⟩
  rw [finishRetract_eq]
  split
  · exact h1.recordCurrent.boundary
  · exact h1.recordCurrent.boundary
  · exact h1.abortRecords
  · exact h1

theorem StoreKept.returnPoint (h : StoreKept a s) : StoreKept a (returnPoint o s) := h.lighter (by simp) (by simp [inHand])

theorem StoreKept.finishStop (h : StoreKept a s) : StoreKept a (finishStop s) := by
  have h1 : StoreKept a (stopOver s) := h.quiet ⟨rfl, rfl, rfl⟩
  rw [finishStop_eq]
  split
  · exact h1
  · split
    · split
      · exact h1.recordCurrent.boundary
      · split
        · exact (h1.returnPoint (o := ‹Order›)).quiet (by simp)
        · exact h1.returnPoint.boundary
    · split
      · exact h1.recordCurrent.boundary
      · split <;> exact h1.quiet (by simp)

theorem StoreKept.finishUnload (h : StoreKept a s) : StoreKept a (finishUnload s) := by
  have h1 : StoreKept a (unloadOver s) := h.quiet ⟨rfl, rfl, by simp⟩
  rw [finishUnload_eq]
  split
  · next c _ hc =>
    split
    · exact h1.recordCurrent.boundary
    · split
      · have hand : inHand (unloadOver s) = 1 := if_pos (by rw [hc]; rfl)
        exact StoreKept.boundary (h1.lighter rfl (by rw [hand]; simp [inHand]))
      · split
        · exact h1.recordCurrent.boundary
        · split <;> exact h1.quiet (by simp)
  · exact h1

theorem StoreKept.judgeRest {motion : Bool} (h : StoreKept a s) : StoreKept a (judgeRest motion s) := by
  unfold Machine.judgeRest
  split
  · split
    · exact h.finishStop
    · exact h
  · split
    · split
      · exact h.finishRetract
      · exact h
    · split
      · exact h.finishUnload
      · exact h
    · exact h

/-! ## Moves and samples -/

theorem StoreKept.judgeMove (h : StoreKept a s) : StoreKept a (judgeMove s) := by
  unfold Machine.judgeMove
  split
  · split
    · exact h.quiet (by simp)
    · split
      · exact h
      · exact h.quiet (by simp)
  · exact h

theorem StoreKept.judgeTurret (h : StoreKept a s) : StoreKept a (judgeTurret s) := by
  unfold Machine.judgeTurret
  split
  · exact h
  · split
    · exact StoreKept.judgeMove (h.quiet ⟨rfl, rfl, rfl⟩)
    · exact h

theorem StoreKept.contactMade (h : StoreKept a s) : StoreKept a (contactMade o s) := by
  cases hc : s.seq.cur with
  | none => simpa [Machine.contactMade, hc] using h
  | some c =>
    simp only [Machine.contactMade, hc]
    exact h.quiet ⟨rfl, rfl, by rw [hc]; rfl⟩

theorem StoreKept.forceLost (h : StoreKept a s) : StoreKept a (forceLost s) := h.quiet ⟨rfl, rfl, by simp [Machine.forceLost]⟩

theorem StoreKept.dwellSample (h : StoreKept a s) : StoreKept a (dwellSample o s) := by
  unfold Machine.dwellSample dwellGate
  dsimp only
  split
  · exact StoreKept.forceLost (h.quiet (by simp))
  · split
    · split <;> exact h.quiet (by simp)
    · split
      · exact StoreKept.forceLost (h.quiet (by simp))
      · exact h.quiet (by simp)

theorem StoreKept.judgeSample {count : Int} (h : StoreKept a s) : StoreKept a (judgeSample count s) := by
  unfold Machine.judgeSample
  split
  · exact h.judgeRest
  · split
    · unfold tareSample
      dsimp only
      split <;> exact h.quiet (by simp)
    · unfold approachSample
      split
      · exact h.contactMade
      · exact h
    · unfold rampSample
      dsimp only
      split <;> exact h.quiet (by simp)
    · exact h.dwellSample
    · exact h.judgeRest
    · exact h.judgeRest
    · exact h

/-! ## Views and measurements -/

/-- The capture unit and the notes of a view are nothing to the store. -/
theorem StoreKept.noteFrames {n : Nat} {soft : Bool} {f : CaptureUnit → CaptureUnit} (h : StoreKept a s) :
    StoreKept a (noteFrames n soft (s.modCap f)) := h.quiet ⟨rfl, rfl, by simp [Machine.noteFrames]⟩

theorem StoreKept.chooseBank {b : BankId} {soft : Bool} (h : StoreKept a s) : StoreKept a (chooseBank b soft o s) :=
  (h.noteFrames (n := s.cap.framesScored) (soft := soft) (f := CaptureUnit.handOver b)).quiet ⟨rfl, rfl, rfl⟩

theorem StoreKept.judgeFocus {v : ViewParams} (h : StoreKept a s) : StoreKept a (judgeFocus v o s) := by
  unfold Machine.judgeFocus
  split
  · exact h
  · split
    · exact h.chooseBank
    · split
      · exact h
      · split
        · exact h.chooseBank
        · exact h.noteFrames.handleFailure

theorem StoreKept.takeReport {r : Except Reason Measured} (h : StoreKept a s) : StoreKept a (takeReport o r s) := by
  unfold Machine.takeReport
  split
  · exact h.handleFailure
  · next hc => exact (h.writeCurrent (by simp [hc]) rfl).boundary
  · exact h

end Sys2Proof.Proofs.Store

/-! # The requests, the events and a step keep the store in order -/

namespace Sys2Proof.Proofs.Store
open Sys2Proof Sys2Proof.Machine Sys2Proof.Proofs.Orders

variable {a s t : State} {o : Order} {p : Port} {src : Source}

/-! ## Holds and their end -/

theorem StoreKept.pauseWaiting (h : StoreKept a s) : StoreKept a (pauseWaiting s) := h.quiet (by simp)

theorem StoreKept.holdOwner {f : Holds → Holds} {g : PendingHolds → PendingHolds} (h : StoreKept a s) :
    StoreKept a (holdOwner o f g s) := by
  unfold Machine.holdOwner
  split
  · exact h.quiet (by simp)
  · split
    · exact StoreKept.pauseWaiting (h.quiet (by simp))
    · exact h.quiet (by simp)

theorem StoreKept.holdEffect (h : StoreKept a s) : StoreKept a (holdEffect o s) := by
  unfold Machine.holdEffect
  split
  · exact h
  · split
    · exact h.quiet (by simp)
    · exact h.holdOwner

theorem StoreKept.holdAllEffect (h : StoreKept a s) : StoreKept a (holdAllEffect s) := by
  have h1 : StoreKept a (s.modArb fun b => { b with deviceHold := true }) := h.quiet (by simp)
  unfold Machine.holdAllEffect
  split
  · exact h
  · dsimp only
    split
    · exact h1
    · split
      · exact h1
      · exact h1.holdOwner

theorem StoreKept.resumeOwner (h : StoreKept a s) : StoreKept a (resumeOwner o s) := by
  have h1 : StoreKept a (updOrder o.id (fun o => { o with status := .running }) s) := h.quiet (by simp)
  unfold Machine.resumeOwner
  dsimp only
  split
  · split
    · exact h1.quiet (by simp)
    · exact h1.boundary
  · exact h1.supersedeReview
  · exact h1

theorem StoreKept.resumeEffect (h : StoreKept a s) : StoreKept a (resumeEffect o s) := by
  have h1 : StoreKept a (updOrder o.id dropOwn s) := h.quiet (by simp)
  unfold Machine.resumeEffect
  split
  · exact h
  · dsimp only
    split
    · exact h1
    · split
      · exact h1.resumeOwner
      · split
        · exact h1.grant
        · exact h1

theorem StoreKept.resumeAllEffect (h : StoreKept a s) : StoreKept a (resumeAllEffect s) := by
  have h1 : StoreKept a (deviceDropped s) := h.quiet ⟨rfl, rfl, rfl⟩
  unfold Machine.resumeAllEffect
  refine StoreKept.grant ?_
  split
  · exact h1
  · split
    · exact h1.resumeOwner
    · exact h1

/-! ## Requests of the order table, the store and the desk -/

theorem StoreKept.afterAppend {id n : Nat} (h : StoreKept a s) : StoreKept a (afterAppend id n s) := by
  unfold Machine.afterAppend
  split
  · exact h
  · split
    · split
      · exact h.endOrder
      · split
        · exact h
        · exact h.grant
    · split
      · exact StoreKept.boundary (h.quiet (by simp))
      · exact h

theorem StoreKept.decideAddPoints {r : AddPointsReq} (h : StoreKept a s) : StoreKept a (decideAddPoints src r s).state := by
  unfold Machine.decideAddPoints
  split
  · exact h
  · split
    · exact h
    · exact StoreKept.afterAppend (h.quiet (by simp))

theorem StoreKept.cancelOwner (h : StoreKept a s) : StoreKept a (cancelOwner o s) := by
  have h1 : StoreKept a (markCancel o s) := h.quiet ⟨rfl, rfl, rfl⟩
  unfold Machine.cancelOwner
  dsimp only
  split
  · exact h1
  · cases s.seq.state with
    | moveIndent | tare | approach | ramp | dwell => exact h1.quiet (by simp)
    | unload | moveView | settle | focus | measure | retract | idle => exact h1
    | reviewWait => exact (h1.closeReview (closes_unmeasured .cancelled)).cancelNow
    | awaitPoints => exact StoreKept.cancelNow (h1.quiet (by simp))
    | storeWait => exact h1.cancelNow
    | paused => exact h1.recordCurrent.cancelNow

theorem StoreKept.cancelEffect (h : StoreKept a s) : StoreKept a (cancelEffect o s) := by
  unfold Machine.cancelEffect
  split
  · exact StoreKept.endOrder (h.quiet (by simp))
  · split
    · exact h
    · exact h.cancelOwner

theorem StoreKept.decideCancel {id : Nat} (h : StoreKept a s) : StoreKept a (decideCancel src id s).state := by
  unfold Machine.decideCancel
  split
  · exact h
  · exact h.cancelEffect

theorem StoreKept.decideHold {id : Nat} (h : StoreKept a s) : StoreKept a (decideHold src id s).state := by
  unfold Machine.decideHold
  split
  · exact h
  · exact h.holdEffect

theorem StoreKept.decideResume {id : Nat} (h : StoreKept a s) : StoreKept a (decideResume src id s).state := by
  unfold Machine.decideResume
  split
  · exact h
  · split
    · exact h.resumeEffect
    · exact h

theorem StoreKept.setLock {holder : Option Port} (h : StoreKept a s) : StoreKept a (setLock holder s) :=
  StoreKept.grant (h.quiet (by simp))

theorem StoreKept.decideTakeHead (h : StoreKept a s) : StoreKept a (decideTakeHead src s).state := by
  unfold Machine.decideTakeHead
  split
  · exact h.setLock
  · split <;> exact h

theorem StoreKept.decideFreeHead (h : StoreKept a s) : StoreKept a (decideFreeHead src s).state := by
  unfold Machine.decideFreeHead
  split
  · exact h
  · split
    · exact h.setLock
    · exact h

/-- Releasing records only makes room (R143). -/
theorem StoreKept.decideReleaseResults {through : Nat} (h : StoreKept a s) :
    StoreKept a (decideReleaseResults src through s).state := by
  have h1 : StoreKept a (s.modStore (releaseFrom src.port through)) := by
    refine ⟨fun e => (h.fits e).release, fun e => ?_⟩
    have less := List.length_filter_le (fun r => !released src.port through r) s.store.records
    have hand : inHand (s.modStore (releaseFrom src.port through)) = inHand s := rfl
    have := h.room e
    simp only [storeLoad, hand, State.modStore_store, State.modStore_seq, releaseFrom, setArmed_rest, setWaiting_rest] at this ⊢
    omega
  unfold Machine.decideReleaseResults
  dsimp only
  split
  · exact h1.boundary
  · exact h1

theorem StoreKept.decideEnter {seq d1 d2 : Nat} (h : StoreKept a s) : StoreKept a (decideEnter src seq d1 d2 s).state := by
  unfold Machine.decideEnter
  split
  · exact h
  · split
    · exact h
    · split
      · exact h
      · exact (h.closeReview (closes_manual _ d1 d2)).afterClose

theorem StoreKept.decideReject {seq : Nat} (h : StoreKept a s) : StoreKept a (decideReject src seq s).state := by
  unfold Machine.decideReject
  split
  · exact h
  · exact (h.closeReview (closes_unmeasured .rejected)).afterClose

theorem StoreKept.decideWriteCalibration {rec : Nat} {f : CalFields} (h : StoreKept a s) :
    StoreKept a (decideWriteCalibration src rec f s).state := by
  have h1 : StoreKept a (s.modCal (writeTable rec f src.port)) := h.quiet (by simp)
  unfold Machine.decideWriteCalibration
  split
  · exact h
  · dsimp only
    split
    · exact h1.grant
    · exact h1

/-! ## The interlocks and the links -/

theorem StoreKept.beginStop (h : StoreKept a s) : StoreKept a (beginStop s) := h.quiet (by simp)

theorem StoreKept.doorAction (h : StoreKept a s) : StoreKept a (doorAction s) := by
  have viewed : StoreKept a (stopView s) := h.quiet (by simp)
  have interrupted : StoreKept a (interruptPoint s) := h.quiet ⟨rfl, rfl, by simp [interruptPoint]⟩
  unfold Machine.doorAction
  split
  · exact h
  · cases s.seq.state with
    | idle | unload | reviewWait | retract | paused => exact h
    | awaitPoints | storeWait => exact h.pauseWaiting
    | moveIndent | tare | approach | moveView => exact h.beginStop
    | ramp | dwell => exact interrupted
    | settle | focus | measure => exact viewed.beginStop

theorem StoreKept.postInterlock {e : InterlockEvent} (h : StoreKept a s) : StoreKept a (postInterlock e s) := h.quiet (by simp)

theorem StoreKept.afterDoor {was : Option DoorLevel} {now : DoorLevel} (h : StoreKept a s) : StoreKept a (afterDoor was now s) := by
  unfold Machine.afterDoor
  split
  · exact h
  · exact h.grant
  · exact StoreKept.doorAction ((h.postInterlock (e := .doorOpened)).quiet (by simp))
  · exact h.postInterlock.grant

theorem StoreKept.afterEstop {was : Option EstopLevel} {now : EstopLevel} (h : StoreKept a s) : StoreKept a (afterEstop was now s) := by
  unfold Machine.afterEstop estopPressed
  split
  · exact h
  · exact h.grant
  · split
    · exact h.postInterlock
    · exact h.postInterlock.abortPath
  · exact h.postInterlock.grant

theorem StoreKept.takeShared {f : RxFrame} (h : StoreKept a s) : StoreKept a (takeShared p f s) := by
  unfold Machine.takeShared
  split
  · next e =>
    unfold sharedEffect at e
    split at e
    · simp at e
    · split at e
      · obtain rfl := Option.some.inj e; exact h.holdAllEffect
      · split at e
        · obtain rfl := Option.some.inj e; exact h.resumeAllEffect
        · split at e
          · rw [setLampEffect_frame e]; exact h.quiet ⟨rfl, rfl, rfl⟩
          · simp at e
  · exact h.modPort _ _

theorem StoreKept.resetPort (h : StoreKept a s) : StoreKept a (resetPort p s) := by
  have cleared : StoreKept a ((s.modPort p (LinkPort.restart p)).modStore (·.setArmed p true)) :=
    ⟨fun e => by simpa using (h.fits e).setArmed p true, fun e => by simpa [storeLoad, inHand] using h.room e⟩
  have dropped : StoreKept a (portCleared p s) := by
    rw [portCleared, dropClaim_eq]; exact cleared.quiet (by simp)
  unfold Machine.resetPort dropLock
  split
  · exact dropped.setLock
  · exact dropped

/-! ## The events -/

/-- An empty store with nothing in hand, as a cold reset leaves it, is in order. -/
theorem storeKept_reset (hs : t.store = ResultStore.reset) (hq : t.seq = Sequencer.reset) : StoreKept a t := by
  refine ⟨fun _ => ?_, fun _ => ?_⟩
  · rw [hs]
    constructor <;> simp [ResultStore.reset]
  · simp [storeLoad, inHand, hs, hq, ResultStore.reset, Sequencer.reset]

theorem StoreKept.frameTaken (h : StoreKept a s) (e : execFrameTaken p s = .next t) : StoreKept a t := by
  obtain rfl := Host.Outcome.next.inj e
  split
  · exact h
  · split
    · dsimp only
      split
      · exact (h.modPort _ _).takeShared
      · exact h.quiet (by simp)
    · exact h

theorem StoreKept.portReset (h : StoreKept a s) (e : execPortReset p s = .next t) : StoreKept a t := by
  obtain rfl := Host.Outcome.next.inj e
  split
  · exact h.resetPort
  · exact h

theorem StoreKept.stabilityTimerExpiry {i : InputName} (h : StoreKept a s) (e : execStabilityTimerExpiry i s = .next t) :
    StoreKept a t := by
  obtain rfl := Host.Outcome.next.inj e
  have h1 (f : Inputs → Inputs) : StoreKept a (s.modInputs f) := h.quiet (by simp)
  cases i with
  | door =>
    dsimp only
    split
    · exact h
    · exact (h1 _).afterDoor
  | estop =>
    dsimp only
    split
    · exact h
    · exact (h1 _).afterEstop
  | station =>
    dsimp only
    split
    · exact h
    · exact (h1 _).judgeTurret

theorem StoreKept.stageDone (h : StoreKept a s) : StoreKept a (stageDone s) := h.quiet ⟨rfl, rfl, rfl⟩

theorem StoreKept.turretDone (h : StoreKept a s) : StoreKept a (turretDone s) := h.quiet ⟨rfl, rfl, rfl⟩

theorem StoreKept.stgDone (h : StoreKept a s) (e : execStgDone s = .next t) : StoreKept a t := by
  obtain rfl := Host.Outcome.next.inj e
  split
  · exact h
  · split
    · exact StoreKept.judgeMove (h.quiet ⟨rfl, rfl, rfl⟩)
    · exact h.stageDone.judgeRest

theorem StoreKept.stgFault (h : StoreKept a s) (e : execStgFault s = .next t) : StoreKept a t := by
  obtain rfl := Host.Outcome.next.inj e
  split
  · exact h
  · split
    · exact h.stageDone
    · exact h.stageDone.abortPath

theorem StoreKept.turDone (h : StoreKept a s) (e : execTurDone s = .next t) : StoreKept a t := by
  obtain rfl := Host.Outcome.next.inj e
  split
  · exact h
  · split
    · exact h.turretDone.judgeTurret
    · exact h.turretDone.judgeRest

theorem StoreKept.stageTimerExpiry (h : StoreKept a s) (e : execStageTimerExpiry s = .next t) : StoreKept a t := by
  obtain rfl := Host.Outcome.next.inj e
  split
  · exact h
  · exact h.stageDone.abortPath

theorem StoreKept.turretTimerExpiry (h : StoreKept a s) (e : execTurretTimerExpiry s = .next t) : StoreKept a t := by
  obtain rfl := Host.Outcome.next.inj e
  split
  · exact h
  · exact h.abortPath

theorem StoreKept.loadSample {count : Int} (h : StoreKept a s) (e : execLoadSample count s = .next t) : StoreKept a t := by
  obtain rfl := Host.Outcome.next.inj e
  have sampled (f : ForceMonitor → ForceMonitor) : StoreKept a (Machine.judgeSample count (s.modForce f)) :=
    StoreKept.judgeSample (h.quiet (by simp))
  exact (sampled _).quiet ⟨rfl, rfl, rfl⟩

theorem StoreKept.actRaised {level : Bool} (h : StoreKept a s) (e : execActRaised level s = .next t) : StoreKept a t := by
  obtain rfl := Host.Outcome.next.inj e
  split
  · exact h
  · exact StoreKept.judgeRest (h.quiet (by simp))

theorem StoreKept.approachTimerExpiry (h : StoreKept a s) (e : execApproachTimerExpiry s = .next t) : StoreKept a t := by
  obtain rfl := Host.Outcome.next.inj e
  split
  · exact h
  · split
    · exact h.quiet (by simp)
    · exact h

theorem StoreKept.unloadTimerExpiry (h : StoreKept a s) (e : execUnloadTimerExpiry s = .next t) : StoreKept a t := by
  obtain rfl := Host.Outcome.next.inj e
  split
  · exact h
  · exact h.abortPath

theorem StoreKept.retractTimerExpiry (h : StoreKept a s) (e : execRetractTimerExpiry s = .next t) : StoreKept a t := by
  obtain rfl := Host.Outcome.next.inj e
  split
  · exact h
  · split
    · exact h.abortRecords
    · exact h.abortPath

theorem StoreKept.starvationTimerExpiry (h : StoreKept a s) (e : execStarvationTimerExpiry s = .next t) : StoreKept a t := by
  obtain rfl := Host.Outcome.next.inj e
  split
  · split
    · exact StoreKept.grant (StoreKept.releaseHead (h.quiet (by simp)))
    · exact h
  · exact h

theorem StoreKept.frameCompletion (h : StoreKept a s) (e : execFrameCompletion s = .next t) : StoreKept a t := by
  obtain rfl := Host.Outcome.next.inj e
  split
  · exact h
  · dsimp only
    split
    · exact h.quiet (by simp)
    · unfold followFocus
      split <;> exact h.quiet (by simp)

theorem StoreKept.scoreReady (h : StoreKept a s) (e : execScoreReady s = .next t) : StoreKept a t := by
  obtain rfl := Host.Outcome.next.inj e
  split
  · split
    · exact StoreKept.judgeFocus (h.quiet (by simp))
    · exact h
  · exact h

theorem StoreKept.frameTimerExpiry (h : StoreKept a s) (e : execFrameTimerExpiry s = .next t) : StoreKept a t := by
  obtain rfl := Host.Outcome.next.inj e
  split
  · exact h
  · split
    · exact h.noteFrames.handleFailure
    · exact h

theorem StoreKept.measurementReport (h : StoreKept a s) (e : execMeasurementReport s = .next t) : StoreKept a t := by
  obtain rfl := Host.Outcome.next.inj e
  split
  · split
    · exact StoreKept.takeReport (h.quiet (by simp))
    · exact h
  · exact h

theorem StoreKept.windowTimerExpiry (h : StoreKept a s) (e : execWindowTimerExpiry s = .next t) : StoreKept a t := by
  obtain rfl := Host.Outcome.next.inj e
  split
  · exact (h.closeReview (closes_unmeasured .reviewExpired)).afterClose
  · exact h

/-! ## A command, and a step -/

/-- A request answered by what its owner decided. -/
theorem StoreKept.served {cmd : Instr} {d : State → Answer} (h : StoreKept a s) (e : Host.Outcome.next (serve cmd src d s)
    = (.next t : Host.Outcome State Fault Refusal)) (hd : StoreKept a (d s).state) : StoreKept a t := by
  obtain rfl := Host.Outcome.next.inj e
  unfold serve
  dsimp only
  split
  · exact (h.modPort _ _).modPort _ _
  · exact (hd.modPort _ _).modPort _ _

/-- Every command keeps the store in order; most leave it and the sequencer alone, as their frames say. -/
theorem StoreKept.exec {i : Instr} (h : StoreKept a s) (e : exec i s = .next t) : StoreKept a t := by
  have frame := everyCommandKeepsItsFrame i s t e
  cases i with
  | coldReset pins =>
    obtain rfl := Host.Outcome.next.inj e
    exact storeKept_reset rfl rfl
  | startupLoadComplete _ | commitComplete _ | frameReceived _ _ | receiveGap _ | responseSent _ | lineBreak _ | readState _
  | readNotices _ | setLink _ _ | openOrder _ _ | claimReview _ _ | readResults _ _ _ | readSummary _ _ | readCalibration _ _
  | setLamp _ _ _ _ | setInputs _ _ _ _ | inputChange _ | frameStart | lampTimebaseTick | lineMarker _ | pixelTaken _ =>
    have frame : t = _ := frame
    exact h.sameSeq ((congrArg State.store frame).trans (by simp)) ((congrArg State.seq frame).trans (by simp))
  | frameTaken p => exact h.frameTaken e
  | portReset p => exact h.portReset e
  | addPoints src r => exact h.served e h.decideAddPoints
  | cancelOrder src id => exact h.served e h.decideCancel
  | holdOrder src id => exact h.served e h.decideHold
  | resumeOrder src id => exact h.served e h.decideResume
  | holdAll src => exact h.served e h.holdAllEffect
  | resumeAll src => exact h.served e h.resumeAllEffect
  | takeHead src => exact h.served e h.decideTakeHead
  | freeHead src => exact h.served e h.decideFreeHead
  | enterDiagonals src seq d1 d2 => exact h.served e h.decideEnter
  | rejectImpression src seq => exact h.served e h.decideReject
  | releaseResults src through => exact h.served e h.decideReleaseResults
  | writeCalibration src rec f => exact h.served e h.decideWriteCalibration
  | stabilityTimerExpiry input => exact h.stabilityTimerExpiry e
  | stgDone => exact h.stgDone e
  | stgFault => exact h.stgFault e
  | turDone => exact h.turDone e
  | stageTimerExpiry => exact h.stageTimerExpiry e
  | turretTimerExpiry => exact h.turretTimerExpiry e
  | loadSample count => exact h.loadSample e
  | actRaised level => exact h.actRaised e
  | approachTimerExpiry => exact h.approachTimerExpiry e
  | unloadTimerExpiry => exact h.unloadTimerExpiry e
  | retractTimerExpiry => exact h.retractTimerExpiry e
  | starvationTimerExpiry => exact h.starvationTimerExpiry e
  | frameCompletion => exact h.frameCompletion e
  | scoreReady => exact h.scoreReady e
  | frameTimerExpiry => exact h.frameTimerExpiry e
  | measurementReport => exact h.measurementReport e
  | windowTimerExpiry => exact h.windowTimerExpiry e

theorem storeKept_step (e : step s = .next t) : StoreKept s t := by
  unfold step at e
  split at e
  · obtain rfl := Host.Outcome.next.inj e
    exact .refl s
  · next rest _ => exact StoreKept.exec (s := { s with pending := rest }) ((StoreKept.refl s).quiet ⟨rfl, rfl, rfl⟩) e

/-- Settles O8: what every step carries over, the order of the store and its room. -/
theorem stepKeepsTheStoreInOrder : Obligations.StepKeepsTheStoreInOrder := fun _ _ e =>
  have kept := storeKept_step e
  ⟨fun h => storeOk_iff.2 (kept.fits (storeOk_iff.1 h)), kept.room⟩

end Sys2Proof.Proofs.Store

/-! # RELEASE RESULTS, and the records reported to their order (R38, R140, R143, R145, R148 to R150) -/

namespace Sys2Proof.Proofs.Store
open Sys2Proof Sys2Proof.Machine Sys2Proof.Proofs.Orders

variable {s t : State} {o : Order} {r : Record}

/-! ## RELEASE RESULTS (R143) -/

/-- Over a store in order, a release leaves as many records waiting as are kept of the port. -/
theorem releaseFrom_eq {u : ResultStore} (h : StoreFits u) (p : Port) (through : Nat) : releaseFrom p through u =
    let kept := u.records.filter fun r => !released p through r
    { records := kept, nextSeq := u.nextSeq
      waitingA := if p = .A then kept.countP (·.origin = p) else u.waitingA
      waitingB := if p = .B then kept.countP (·.origin = p) else u.waitingB
      armedA := u.armedA || decide (p = .A), armedB := u.armedB || decide (p = .B) } := by
  have hc := countP_released (p := p) p through u.records
  have hA := h.waitA
  have hB := h.waitB
  cases p <;> simp [releaseFrom, ResultStore.setWaiting, ResultStore.setArmed, ResultStore.waiting] at hc ⊢ <;> omega

/-- The records released are those that are not kept. -/
theorem countP_released_eq (p : Port) (through : Nat) (l : List Record) :
    l.countP (released p through) = l.length - (l.filter fun r => !released p through r).length := by
  have h := List.length_eq_countP_add_countP (released p through) (l := l)
  rw [← List.countP_eq_length_filter]
  simp only [Bool.not_eq_true, Bool.decide_eq_false] at h
  omega

/-- Settles O35: over a store in order the waiting count that is lowered by the records gone is the number of those kept. -/
theorem releaseResultsFreesRoom : Obligations.ReleaseResultsFreesRoom := by
  intro src through s hl hs p goes kept n mine st
  have hst : releaseFrom p through s.store = st := releaseFrom_eq (storeOk_iff.1 hs) p through
  have hn : s.store.records.countP (released p through) = n := countP_released_eq p through _
  have hw : st.waiting p = mine := by cases hp : p <;> simp [st, hp, ResultStore.waiting]
  refine served hl ?_
  simp only [decideReleaseResults, State.modStore]
  rw [hst, hn, hw]

/-! ## A record reported to its order (R148 to R150) -/

/-- The counts rise by the record's state and by its verdict (R148). -/
theorem countRecord_eq (r : Record) (c : Counts) : countRecord r c =
    let add (n : Nat) (b : Bool) : Nat := if b then n + 1 else n
    { c with
      auto := add c.auto (r.state = .auto), manual := add c.manual (r.state = .manual)
      unmeasured := add c.unmeasured (r.state = .unmeasured), skipped := add c.skipped (r.state = .skipped)
      inBand := add c.inBand (r.verdict = .inBand), low := add c.low (r.verdict = .low)
      high := add c.high (r.verdict = .high) } := by
  unfold countRecord
  cases r.state <;> cases r.verdict <;> rfl

/-- The order after the counts, the sums and the reference diagonal of a measured record (R38, R148, R149). -/
def summed (r : Record) (h d1 d2 : Nat) (o : Order) : Order :=
  { o with
    counts := countRecord r o.counts, hardnessSum := o.hardnessSum + h
    minHardness := .some (optMin o.minHardness h), maxHardness := .some (optMax o.maxHardness h)
    refDiagonal := .some (referenceDiagonal o.method d1 d2) }

theorem reportRecord_unmeasured (hh : r.hardness = .none) :
    reportRecord r o = { o with counts := countRecord r o.counts } := by
  simp only [reportRecord, hh]

theorem reportRecord_measured {h d1 d2 : Nat} (hh : r.hardness = .some h) (h1 : r.d1 = .some d1) (h2 : r.d2 = .some d2) :
    reportRecord r o = evaluateCaseDepth r h (summed r h d1 d2 o) := by
  simp only [reportRecord, hh, h1, h2]; rfl

theorem evaluateCaseDepth_none {h : Nat} (hc : o.caseLimit = .none ∨ r.depth = .none) : evaluateCaseDepth r h o = o := by
  unfold evaluateCaseDepth
  split
  · simp_all
  · rfl

theorem evaluateCaseDepth_some {h limit z : Nat} (hl : o.caseLimit = .some limit) (hz : r.depth = .some z) :
    evaluateCaseDepth r h o = caseDepthStep limit z h o := by
  simp only [evaluateCaseDepth, hl, hz]

/-! ### The case depth (R150) -/

theorem caseDepthStep_found {limit z h : Nat} (hc : o.crossingFound = true) : caseDepthStep limit z h o = o := if_pos hc

theorem caseDepthStep_above {limit z h : Nat} (hc : o.crossingFound = false) (hh : limit ≤ h) :
    caseDepthStep limit z h o = { o with prevMeasured := .some (z, h) } := by
  have : ¬h < limit := by omega
  unfold caseDepthStep
  rw [if_neg (by simp [hc])]
  split <;> rw [if_neg this]

theorem caseDepthStep_surface {limit z h : Nat} (hc : o.crossingFound = false) (hh : h < limit) (hp : o.prevMeasured = .none) :
    caseDepthStep limit z h o = { o with caseStatus := .surfaceBelow, caseValue := .some 0, crossingFound := true } := by
  simp [caseDepthStep, hc, hp, hh]

theorem caseDepthStep_crossing {limit z h : Nat} {q : Nat × Nat} (hc : o.crossingFound = false) (hh : h < limit)
    (hp : o.prevMeasured = .some q) : caseDepthStep limit z h o =
      { o with caseStatus := .found, caseValue := .some (q.1 + (z - q.1) * (q.2 - limit) / (q.2 - h)), crossingFound := true } := by
  simp [caseDepthStep, hc, hp, hh]

/-- The interpolated case depth lies before the depth of the record that crosses the limit. -/
theorem interpolation_lt {za ha limit z h : Nat} (hl : limit ≤ ha) (hz : za < z) (hh : h < limit) :
    za + (z - za) * (ha - limit) / (ha - h) < z := by
  have : (z - za) * (ha - limit) / (ha - h) < z - za := by
    rw [Nat.div_lt_iff_lt_mul (by omega)]
    exact Nat.mul_lt_mul_of_pos_left (by omega) (by omega)
  omega

/-! ## A record written (R140, R145) -/

/-- RESULTS WAITING is due once the record being written counts (R145). -/
def resultsDue (o : Order) (s : State) : Bool :=
  s.store.armed o.origin && decide (o.threshold ≤ s.store.waiting o.origin + 1)

/-- The RESULTS WAITING of a record written under a seq (R145). -/
def resultsNotice (o : Order) (seq : Nat) (s : State) : Notice :=
  orderNotice .resultsWaiting o seq (s.store.waiting o.origin + 1)

/-- Where the notice is due it is posted to the origin port and clears its flag; no other port and no other flag changes. -/
theorem countWaiting_due (o : Order) (seq : Nat) (s : State) (p : Port) :
    (countWaiting o seq s).port p
        = (if o.origin = p ∧ resultsDue o s = true then (s.port p).post (resultsNotice o seq s) else s.port p)
      ∧ (countWaiting o seq s).store.armed p = (s.store.armed p && !(decide (o.origin = p) && resultsDue o s)) := by
  have hd : ((s.modStore fun u => u.setWaiting o.origin (u.waiting o.origin + 1)).store.armed o.origin
      && decide (o.threshold ≤ (s.modStore fun u => u.setWaiting o.origin (u.waiting o.origin + 1)).store.waiting o.origin))
      = resultsDue o s := by
    cases ho : o.origin <;> simp only [resultsDue, ho] <;> rfl
  simp only [countWaiting, hd]
  by_cases due : resultsDue o s = true
  · simp only [due, if_true]
    cases ho : o.origin <;> cases p <;> simp [postResultsWaiting, postTo, resultsNotice, ho, ResultStore.setArmed, ResultStore.armed,
      ResultStore.setWaiting, ResultStore.waiting]
  · simp only [due]
    cases ho : o.origin <;> cases p <;> simp [ResultStore.armed, ResultStore.setWaiting]

/-- A record's own fields and its order's notes apart, a write counts it for the origin port. -/
theorem writeRecord_due (o : Order) (r : Record) (s : State) (p : Port) :
    (writeRecord o r s).port p
        = (if o.origin = p ∧ resultsDue o s = true then (s.port p).post (resultsNotice o s.store.nextSeq s) else s.port p)
      ∧ (writeRecord o r s).store.armed p = (s.store.armed p && !(decide (o.origin = p) && resultsDue o s))
      ∧ (writeRecord o r s).table.nextId = s.table.nextId := by
  obtain ⟨hp, ha⟩ := countWaiting_due o s.store.nextSeq (updOrder o.id (noteSeq s.store.nextSeq) (appendRecord r s)) p
  have hid : (updOrder o.id (noteSeq s.store.nextSeq) (appendRecord r s)).table.nextId = s.table.nextId := rfl
  have hport : (updOrder o.id (noteSeq s.store.nextSeq) (appendRecord r s)).port p = s.port p := State.modTable_port _ p _
  rw [hport] at hp
  unfold writeRecord
  dsimp only
  split
  · exact ⟨hp, ha, by simp [hid]⟩
  · exact ⟨(State.modTable_port _ p _).trans hp, ha, by simp [updOrder, appendRecord]⟩

theorem store_ext {t u : ResultStore} (h1 : t.records = u.records) (h2 : t.nextSeq = u.nextSeq) (h3 : t.waitingA = u.waitingA)
    (h4 : t.waitingB = u.waitingB) (h5 : t.armed .A = u.armed .A) (h6 : t.armed .B = u.armed .B) : t = u := by
  cases t; cases u; simp_all [ResultStore.armed]

/-- Settles O60: the report by the record's hardness and the order's case depth, and a write block by block. -/
theorem recordsAreReportedToTheirOrder : Obligations.RecordsAreReportedToTheirOrder := by
  refine ⟨fun r o => ?_, fun o r s => ?_⟩
  · intro o1 add counts
    have hcounts : countRecord r o.counts = counts := countRecord_eq r o.counts
    refine ⟨fun hh => ?_, ?_⟩
    · rw [← hcounts]; exact reportRecord_unmeasured hh
    intro h d1 d2 hh h1 h2 sums
    have hsums : summed r h d1 d2 o = sums := by
      simp only [summed, hcounts, sums, optMin, optMax, referenceDiagonal, meanDiagonal]
      cases o.minHardness <;> cases o.maxHardness <;> cases o.method <;> rfl
    have reported : o1 = evaluateCaseDepth r h sums := hsums ▸ reportRecord_measured hh h1 h2
    refine ⟨fun hc => reported.trans (evaluateCaseDepth_none hc), fun limit z hz hl _ hprev => ?_⟩
    have stepped : o1 = caseDepthStep limit z h sums := reported.trans (evaluateCaseDepth_some hl hz)
    refine ⟨fun hf => ?_, fun hf hle => ?_, fun hf hlt hp => ?_, fun q hq hf hlt => ?_⟩
    · exact stepped.trans (caseDepthStep_found hf)
    · exact stepped.trans (caseDepthStep_above hf hle)
    · exact stepped.trans (caseDepthStep_surface hf hlt hp)
    · obtain ⟨hle, hz⟩ := hprev q hq
      exact ⟨Nat.le_add_right _ _, interpolation_lt hle hz hlt, stepped.trans (caseDepthStep_crossing hf hlt hq)⟩
  · intro seq waiting due n told noted
    have hdue : due = resultsDue o s := rfl
    have hnoted : noteSeq seq = noted := rfl
    obtain ⟨e1, e2, e3, e4⟩ := writeRecord_store o r s
    have hport (p : Port) : (writeRecord o r s).port p = told p := by
      rw [(writeRecord_due o r s p).1]
      rfl
    obtain ⟨-, hA, hid⟩ := writeRecord_due o r s .A
    obtain ⟨-, hB, -⟩ := writeRecord_due o r s .B
    have htable := table_eq hid (writeRecord_orders o r s)
    have hw (p : Port) (h : o.origin = p) : waiting = s.store.waiting p + 1 := by rw [← h]
    apply State.eq_of_blocks
    case h1 => exact hport .A
    case h2 => exact hport .B
    case h4 => exact htable
    case h12 =>
      refine store_ext e1 e2 ?_ ?_ hA hB
      · rw [e3]; split
        · next h => exact (hw .A h).symm
        · rfl
      · rw [e4]; split
        · next h => exact (hw .B h).symm
        · rfl
    all_goals simp

end Sys2Proof.Proofs.Store

/-! # The front point taken and its spacing judged (R35, R37, R49) -/

namespace Sys2Proof.Proofs.Store
open Sys2Proof Sys2Proof.Machine Sys2Proof.Proofs.Orders

variable {s t : State} {o : Order}

/-- The spacing check passes on the exact inequality of R37, or where there is nothing to judge it by. -/
theorem spacingPasses_iff {p : Point} : spacingPasses o p = true ↔
    ∀ d, o.refDiagonal = .some d → ∀ l, o.lastIndent = .some l →
      4 * ((p.x - l.1) ^ 2 + (p.y - l.2) ^ 2) ≥ 25 * (d : Int) ^ 2 := by
  unfold spacingPasses
  cases o.refDiagonal with
  | none => simp
  | some d =>
    cases o.lastIndent with
    | none => simp
    | some l => simp [pow_two]

/-- The move to the indent position of the current point (R49). -/
theorem enterMoveIndent_eq {c : CurPoint} (hc : s.seq.cur = .some c) : enterMoveIndent o s =
    let r := stationRecord o.indenter s
    { s with
      force := { s.force with setPoint := 0 }
      pins := { s.pins with stage := .move (c.x + r.x) (c.y + r.y) }
      seq := if s.inputs.station.level = .some o.indenter ∧ o.indenter < 6 then
          { s.seq with state := .moveIndent, stageOutstanding := true, stagePart := false, turretPart := true
                       timers := { s.seq.timers with stage := .some 10000 } }
        else
          { s.seq with state := .moveIndent, stageOutstanding := true, stagePart := false, turretPart := false
                       turretOutstanding := true, turretRequest := o.indenter
                       timers := { s.seq.timers with stage := .some 10000, turret := .some 5000 } } } := by
  have hreads : stationReads o.indenter (enterState .moveIndent s) = stationReads o.indenter s := rfl
  have hcur : (enterState .moveIndent s).seq.cur = .some c := hc
  simp only [enterMoveIndent, issueMove, hcur]
  by_cases h : s.inputs.station.level = .some o.indenter ∧ o.indenter < 6
  · rw [if_pos h, if_pos (by simpa [stationReads] using h)]; rfl
  · rw [if_neg h, if_neg (by simpa [stationReads] using h)]; rfl

/-- The blocks that taking the front point leaves as they are. -/
theorem frontTaken_kept (o : Order) (p : Point) (rest : List Point) (s : State) :
    (frontTaken o p rest s).force = s.force ∧ (frontTaken o p rest s).pins = s.pins
      ∧ (frontTaken o p rest s).inputs = s.inputs ∧ (frontTaken o p rest s).cal = s.cal := by
  simp [frontTaken]

/-- Settles O49: the front point taken, then the move where the spacing passes and the record where it fails. -/
theorem frontPointIsTakenAndSpaced : Obligations.FrontPointIsTakenAndSpaced := by
  intro o p rest s _ _ hp far c s1 r
  have taken : frontTaken o p rest s = s1 := rfl
  obtain ⟨hforce, hpins, hinputs, hcal⟩ := frontTaken_kept o p rest s
  have hseq := (frontTaken_rest o p rest s).2.2.2.2
  rw [taken] at hforce hpins hinputs hcal hseq
  have hr : stationRecord o.indenter s1 = r := by simp only [stationRecord, hcal, r]
  rw [takePoint_cons hp, taken]
  refine ⟨fun h => ?_, fun h => ?_⟩
  · rw [if_pos (spacingPasses_iff.2 h), enterMoveIndent_eq (c := c) (by rw [hseq])]
    simp only [hr, hforce, hpins, hinputs, hseq]
    rfl
  · rw [if_neg fun e => h (spacingPasses_iff.1 e)]

end Sys2Proof.Proofs.Store

/-! # The reports of the stage and the turret, and the end of a move, a retract or a stop (R39, R50 to R53, R58, R61, R62) -/

namespace Sys2Proof.Proofs.Store
open Sys2Proof Sys2Proof.Machine Sys2Proof.Proofs.Orders

variable {s t : State} {o : Order}

/-! ## The end of a move phase (R51, R52) -/

theorem judgeMove_open (h : ¬(s.seq.stagePart = true ∧ s.seq.turretPart = true)) : judgeMove s = s := by
  rw [judgeMove, if_neg]
  simpa [and_assoc] using fun _ => not_and.1 h

theorem judgeMove_indent (hm : inMove s = true) (h : s.seq.stagePart = true ∧ s.seq.turretPart = true)
    (hs : s.seq.state = .moveIndent) : judgeMove s = enterTare s := by
  rw [judgeMove, if_pos (by simp [hm, h]), if_pos hs]

theorem judgeMove_view (hm : inMove s = true) (h : s.seq.stagePart = true ∧ s.seq.turretPart = true)
    (hs : s.seq.state = .moveView) (ho : ownerOf s = .some o) : judgeMove s = enterSettle o s := by
  rw [judgeMove, if_pos (by simp [hm, h]), if_neg (by simp [hs]), ho]

/-- A turret part that is done already is judged no further. -/
theorem judgeTurret_done (h : s.seq.turretPart = true) : judgeTurret s = s := by
  unfold judgeTurret
  split
  · rfl
  · rw [if_neg (by simp [h])]

theorem judgeTurret_wrong (ho : ownerOf s = .some o) (h : stationReads (requestedStation o s) s = false) : judgeTurret s = s := by
  simp [judgeTurret, ho, h]

theorem judgeTurret_right (ho : ownerOf s = .some o) (hm : inMove s = true) (hp : s.seq.turretPart = false)
    (hd : s.seq.turretOutstanding = false) (h : stationReads (requestedStation o s) s = true) : judgeTurret s =
      judgeMove { s with seq := { s.seq with turretPart := true, timers := { s.seq.timers with turret := .none } } } := by
  simp only [judgeTurret, ho]
  rw [if_pos (by simp [hm, hp, hd, h])]
  rfl

/-! ## The reports (R50, R51) -/

theorem execStgDone_idle (h : s.seq.stageOutstanding = false) : execStgDone s = .next s := by simp [execStgDone, h]

theorem execStgDone_moving (h : s.seq.stageOutstanding = true) (hm : inMove s = true) : execStgDone s = .next (judgeMove
    { s with seq := { s.seq with stageOutstanding := false, stagePart := true, timers := { s.seq.timers with stage := .none } } }) := by
  simp only [execStgDone, h, hm]; rfl

theorem execStgDone_resting (h : s.seq.stageOutstanding = true) (hm : inMove s = false) : execStgDone s = .next (judgeRest true
    { s with seq := { s.seq with stageOutstanding := false } }) := by
  simp only [execStgDone, h, hm]; rfl

theorem execTurDone_idle (h : s.seq.turretOutstanding = false) : execTurDone s = .next s := by simp [execTurDone, h]

theorem execTurDone_moving (h : s.seq.turretOutstanding = true) (hm : inMove s = true) : execTurDone s = .next (judgeTurret
    { s with seq := { s.seq with turretOutstanding := false } }) := by
  simp only [execTurDone, h, hm]; rfl

theorem execTurDone_resting (h : s.seq.turretOutstanding = true) (hm : inMove s = false) : execTurDone s = .next (judgeRest true
    { s with seq := { s.seq with turretOutstanding := false } }) := by
  simp only [execTurDone, h, hm]; rfl

theorem execStgFault_idle (h : s.seq.stageOutstanding = false) : execStgFault s = .next s := by simp [execStgFault, h]

theorem execStgFault_moving (h : s.seq.stageOutstanding = true) : execStgFault s = .next
    (if (abortReasonHeld s).isSome then { s with seq := { s.seq with stageOutstanding := false } }
     else abortPath .motionFault false { s with seq := { s.seq with stageOutstanding := false } }) := by
  simp only [execStgFault, h, abortingRetract_eq]
  rfl

/-! ## A retract or a stop judged (R61, R62) -/

theorem judgeRest_stopping {motion : Bool} (h : s.seq.stopFlag = true) :
    judgeRest motion s = if headAtRest s then finishStop s else s := if_pos h

theorem judgeRest_retracting {motion : Bool} (h : s.seq.stopFlag = false) (hs : s.seq.state = .retract) :
    judgeRest motion s = if headAtRest s then finishRetract s else s := by
  simp [judgeRest, h, hs]

/-- What is stopping or retracting is in no move phase. -/
theorem inMove_false (h : s.seq.stopFlag = true ∨ s.seq.state = .retract) : inMove s = false := by
  rcases h with h | h <;> simp [inMove, h]

theorem judgeSample_resting {count : Int} (h : s.seq.stopFlag = true ∨ s.seq.state = .retract) (ho : ownerOf s = .some o) :
    judgeSample count s = judgeRest false s := by
  unfold judgeSample
  split
  · rfl
  · next hstop => rw [h.resolve_left hstop, ho]

theorem takingBack_eq (p : Point) (x : Order) : takingBack p x =
    { x with points := p :: x.points, counts := { x.counts with taken := x.counts.taken - 1 }
             lowArmed := x.lowArmed || decide (x.lowWater < x.points.length + 1) } := by
  unfold takingBack rearmLowWater
  by_cases h : x.lowWater < x.points.length + 1 <;> simp [h]

/-- Before contact the return reserve stands. -/
theorem reserve_before (h : s.seq.state ∈ [.moveIndent, .tare, .approach]) : returnReserve s = 1 := by
  simp only [List.mem_cons, List.not_mem_nil, or_false] at h
  rcases h with h | h | h <;> simp [returnReserve, h]

theorem reserve_view (h : s.seq.state ∈ [.moveView, .settle, .focus, .measure]) : returnReserve s ≠ 1 := by
  simp only [List.mem_cons, List.not_mem_nil, or_false] at h
  rcases h with h | h | h | h <;> simp [returnReserve, h]

/-- What an event that has a retract or a stop judged leaves of the state it finds. -/
structure Judged (s s1 : State) : Prop where
  table : s1.table = s.table
  arb : s1.arb = s.arb
  pool : s1.poolFree = s.poolFree
  state : s1.seq.state = s.seq.state
  stop : s1.seq.stopFlag = s.seq.stopFlag
  purpose : s1.seq.purpose = s.seq.purpose
  cur : s1.seq.cur = s.seq.cur
  timers : s1.seq.timers = s.seq.timers

theorem Judged.owner {s1 : State} (h : Judged s s1) : ownerOf s1 = ownerOf s := by
  simp only [ownerOf, findOrder, h.arb, h.table]

/-- Settles O46: the reports by the move phase they find, and by the retract or the stop whose end they have judged. -/
theorem motionReportsEndTheMove : Obligations.MotionReportsEndTheMove := by
  refine ⟨fun s => ?_, fun e o s s1 ho he => ?_⟩
  · intro tared viewed stage turret
    refine ⟨fun h => ⟨execStgDone_idle h, execStgFault_idle h⟩, fun h => execTurDone_idle h, fun h hm hp => ?_, fun h hm hp => ?_,
      fun o ho h hm hp => ⟨fun hr => ?_, fun hr hp' => ?_, fun hr hp' => ?_⟩, fun h hm hp => ?_, fun h ha => ?_, fun h ha => ?_,
      fun h => ?_, fun h => ?_, fun h => ?_, fun h => ?_⟩
    · exact (execStgDone_moving h hm).trans (congrArg _ (judgeMove_open (by simp [hp])))
    · have done : exec .stgDone s = .next (judgeMove { s with seq := stage }) := execStgDone_moving h hm
      have parts : stage.stagePart = true ∧ stage.turretPart = true := ⟨rfl, hp⟩
      exact ⟨fun hs => done.trans (congrArg _ (judgeMove_indent (s := { s with seq := stage }) hm parts hs)),
        fun o ho hs => done.trans (congrArg _ (judgeMove_view (s := { s with seq := stage }) hm parts hs ho))⟩
    · exact (execTurDone_moving h hm).trans (congrArg _ (judgeTurret_wrong (o := o) ho hr))
    · have done : exec .turDone s = .next (judgeMove { s with seq := turret }) :=
        (execTurDone_moving h hm).trans (congrArg _ (judgeTurret_right (o := o) ho hm hp rfl hr))
      exact done.trans (congrArg _ (judgeMove_open (by simp [turret, hp'])))
    · have done : exec .turDone s = .next (judgeMove { s with seq := turret }) :=
        (execTurDone_moving h hm).trans (congrArg _ (judgeTurret_right (o := o) ho hm hp rfl hr))
      have parts : turret.stagePart = true ∧ turret.turretPart = true := ⟨hp', rfl⟩
      exact ⟨fun hs => done.trans (congrArg _ (judgeMove_indent (s := { s with seq := turret }) hm parts hs)),
        fun hs => done.trans (congrArg _ (judgeMove_view (s := { s with seq := turret }) hm parts hs ho))⟩
    · exact (execTurDone_moving h hm).trans (congrArg _ (judgeTurret_done hp))
    · exact (execStgFault_moving h).trans (by rw [ha]; rfl)
    · exact (execStgFault_moving h).trans (by rw [ha]; rfl)
    · simp only [exec, execStageTimerExpiry, h]
    · obtain ⟨n, hn⟩ := Option.isSome_iff_exists.1 h
      simp only [exec, execStageTimerExpiry, hn]; rfl
    · simp only [exec, execTurretTimerExpiry, h]
    · obtain ⟨n, hn⟩ := Option.isSome_iff_exists.1 h
      simp only [exec, execTurretTimerExpiry, hn]
  · intro leaves rests retracted stopped paused
    have kept : Judged s s1 := by
      rcases he with ⟨-, -, rfl⟩ | ⟨-, -, rfl⟩ | ⟨_, -, -, rfl⟩ | ⟨_, -, rfl⟩ <;> constructor <;> rfl
    have judged (h : s.seq.stopFlag = true ∨ s.seq.state = .retract) : ∃ motion, leaves (judgeRest motion s1) := by
      have hm := inMove_false h
      rcases he with ⟨rfl, hout, rfl⟩ | ⟨rfl, hout, rfl⟩ | ⟨level, rfl, hne, rfl⟩ | ⟨count, rfl, es⟩
      · exact ⟨_, execStgDone_resting hout hm⟩
      · exact ⟨_, execTurDone_resting hout hm⟩
      · exact ⟨false, congrArg _ (if_neg hne)⟩
      · have sampled : (s.modForce fun f => { f with lastForce := sampleForce count f.tare (gainInUse s) }) = s1 := by
          simp only [State.modForce, sampleForce_gainInUse, es]
        have rested : judgeSample count s1 = judgeRest false s1 :=
          judgeSample_resting (by rwa [kept.stop, kept.state]) (kept.owner.trans ho)
        refine ⟨false, (congrArg (fun u => Host.Outcome.next (sendSetPoint u)) ?_ : exec (.loadSample count) s = _)⟩
        rw [sampled, rested]
    have ho1 : ownerOf s1 = .some o := kept.owner.trans ho
    have atRest : headAtRest s1 = true ↔ rests := headAtRest_iff ho1
    have hretracted : retractOver s1 = retracted := by simp only [retracted, ← kept.timers]; rfl
    have hstopped : stopOver s1 = stopped := by simp only [stopped, ← kept.timers]; rfl
    refine ⟨fun h hr => ?_, fun hstop hs hr => ?_, fun hstop hs hr => ?_, fun hstop hs hr => ?_⟩
    · obtain ⟨motion, hj⟩ := judged h
      have : judgeRest motion s1 = s1 := by
        by_cases hstop : s.seq.stopFlag = true
        · rw [judgeRest_stopping (kept.stop.trans hstop), if_neg fun e => hr (atRest.1 e)]
        · rw [judgeRest_retracting (kept.stop.trans (by simpa using hstop)) (kept.state.trans (h.resolve_left hstop)),
            if_neg fun e => hr (atRest.1 e)]
      rwa [this] at hj
    · obtain ⟨motion, hj⟩ := judged (.inr hs)
      rw [judgeRest_retracting (kept.stop.trans hstop) (kept.state.trans hs), if_pos (atRest.2 hr), finishRetract_eq, ho1,
        hretracted, kept.purpose] at hj
      refine ⟨fun hp => ?_, fun hp => ?_, fun why hp => ?_⟩ <;> rwa [hp] at hj
    · obtain ⟨motion, hj⟩ := judged (.inl hstop)
      rw [judgeRest_stopping (kept.stop.trans hstop), if_pos (atRest.2 hr), finishStop_eq, ho1, hstopped] at hj
      dsimp only at hj
      rw [if_pos (reserve_before (by rwa [kept.state]))] at hj
      refine ⟨fun hc => ?_, fun c hcur hc => ?_⟩
      · rwa [if_pos hc] at hj
      intro returned
      have back : returnPoint o stopped = returned := by
        have held : stopped.seq.cur = .some c := kept.cur.trans hcur
        rw [returnPoint_some held, funext (takingBack_eq c.toPoint)]
        simp only [returned, ← kept.table, ← kept.pool]
        rfl
      rw [if_neg (by simp [hc]), back] at hj
      exact ⟨fun hh => by rwa [if_pos hh] at hj, fun hh => by rwa [if_neg hh] at hj⟩
    · obtain ⟨motion, hj⟩ := judged (.inl hstop)
      rw [judgeRest_stopping (kept.stop.trans hstop), if_pos (atRest.2 hr), finishStop_eq, ho1, hstopped] at hj
      dsimp only at hj
      rw [if_neg (reserve_view (by rwa [kept.state]))] at hj
      refine ⟨fun hc => ?_, fun hc hh => ?_, fun hc hh => ?_⟩
      · rwa [if_pos hc] at hj
      · rwa [if_neg (by simp [hc]), if_pos hh] at hj
      · rwa [if_neg (by simp [hc]), if_neg hh] at hj

end Sys2Proof.Proofs.Store

/-! # ADD POINTS (R31 to R34) -/

namespace Sys2Proof.Proofs.Store
open Sys2Proof Sys2Proof.Machine Sys2Proof.Proofs.Orders

variable {s t : State} {o : Order} {src : Source} {r : AddPointsReq}

/-! ## The checks (R31) -/

/-- A batch of the wrong length for a SINGLE order, or with a depth beyond 20 mm for a TRAVERSE order. -/
def BadBatch (o : Order) (r : AddPointsReq) : Prop :=
  (o.kind = .single ∧ r.points.length ≠ 1) ∨ (o.kind = .traverse ∧ ∃ d ∈ r.points.map (·.depth), 20000000 < d)

/-- Depths of a TRAVERSE order that do not increase from the last one on. -/
def BadDepths (o : Order) (r : AddPointsReq) : Prop :=
  o.kind = .traverse ∧ ¬(o.lastDepth.toList ++ r.points.map (·.depth)).Pairwise (· < ·)

/-- The target of a point at a station lies within stage travel. -/
def Reaches (st : Station) (e : PointEntry) : Prop :=
  -50000000 ≤ e.x + st.x ∧ e.x + st.x ≤ 50000000 ∧ -50000000 ≤ e.y + st.y ∧ e.y + st.y ≤ 50000000

/-- Both targets of every point of the batch lie within stage travel. -/
def InTravel (o : Order) (r : AddPointsReq) (s : State) : Prop :=
  ∀ e ∈ r.points, Reaches (stationRecord o.indenter s) e ∧ Reaches (stationRecord o.objective s) e

theorem pointsValid_iff : pointsValid o r.points = true ↔ ¬BadBatch o r := by
  unfold pointsValid BadBatch
  cases o.kind with
  | single => simp
  | pattern => simp
  | traverse =>
    simp only [List.all_eq_true, decide_eq_true_eq, reduceCtorEq, false_and, true_and, false_or, List.mem_map, not_exists, not_and,
      forall_exists_index, and_imp, forall_apply_eq_imp_iff₂, Nat.not_lt]
    exact Iff.rfl

/-- Depths that increase one by one increase throughout. -/
theorem depthsIncrease_iff (last : Option Nat) (l : List Nat) :
    depthsIncrease last l = true ↔ (last.toList ++ l).Pairwise (· < ·) := by
  rw [← List.isChain_iff_pairwise]
  induction l generalizing last with
  | nil => cases last <;> simp [depthsIncrease]
  | cons d l ih =>
    have ih := ih (.some d)
    cases last with
    | none => simpa [depthsIncrease] using ih
    | some p => simpa [depthsIncrease, List.isChain_cons_cons] using fun _ => ih

theorem inTravel_iff : r.points.all (targetsInTravel (stationRecord o.indenter s) (stationRecord o.objective s)) = true ↔
    InTravel o r s := by
  simp only [List.all_eq_true, targetsInTravel, inTravel, Bool.and_eq_true, decide_eq_true_eq, InTravel, Reaches, and_assoc]
  exact Iff.rfl

theorem addPointsCheck_closed (h : o.lastReceived = true) : addPointsCheck o r s = .some .badState := if_pos h

section
variable (hl : o.lastReceived = false)
include hl

theorem addPointsCheck_badBatch (hb : BadBatch o r) : addPointsCheck o r s = .some .badValue := by
  rw [addPointsCheck, if_neg (by simp [hl]), if_pos fun e => pointsValid_iff.1 e hb]

/-- The checks after the batch itself: the depths, the travel and the room in the pool. -/
theorem addPointsCheck_batch (hb : ¬BadBatch o r) : addPointsCheck o r s =
    if o.kind = .traverse ∧ ¬depthsIncrease o.lastDepth (r.points.map (·.depth)) then .some .depthOrder
    else if ¬r.points.all (targetsInTravel (stationRecord o.indenter s) (stationRecord o.objective s)) then .some .outOfTravel
    else if s.poolFree - returnReserve s < r.points.length then .some .full
    else .none := by
  rw [addPointsCheck, if_neg (by simp [hl]), if_neg (not_not.2 (pointsValid_iff.2 hb))]

theorem addPointsCheck_badDepths (hb : ¬BadBatch o r) (hd : BadDepths o r) : addPointsCheck o r s = .some .depthOrder := by
  rw [addPointsCheck_batch hl hb, if_pos ⟨hd.1, fun e => hd.2 ((depthsIncrease_iff _ _).1 e)⟩]

theorem addPointsCheck_travel (hb : ¬BadBatch o r) (hd : ¬BadDepths o r) : addPointsCheck o r s =
    if ¬r.points.all (targetsInTravel (stationRecord o.indenter s) (stationRecord o.objective s)) then .some .outOfTravel
    else if s.poolFree - returnReserve s < r.points.length then .some .full
    else .none := by
  rw [addPointsCheck_batch hl hb, if_neg fun e => hd ⟨e.1, fun p => e.2 ((depthsIncrease_iff _ _).2 p)⟩]

theorem addPointsCheck_outside (hb : ¬BadBatch o r) (hd : ¬BadDepths o r) (ht : ¬InTravel o r s) :
    addPointsCheck o r s = .some .outOfTravel := by
  rw [addPointsCheck_travel hl hb hd, if_pos fun e => ht (inTravel_iff.1 e)]

theorem addPointsCheck_pool (hb : ¬BadBatch o r) (hd : ¬BadDepths o r) (ht : InTravel o r s) : addPointsCheck o r s =
    if s.poolFree - returnReserve s < r.points.length then .some .full else .none := by
  rw [addPointsCheck_travel hl hb hd, if_neg (not_not.2 (inTravel_iff.2 ht))]

end

/-! ## The append (R32 to R34) -/

/-- The order with a batch appended, its low-water flag armed where the list now exceeds the low-water count. -/
theorem appendPoints_eq (r : AddPointsReq) (o : Order) : appendPoints r o =
    let points := o.points ++ r.points.map (pointOfEntry o.kind)
    { o with points := points
             lastReceived := r.last || decide (o.kind = .single)
             lastDepth := if o.kind = .traverse ∧ r.points ≠ [] then (r.points.map (·.depth)).getLast? else o.lastDepth
             lowArmed := o.lowArmed || decide (o.lowWater < points.length) } := by
  have hdepth : (if o.kind = .traverse then (r.points.getLast?.map (·.depth)).or o.lastDepth else o.lastDepth)
      = if o.kind = .traverse ∧ r.points ≠ [] then (r.points.map (·.depth)).getLast? else o.lastDepth := by
    by_cases hk : o.kind = .traverse
    · by_cases hp : r.points = []
      · simp [hp]
      · simp [hk, hp, List.getLast?_map, List.getLast?_eq_some_getLast hp]
    · simp [hk]
  simp only [appendPoints, rearmLowWater, hdepth]
  by_cases hw : o.lowWater < (o.points ++ r.points.map (pointOfEntry o.kind)).length
  · rw [if_pos hw, decide_eq_true hw, Bool.or_true]
  · rw [if_neg hw, decide_eq_false hw, Bool.or_false]

/-- What an append to the order found leads to. -/
theorem afterAppend_some {id n : Nat} (hf : findOrder id s = .some o) : afterAppend id n s =
    if o.status = .opened then
      if o.lastReceived = true ∧ o.points = [] then endOrder id .completed .none s else if n = 0 then s else grant s
    else if s.arb.owner = .some id ∧ s.seq.state = .awaitPoints ∧ (n ≠ 0 ∨ o.lastReceived = true) then
      boundary (stopStarvation s)
    else s := by
  simp only [afterAppend, hf, Bool.and_eq_true, List.isEmpty_iff]

/-- Settles O24: the refusals of R31 in their order, and what the append leads to by the order's state. -/
theorem addPointsIsCheckedAndAppended : Obligations.AddPointsIsCheckedAndAppended := by
  refine ⟨fun src r o s hl hhead hf => ?_, fun src r s hl hf =>
    served hl (by simp [decideAddPoints, liveOrder_none (findOrder_none hf), Answer.refuse])⟩
  intro depths within badValue badOrder inTravel tooMany refused points o1 s1 accepted
  obtain ⟨hmem, hid⟩ := findOrder_some hf
  have unnamed {st : Status} (h : liveOrder src r.orderId s = .error st) : refused st :=
    served hl (by simp [decideAddPoints, h, Answer.refuse])
  have failed {st : Status} (he : o.status ≠ .ended) (hp : o.origin = src.port) (h : addPointsCheck o r s = .some st) : refused st :=
    served hl (by simp [decideAddPoints, liveOrder_owned hf he hp, h, Answer.refuse])
  refine ⟨fun he => unnamed (liveOrder_ended hf he), fun he hp => unnamed (liveOrder_notOwner hf he hp),
    fun he hp hc => failed he hp (addPointsCheck_closed hc), fun he hp hc hb => failed he hp (addPointsCheck_badBatch hc hb),
    fun he hp hc hb hd => failed he hp (addPointsCheck_badDepths hc hb hd),
    fun he hp hc hb hd ht => failed he hp (addPointsCheck_outside hc hb hd ht),
    fun he hp hc hb hd ht hm => failed he hp ((addPointsCheck_pool hc hb hd ht).trans (if_pos hm)),
    fun he hp hc hb hd ht hm => ?_⟩
  have passed : addPointsCheck o r s = .none := (addPointsCheck_pool hc hb hd ht).trans (if_neg hm)
  have hids := (headOk_iff.1 hhead).books.head.ids
  have appended : (updOrder o.id (appendPoints r) s).setPoolFree (s.poolFree - r.points.length) = s1 := by
    rw [updOrder_eq_replaceOrder hids hmem, appendPoints_eq]; rfl
  have found : findOrder o.id s1 = .some o1 := by
    rw [← appended, findOrder_setPoolFree, findOrder_updOrder _ _ (fun x => (appendPoints_rest r x).1), hid, hf]
    exact congrArg some (appendPoints_eq r o)
  have leads : accepted (afterAppend o.id r.points.length s1) := by
    have hlen : points.length = o.points.length + r.points.length := by simp [points]
    have hfree : s1.poolFree = s.poolFree - r.points.length := rfl
    have decided : decideAddPoints src r s = { state := afterAppend o.id r.points.length s1, status := .accepted
                                               body := bytesOf 2 points.length ++ bytesOf 2 s1.poolFree } := by
      simp only [decideAddPoints, liveOrder_owned hf he hp, passed, appended, hlen, hfree]
    exact served hl decided
  have some_points : r.points.length ≠ 0 ↔ r.points ≠ [] := by simp
  have more : (r.points.length ≠ 0 ∨ o1.lastReceived = true) ↔ (r.points ≠ [] ∨ r.last = true) := by
    have single (hk : o.kind = .single) : r.points ≠ [] := fun e => hb (.inl ⟨hk, by simp [e]⟩)
    have received : o1.lastReceived = true ↔ r.last = true ∨ o.kind = .single := by simp [o1]
    rw [some_points, received]
    exact ⟨fun h => h.elim .inl fun h => h.elim .inr fun hk => .inl (single hk), fun h => h.imp_right .inl⟩
  have owned (hs : o.status ≠ .opened) : s.arb.owner = .some o.id := by
    refine ((headOk_iff.1 hhead).books.head.fits o hmem).active.1 ?_
    cases hst : o.status <;> simp [hst] at hs he ⊢
  rw [afterAppend_some found] at leads
  refine ⟨fun hs hr hn => ?_, fun hs hr hn => ?_, fun hs hr hn => ?_, fun hs hw hn => ?_, fun hs hw => ?_⟩
  · rwa [if_pos hs, if_pos ⟨hr, hn⟩] at leads
  · rwa [if_pos hs, if_neg hr, if_neg (some_points.2 hn)] at leads
  · rwa [if_pos hs, if_neg hr, if_pos (by rw [hn]; rfl)] at leads
  · rwa [if_neg hs, if_pos ⟨owned hs, hw, more.2 hn⟩] at leads
  · rwa [if_neg hs, if_neg fun e => hw ⟨e.2.1, more.1 e.2.2⟩] at leads

end Sys2Proof.Proofs.Store

/-! # The review desk beside the sequencer (R46, R61, R124, R125, R131)

`State.ReviewOk` is the head in order, which every step keeps (`Inv False False`), the store in order, which every step keeps too
(`StoreFits`), and `DeskInOrder`: the point in hand, the purpose and the review are where the sequencer's state has them.  A boundary is
reached with nothing in hand and no review open (`Vacant`), and each pass leaves that again or `DeskInOrder`. -/

namespace Sys2Proof.Proofs.Indent
open Sys2Proof Sys2Proof.Machine Sys2Proof.Proofs.Orders

variable {n m : Nat} {s t : State} {o : Order}

/-! ## The desk in order -/

/-- The point in hand, the purpose and the review are where the sequencer's state has them, the desk over its records. -/
structure DeskInOrder (s : State) : Prop where
  point : s.seq.state.holdsPoint = true → s.seq.cur.isSome = true
  noPoint : s.seq.state.holdsNone = true → s.seq.cur = .none
  purpose : s.seq.purpose.isSome = true ↔ s.seq.state = .retract
  keeps : s.seq.purpose.any RetractPurpose.keepsPoint = true → s.seq.cur.isSome = true
  review : s.desk.review.isSome = true ↔ s.seq.state = .reviewWait
  desk : DeskFits s.arb.owner s.store.records s.desk

/-- The head and the desk in order. -/
structure Reviewed (s : State) : Prop where
  head : Inv False False s
  fits : DeskInOrder s

/-- `State.ReviewOk` in its parts. -/
theorem reviewOk_iff : s.ReviewOk ↔ Reviewed s ∧ StoreFits s.store := by
  constructor
  · rintro ⟨⟨hh, p1, p2, p3, p4⟩, hs, r1, r2, r3, r4⟩
    exact ⟨⟨headOk_iff.1 hh, p1, p2, p3, p4, r1, r2, r3, r4⟩, storeOk_iff.1 hs⟩
  · rintro ⟨⟨hh, p1, p2, p3, p4, r1, r2, r3, r4⟩, hs⟩
    exact ⟨⟨headOk_iff.2 hh, p1, p2, p3, p4⟩, storeOk_iff.2 hs, r1, r2, r3, r4⟩

/-- What of a state the desk's order speaks of stands in another. -/
structure SameDesk (s t : State) : Prop where
  owner : t.arb.owner = s.arb.owner
  records : t.store.records = s.store.records
  desk : t.desk = s.desk
  state : t.seq.state = s.seq.state
  cur : t.seq.cur.isSome = s.seq.cur.isSome
  purpose : t.seq.purpose = s.seq.purpose

theorem DeskInOrder.same (h : DeskInOrder s) (e : SameDesk s t) : DeskInOrder t := by
  obtain ⟨eo, er, ed, es, ec, ep⟩ := e
  refine ⟨by rw [es, ec]; exact h.point, fun hs => ?_, by rw [es, ep]; exact h.purpose, by rw [ec, ep]; exact h.keeps,
    by rw [es, ed]; exact h.review, by rw [eo, er, ed]; exact h.desk⟩
  have := h.noPoint (es ▸ hs)
  simpa [this] using ec

theorem Reviewed.same (h : Reviewed s) (e : SameWork s t) : Reviewed t :=
  ⟨h.head.same e, h.fits.same ⟨e.owner, by rw [e.store], e.desk, e.state, e.cur, e.purpose⟩⟩

/-- The purpose is absent outside RETRACT. -/
theorem DeskInOrder.purpose_none (h : DeskInOrder s) (hs : s.seq.state ≠ .retract) : s.seq.purpose = .none := by
  simpa using h.purpose.1.mt hs

/-! ## No review open -/

/-- No review is open, and no record is in REVIEW. -/
structure NoReview (s : State) : Prop where
  desk : s.desk = { review := .none, window := .none }
  records : ∀ r ∈ s.store.records, r.state ≠ .review

theorem DeskFits.noReview {owner : Option Nat} (h : DeskFits owner s.store.records s.desk) (hn : s.desk.review = .none) :
    NoReview s := by
  have hw : s.desk.window = .none := by simpa [hn] using h.window
  refine ⟨?_, fun r hr e => ?_⟩
  · cases hd : s.desk; simp_all
  · simpa [hn] using (h.state r hr).1 e

theorem DeskInOrder.noReview (h : DeskInOrder s) (hs : s.seq.state ≠ .reviewWait) : NoReview s :=
  DeskFits.noReview h.desk (by simpa using h.review.1.mt hs)

theorem NoReview.deskFits (h : NoReview s) (owner : Option Nat) : DeskFits owner s.store.records s.desk := by
  rw [h.desk]
  exact ⟨rfl, fun r hr => iff_of_false (h.records r hr) nofun, nofun⟩

theorem NoReview.congr (h : NoReview s) (ed : t.desk = s.desk) (er : t.store.records = s.store.records) : NoReview t :=
  ⟨ed.trans h.desk, by rw [er]; exact h.records⟩

/-- With no review open the sequencer may stand in any state but REVIEW_WAIT, its point and its purpose fitting it. -/
theorem NoReview.inOrder (h : NoReview t) (hs : t.seq.state ≠ .reviewWait)
    (point : t.seq.state.holdsPoint = true → t.seq.cur.isSome = true) (noPoint : t.seq.state.holdsNone = true → t.seq.cur = .none)
    (purpose : t.seq.purpose.isSome = true ↔ t.seq.state = .retract)
    (keeps : t.seq.purpose.any RetractPurpose.keepsPoint = true → t.seq.cur.isSome = true) : DeskInOrder t :=
  ⟨point, noPoint, purpose, keeps, by simp [h.desk, hs], h.deskFits _⟩

/-- The sequencer works on a current point. -/
theorem NoReview.works (h : NoReview t) (hs : t.seq.state.holdsPoint = true) (hc : t.seq.cur.isSome = true)
    (hp : t.seq.purpose = .none) : DeskInOrder t := by
  obtain ⟨-, h2, h3, -, h5⟩ := holdsPoint_ne hs
  exact h.inOrder h3 (fun _ => hc) (by simp [h5]) (by simp [hp, h2]) (by simp [hp])

/-- The sequencer pauses, with or without a current point. -/
theorem NoReview.pauses (h : NoReview t) (hs : t.seq.state = .paused) (hp : t.seq.purpose = .none) : DeskInOrder t :=
  h.inOrder (by simp [hs]) (by simp [hs, SeqState.holdsPoint]) (by simp [hs, SeqState.holdsNone]) (by simp [hs, hp]) (by simp [hp])

/-- The sequencer retracts for a purpose. -/
theorem NoReview.retracts {why : RetractPurpose} (h : NoReview t) (hs : t.seq.state = .retract) (hp : t.seq.purpose = .some why)
    (hk : why.keepsPoint = true → t.seq.cur.isSome = true) : DeskInOrder t :=
  h.inOrder (by simp [hs]) (by simp [hs, SeqState.holdsPoint]) (by simp [hs, SeqState.holdsNone]) (by simp [hs, hp])
    (by simpa [hp] using hk)

theorem NoReview.writeRecord {r : Record} (h : NoReview s) (hr : r.state ≠ .review) : NoReview (writeRecord o r s) := by
  refine ⟨by simp [h.desk], ?_⟩
  rw [(writeRecord_store o r s).1]
  simpa [or_imp, forall_and, hr] using h.records

theorem NoReview.recordCurrent {st : RecState} {why : Reason} (h : NoReview s) (hst : st ≠ .review) :
    NoReview (recordCurrent o st why s) := by
  rcases recordCurrent_cases o st why s with ⟨-, e⟩ | ⟨c, -, e⟩ <;> rw [e]
  · exact h
  · exact (h.writeRecord (o := o) (r := recordOf o c st why s) hst).congr (by simp) (by simp)

theorem NoReview.recordImpressions {why : Reason} (l : List Impression) (h : NoReview s) :
    NoReview (recordImpressions o why l s) := by
  induction l generalizing s with
  | nil => exact h
  | cons i l ih => exact ih (h.writeRecord (by simp [recordOf]))

theorem NoReview.flushImpressions {why : Reason} (h : NoReview s) : NoReview (flushImpressions o why s) :=
  (h.recordImpressions (o := o) (why := why) s.seq.impressions).congr rfl rfl

theorem NoReview.endOrder {id : Nat} {out : OrderOutcome} {why : Option AbortReason} (h : NoReview s) :
    NoReview (endOrder id out why s) := by
  refine h.congr (by simp) ?_
  cases hf : findOrder id s with
  | none => simp [Machine.endOrder, hf]
  | some o => simp [(endOrder_effect out why hf).2]

/-! ## The boundary (R47, R48) -/

/-- Nothing is in hand but the listed impressions, and no review is open. -/
structure Vacant (s : State) : Prop extends NoReview s where
  cur : s.seq.cur = .none
  purpose : s.seq.purpose = .none

theorem Vacant.congr (h : Vacant s) (ed : t.desk = s.desk) (er : t.store.records = s.store.records) (ec : t.seq.cur = s.seq.cur)
    (ep : t.seq.purpose = s.seq.purpose) : Vacant t :=
  ⟨h.toNoReview.congr ed er, ec.trans h.cur, ep.trans h.purpose⟩

/-- With nothing in hand the sequencer may stand in a state that works on no point. -/
theorem Vacant.rests (h : Vacant s) (hs : s.seq.state.holdsPoint = false) (hr : s.seq.state ≠ .retract ∧ s.seq.state ≠ .reviewWait) :
    DeskInOrder s :=
  h.inOrder hr.2 (by simp [hs]) (fun _ => h.cur) (by simp [h.purpose, hr.1]) (by simp [h.purpose])

/-- What a pass leaves of the desk: a vacant sequencer where another pass follows, and the desk in order where none does. -/
def Settled : State × Bool → Prop
  | (t, true) => Vacant t
  | (t, false) => DeskInOrder t

theorem Vacant.considerGrant_settled (h : Vacant s) (hs : s.seq.state = .idle) : Settled (considerGrant s) := by
  have idle : DeskInOrder s := h.rests (by simp [hs, SeqState.holdsPoint]) (by simp [hs])
  unfold considerGrant
  split
  · exact idle
  · split
    · exact idle
    · exact h.congr (by simp) (by simp) (by simp) (by simp)

/-- The head is released with nothing in hand. -/
theorem NoReview.released (h : NoReview s) : Vacant (releaseHead s) := ⟨h.congr (by simp) (by simp), by simp, by simp⟩

theorem NoReview.endOwner_settled {id : Nat} {out : OrderOutcome} {why : Option AbortReason} (h : NoReview s) :
    Settled (endOwner id out why s) :=
  h.endOrder.released.considerGrant_settled (by simp)

/-- The owner's impressions recorded and its points discarded, and it ends (R27, R67). -/
theorem NoReview.windUp_settled {id : Nat} {reason : Reason} {out : OrderOutcome} {why : Option AbortReason} (h : NoReview s) :
    Settled (Machine.endOwner id out why (discardPoints o (Machine.flushImpressions o reason s))) :=
  NoReview.endOwner_settled ((h.flushImpressions (o := o) (why := reason)).congr (by simp) (by simp))

theorem Vacant.takeImpression_settled (h : Vacant s) (hi : s.seq.impressions ≠ []) : Settled (takeImpression o s) := by
  unfold takeImpression
  split
  · contradiction
  · next i rest _ =>
    have taken : NoReview (s.modSeq fun q => { q with impressions := rest, cur := .some (CurPoint.ofImpression i) }) :=
      h.toNoReview.congr rfl rfl
    dsimp only
    split
    · exact ⟨taken.recordCurrent (by simp), by simp, by simpa using h.purpose⟩
    · exact NoReview.works (taken.congr (by simp) (by simp)) (by simp [SeqState.holdsPoint]) (by simp) (by simpa using h.purpose)

theorem Vacant.takePoint_settled (h : Vacant s) (hp : o.points ≠ []) : Settled (takePoint o s) := by
  obtain ⟨p, rest, he⟩ := List.exists_cons_of_ne_nil hp
  have taken : NoReview (frontTaken o p rest s) := h.toNoReview.congr (by simp) (by simp)
  rw [takePoint_cons he]
  split
  · exact NoReview.works (taken.congr (by simp) (by simp)) (by simp [SeqState.holdsPoint]) (by simp) (by simpa using h.purpose)
  · exact ⟨taken.recordCurrent (by simp), by simp, by simpa using h.purpose⟩

theorem Vacant.boundaryTake_settled (h : Vacant s) : Settled (boundaryTake o s) := by
  unfold boundaryTake
  split
  · split
    · exact h.endOwner_settled
    · exact Vacant.rests (h.congr (by simp) (by simp) (by simp) (by simp)) (by simp [SeqState.holdsPoint]) (by simp)
  · next hp =>
    split
    · exact Vacant.rests (h.congr (by simp) (by simp) (by simp) (by simp)) (by simp [SeqState.holdsPoint]) (by simp)
    · exact h.takePoint_settled (by simpa using hp)

theorem Vacant.boundaryRun_settled (h : Vacant s) : Settled (boundaryRun o s) := by
  have round (r : RoundPhase) : Vacant (s.modSeq fun q => { q with round := r }) := h.congr rfl rfl rfl rfl
  unfold boundaryRun
  split
  · exact h.boundaryTake_settled
  · split
    · exact (round _).boundaryTake_settled
    · next hi =>
      have hi : s.seq.impressions ≠ [] := by simpa using hi
      split
      · exact h.takeImpression_settled hi
      · split
        · exact (round _).takeImpression_settled hi
        · exact h.boundaryTake_settled

theorem Vacant.boundaryPause_inOrder (h : Vacant s) : DeskInOrder (boundaryPause o s) := by
  unfold boundaryPause
  split
  · exact NoReview.pauses (h.toNoReview.congr (by simp) (by simp)) (by simp) (by simp [h.purpose])
  · exact NoReview.pauses (h.toNoReview.congr (by simp) (by simp)) (by simp) (by simp [h.purpose])

theorem Vacant.boundaryStep_settled (h : Vacant s) (hi : ownerOf s = .none → s.seq.state = .idle) : Settled (boundaryStep s) := by
  unfold boundaryStep
  split
  · next hn => exact h.rests (by simp [hi hn, SeqState.holdsPoint]) (by simp [hi hn])
  · next o _ =>
    have applied : Vacant (updOrder o.id applyPending s) := h.congr (by simp) (by simp) (by simp) (by simp)
    split
    · exact h.windUp_settled
    · dsimp only
      split
      · exact applied.boundaryPause_inOrder
      · exact applied.boundaryRun_settled

/-- At a boundary no owner found is no owner, and the sequencer is idle. -/
theorem AtBoundary.idle {P C : Prop} (h : AtBoundary P C s) (hn : ownerOf s = .none) : s.seq.state = .idle := by
  refine (h.bare (by_contra fun ho => ?_)).1
  have := (ownerOf_isSome_iff h.books.head.ids).2 (h.books.owner_mem ho)
  simp [hn] at this

theorem AtBoundary.boundaryLoop_inOrder (h : AtBoundary False False s) (hv : Vacant s) (hm : passesLeft s < m) :
    DeskInOrder (boundaryLoop m s) := by
  induction m generalizing s with
  | zero => omega
  | succ m ih =>
    have passed := h.boundaryStep_passed le_rfl
    have settled := hv.boundaryStep_settled (AtBoundary.idle h)
    unfold boundaryLoop
    split
    · next t e =>
      rw [e] at passed settled
      exact ih passed.1 settled (by have := passed.2; omega)
    · next t e =>
      rw [e] at settled
      exact settled

/-- From a boundary with nothing in hand the passes come to rest with the desk in order. -/
theorem Vacant.boundary (hv : Vacant s) (h : AtBoundary False False s) (hstop : s.seq.stopFlag = false) : Reviewed (boundary s) :=
  ⟨h.boundary_inv hstop, AtBoundary.boundaryLoop_inOrder h hv (passesLeft_lt_bound s)⟩

/-- What a pass left, with the boundary that follows it. -/
theorem Settled.afterGrant {r : State × Bool} (hv : Settled r) (h : Passed False False m r) (hstop : r.1.seq.stopFlag = false) :
    Reviewed (afterGrant r) := by
  obtain ⟨t, b⟩ := r
  cases b
  · exact ⟨h.unstopped hstop, hv⟩
  · exact Vacant.boundary hv h.1 hstop

/-- A grant considered keeps the desk in order. -/
theorem Reviewed.grant (h : Reviewed s) : Reviewed (grant s) := by
  by_cases ho : s.arb.owner = .none
  · have hs := h.head.seq.idle.1 ho
    have vacant : Vacant s :=
      ⟨h.fits.noReview (by simp [hs]), (h.head.seq.bare ho).1, h.fits.purpose_none (by simp [hs])⟩
    exact (vacant.considerGrant_settled hs).afterGrant (h.head.considerGrant_passed (Nat.lt_succ_self _))
      (by simpa using h.head.stop.bare ho)
  · rwa [grant_owned (Option.isSome_iff_ne_none.2 ho)]

/-- The owner ends with no review open, its impressions recorded and its points discarded, and a grant is considered. -/
theorem NoReview.windUp {reason : Reason} {out : OrderOutcome} {why : Option AbortReason} (hn : NoReview s)
    (h : Books False False n s) (ho : s.arb.owner = .some o.id) (hp : pointsOf o.id s = .some o.points) :
    Reviewed (Machine.afterGrant (Machine.endOwner o.id out why (discardPoints o (Machine.flushImpressions o reason s)))) :=
  hn.windUp_settled.afterGrant (windUp_passed (h.hand nofun) ho hp nofun le_rfl) (by simp [Machine.endOwner])

end Sys2Proof.Proofs.Indent

/-! # The operations of the cycle keep the review desk in order -/

namespace Sys2Proof.Proofs.Indent
open Sys2Proof Sys2Proof.Machine Sys2Proof.Proofs.Orders

variable {n m : Nat} {s t : State} {o : Order}

/-! ## Moves of the sequencer beside the desk -/

/-- The sequencer takes its current point into another state that works on one. -/
theorem DeskInOrder.workOn (h : DeskInOrder s) (hs : s.seq.state.holdsPoint = true) (ht : t.seq.state.holdsPoint = true)
    (ed : t.desk = s.desk) (er : t.store.records = s.store.records) (ec : t.seq.cur.isSome = s.seq.cur.isSome)
    (ep : t.seq.purpose = s.seq.purpose) : DeskInOrder t := by
  obtain ⟨-, h2, h3, -⟩ := holdsPoint_ne hs
  exact ((h.noReview h3).congr ed er).works ht (by rw [ec]; exact h.point hs) (by rw [ep]; exact h.purpose_none h2)

/-- The sequencer pauses, keeping its current point if it has one. -/
theorem DeskInOrder.pause (h : DeskInOrder s) (hs : s.seq.state ≠ .retract ∧ s.seq.state ≠ .reviewWait)
    (ht : t.seq.state = .paused) (ed : t.desk = s.desk) (er : t.store.records = s.store.records)
    (ep : t.seq.purpose = s.seq.purpose) : DeskInOrder t :=
  ((h.noReview hs.2).congr ed er).pauses ht (by rw [ep]; exact h.purpose_none hs.1)

/-- The current point recorded finally leaves nothing in hand. -/
theorem NoReview.recorded {st : RecState} {why : Reason} (h : NoReview s) (hst : st ≠ .review) (hp : s.seq.purpose = .none) :
    Vacant (Machine.recordCurrent o st why s) := ⟨h.recordCurrent hst, by simp, by simpa using hp⟩

/-- The current point of the owner is recorded finally, which is a boundary. -/
theorem Reviewed.recorded {st : RecState} {why : Reason} (h : Reviewed s) (e : SameHead s t) (ho : s.arb.owner = .some o.id)
    (hst : st ≠ .review) (ec : t.seq.cur.isSome = s.seq.cur.isSome) (ei : t.seq.impressions = s.seq.impressions)
    (hp : t.seq.purpose = .none) (hrev : s.seq.state ≠ .reviewWait) (hstop : t.seq.stopFlag = false) :
    Reviewed (boundary (recordCurrent o st why t)) :=
  Vacant.boundary ((((h.fits.noReview hrev).congr e.desk (by rw [e.store])).recorded hst hp))
    (h.head.record_boundary e ho hst ec ei nofun nofun) (by simpa using hstop)

/-! ## The opening and the close of a review (R59, R125, R131, R134) -/

/-- A review opens over the current point of the owner. -/
theorem Reviewed.openReview {why : Reason} (h : Reviewed s) (hst : StoreFits s.store) (ho : s.arb.owner = .some o.id)
    (hs : s.seq.state.holdsPoint = true) (hstop : s.seq.stopFlag = false) : Reviewed (openReview o why s) := by
  obtain ⟨-, h2, h3, -⟩ := holdsPoint_ne hs
  refine ⟨h.head.openReview ho nofun ⟨h2, h3⟩ hstop, ?_⟩
  obtain ⟨c, hc⟩ := Option.isSome_iff_exists.1 (h.fits.point hs)
  have hp := h.fits.purpose_none h2
  have eseq : (Machine.openReview o why s).seq = { s.seq with state := .reviewWait, cur := .none } := by
    simp [Machine.openReview]
  have edesk : (Machine.openReview o why s).desk
      = { review := .some { seq := s.store.nextSeq, orderId := o.id, claimant := .none }, window := .some (o.window * 1000) } := by
    simp [Machine.openReview]
  have erec : (Machine.openReview o why s).store.records
      = s.store.records ++ [{ recordOf o c .review why s with seq := s.store.nextSeq }] := by
    simp [Machine.openReview, recordCurrent, hc, (writeRecord_store o _ s).1]
  refine ⟨by simp [eseq, SeqState.holdsPoint], by simp [eseq], by simp [eseq, hp], by simp [eseq, hp], by simp [eseq, edesk], ?_⟩
  rw [edesk, erec, show (Machine.openReview o why s).arb.owner = s.arb.owner by simp [Machine.openReview]]
  exact h.fits.desk.openOver hst (h.fits.noReview h3 |>.desk ▸ rfl) rfl rfl rfl ho

theorem Reviewed.handleFailure {why : Reason} (h : Reviewed s) (hst : StoreFits s.store) (hs : s.seq.state.holdsPoint = true)
    (hstop : s.seq.stopFlag = false) : Reviewed (handleFailure why s) := by
  obtain ⟨-, h2, h3, -⟩ := holdsPoint_ne hs
  unfold Machine.handleFailure
  split
  · exact h
  · next o ho =>
    obtain ⟨-, hown, -⟩ := h.head.owner ho
    split
    · exact h.openReview hst hown hs hstop
    · exact h.recorded ⟨rfl, rfl, rfl, rfl, rfl⟩ hown (by simp) rfl rfl (h.fits.purpose_none h2) h3 hstop

/-- A final close of the open review leaves no record in REVIEW. -/
theorem DeskInOrder.closed {out : ReviewOutcome} {change : Record → Record} (h : DeskInOrder s) (hc : Closes change)
    (hr : s.desk.review.isSome = true) : NoReview (closeReview out change s) := by
  obtain ⟨v, hv⟩ := Option.isSome_iff_exists.1 hr
  obtain ⟨ed, es, -⟩ := closeReview_some (out := out) (change := change) hv
  have hd : DeskFits s.arb.owner (closeReview out change s).store.records (closeReview out change s).desk := by
    rw [ed, es]; exact h.desk.closed hv hc
  exact DeskFits.noReview hd (by rw [ed])

/-- A final close in REVIEW_WAIT leaves the sequencer vacant. -/
theorem DeskInOrder.closed_vacant {out : ReviewOutcome} {change : Record → Record} (h : DeskInOrder s) (hc : Closes change)
    (hs : s.seq.state = .reviewWait) : Vacant (closeReview out change s) := by
  refine ⟨h.closed hc (h.review.2 hs), ?_, ?_⟩
  · simpa using h.noPoint (by simp [hs, SeqState.holdsNone])
  · simpa using h.purpose_none (by simp [hs])

/-- A final close, and the boundary that follows it. -/
theorem Reviewed.afterClose {out : ReviewOutcome} {change : Record → Record} (h : Reviewed s) (hc : Closes change)
    (hr : s.desk.review.isSome = true) : Reviewed (afterClose (closeReview out change s)) := by
  have hs := h.fits.review.1 hr
  have hstop := h.head.unstopped (by simp [hs, SeqState.stoppable])
  unfold Machine.afterClose
  rw [if_pos (by simpa using hs)]
  exact (h.fits.closed_vacant hc hs).boundary (h.head.closeReview_boundary hc hs) (by simpa using hstop)

/-- A superseded review gives its impression back, and the sequencer views it. -/
theorem Reviewed.supersedeReview (h : Reviewed s) (hs : s.seq.state = .reviewWait) : Reviewed (supersedeReview o s) := by
  refine ⟨h.head.supersedeReview hs, ?_⟩
  cases hv : s.desk.review with
  | none => simpa [Machine.supersedeReview, hv] using h.fits
  | some v =>
    cases hx : findRecord v.seq s with
    | none => simpa [Machine.supersedeReview, hv, hx] using h.fits
    | some x =>
      rw [supersedeReview_some hv hx]
      have dropped : NoReview (superseded v x s) :=
        DeskFits.noReview (owner := s.arb.owner) (by simpa using h.fits.desk.dropped hv) (by simp)
      exact (dropped.congr (by simp) (by simp)).works (by simp [SeqState.holdsPoint]) (by simp)
        (by simpa using h.fits.purpose_none (by simp [hs]))

/-! ## The abort path (R66, R67) -/

/-- The abort records end an owner with no review open. -/
theorem NoReview.abortRecords {why : AbortReason} (hn : NoReview s) (hb : Books False False n s) (ho : ownerOf s = .some o) :
    Reviewed (Machine.abortRecords why s) := by
  have hown := (ownerOf_some ho).2
  have hst : abortState s ≠ .review := by unfold abortState; split <;> simp
  have gone : NoReview (Machine.recordCurrent o (abortState s) .aborted (gathered s)) :=
    (hn.congr (t := gathered s) rfl rfl).recordCurrent hst
  have books : Books False False 0 (Machine.recordCurrent o (abortState s) .aborted (gathered s)) :=
    ((hb.congr (t := gathered s) ⟨rfl, rfl, rfl, rfl, rfl⟩).hand nofun).recordCurrent hown hst
  rw [abortRecords_some why ho]
  refine gone.windUp books (by simpa [gathered] using hown) ?_
  rw [pointsOf_recordCurrent, ← pointsOf_owner ho hb.head.ids]
  exact pointsOf_congr rfl _

theorem Reviewed.abortRecords {why : AbortReason} (h : Reviewed s) (hs : s.seq.state = .retract) :
    Reviewed (Machine.abortRecords why s) := by
  cases ho : ownerOf s with
  | none => simpa [Machine.abortRecords, ho] using h
  | some o => exact (h.fits.noReview (by simp [hs])).abortRecords h.head.books ho

/-- An order that holds the head takes the abort path. -/
theorem Reviewed.abortPath {why : AbortReason} {spent : Bool} (h : Reviewed s) : Reviewed (abortPath why spent s) := by
  cases ho : ownerOf s with
  | none => simpa [Machine.abortPath, ho] using h
  | some o =>
    have retracted : Reviewed (Machine.abortPath why false s) := by
      refine ⟨h.head.abortPath, ?_⟩
      have ed := (halted_sameHead s).desk
      have es := (halted_sameHead s).store
      rw [abortPath_false why ho]
      have retract {u : State} (hu : NoReview u) : DeskInOrder (enterRetract (.abort why) u) :=
        (hu.congr (by simp) (by simp)).retracts (why := .abort why) (by simp) (by simp) (by simp [RetractPurpose.keepsPoint])
      split
      · next hs =>
        have hh : DeskInOrder (halted s) := h.fits.same ⟨(halted_sameHead s).owner, by rw [es], ed, by simp, by simp, by simp⟩
        exact retract (hh.closed (closes_unmeasured .aborted) (hh.review.2 (by simpa using hs)))
      · next hs => exact retract ((h.fits.noReview hs).congr ed (by rw [es]))
    cases spent
    · exact retracted
    · rw [abortPath_true why ho]
      exact retracted.abortRecords (by simp [abortPath_false why ho])

end Sys2Proof.Proofs.Indent

/-! # The ends of a motion, the samples and the views keep the review desk in order -/

namespace Sys2Proof.Proofs.Indent
open Sys2Proof Sys2Proof.Machine Sys2Proof.Proofs.Orders

variable {n m : Nat} {s t : State} {o : Order}

/-! ## Retracts, stops and unloads (R56, R61, R62) -/

theorem Reviewed.finishRetract (h : Reviewed s) (hs : s.seq.state = .retract) : Reviewed (finishRetract s) := by
  have hstop := h.head.unstopped (by simp [hs, SeqState.stoppable])
  cases ho : ownerOf s with
  | none => exact absurd (h.head.seq.idle.1 (h.head.owner_none ho)) (by simp [hs])
  | some o =>
    have hown := (h.head.owner ho).2.1
    have skipped (why : Reason) : Reviewed (boundary (recordCurrent o .skipped why (retractOver s))) :=
      h.recorded (retractOver_sameHead s) hown (by simp) rfl rfl rfl (by simp [hs]) hstop
    rw [finishRetract_eq, ho]
    cases hp : s.seq.purpose with
    | none => simpa [hp] using h.fits.purpose.2 hs
    | some p =>
      cases p with
      | cancel => exact skipped .cancelled
      | noContact => exact skipped .noContact
      | abort why =>
        have ended : NoReview (retractOver s) := (h.fits.noReview (by simp [hs])).congr rfl rfl
        exact ended.abortRecords (h.head.books.congr (retractOver_sameHead s)) ho

/-- A stop over leaves the desk as it was. -/
theorem Reviewed.stopOver (h : Reviewed s) : Reviewed (stopOver s) := ⟨h.head.stopOver, h.fits.same ⟨rfl, rfl, rfl, rfl, rfl, rfl⟩⟩

theorem NoReview.returnPoint (h : NoReview s) : NoReview (returnPoint o s) := by
  cases hc : s.seq.cur with
  | none => simpa [Machine.returnPoint, hc] using h
  | some c => rw [returnPoint_some hc]; exact h.congr rfl rfl

theorem Reviewed.finishStop (h : Reviewed s) (hs : s.seq.stopFlag = true) : Reviewed (finishStop s) := by
  have hw := stoppable_holdsPoint (h.head.stop.stop hs)
  obtain ⟨h1, h2, h3, -⟩ := holdsPoint_ne hw
  have h' : Reviewed (Proofs.Orders.stopOver s) := h.stopOver
  have hp : s.seq.purpose = .none := h.fits.purpose_none h2
  have head := h.head.finishStop hs
  rw [finishStop_eq] at head ⊢
  cases ho : ownerOf s with
  | none => exact h'
  | some o =>
    have hown := (h.head.owner ho).2.1
    have recorded (st : RecState) (why : Reason) (hst : st ≠ .review) :
        Reviewed (boundary (recordCurrent o st why (Proofs.Orders.stopOver s))) :=
      h.recorded (stopOver_sameHead s) hown hst rfl rfl hp h3 rfl
    have returned : NoReview (Machine.returnPoint o (Proofs.Orders.stopOver s)) := (h'.fits.noReview h3).returnPoint
    rw [ho] at head
    dsimp only at head ⊢
    split
    · next hres =>
      rw [if_pos hres] at head
      split
      · exact recorded _ _ (by simp)
      · next hcan =>
        rw [if_neg hcan] at head
        split
        · next hheld =>
          rw [if_pos hheld] at head
          exact ⟨head, (returned.congr (by simp) (by simp)).pauses (by simp) (by simp [hp])⟩
        · have vacant : Vacant (Machine.returnPoint o (Proofs.Orders.stopOver s)) := ⟨returned, by simp, by simp [hp]⟩
          exact vacant.boundary (h'.head.returnPoint_boundary ho hres) (by simp)
    · next hres =>
      rw [if_neg hres] at head
      split
      · exact recorded _ _ (by simp)
      · next hcan =>
        rw [if_neg hcan] at head
        split
        · next hheld =>
          rw [if_pos hheld] at head
          exact ⟨head, h'.fits.pause ⟨h2, h3⟩ (by simp) (by simp) (by simp) (by simp)⟩
        · next hheld =>
          rw [if_neg hheld] at head
          exact ⟨head, h'.fits.workOn hw (by simp [SeqState.holdsPoint]) (by simp) (by simp) (by simp) (by simp)⟩

theorem Reviewed.finishUnload (h : Reviewed s) (hs : s.seq.state = .unload) : Reviewed (finishUnload s) := by
  have head := h.head.finishUnload hs
  have h' : Reviewed (unloadOver s) := h.same (unloadOver_same s)
  have hw : (unloadOver s).seq.state.holdsPoint = true := by simp [hs, SeqState.holdsPoint]
  obtain ⟨h1, h2, h3, -⟩ := holdsPoint_ne hw
  have hstop : (unloadOver s).seq.stopFlag = false := h.head.unstopped (by simp [hs, SeqState.stoppable])
  have hp : (unloadOver s).seq.purpose = .none := h'.fits.purpose_none h2
  have hn : NoReview (unloadOver s) := h'.fits.noReview h3
  have ho' : ownerOf (unloadOver s) = ownerOf s := rfl
  rw [finishUnload_eq] at head ⊢
  cases ho : ownerOf s with
  | none => exact h'
  | some o =>
    obtain ⟨-, hown, -⟩ := h'.head.owner (ho'.trans ho)
    cases hc : (unloadOver s).seq.cur with
    | none => exact h'
    | some c =>
      rw [ho, hc] at head
      generalize unloadOver s = u at *
      have recorded (why : Reason) : Reviewed (boundary (recordCurrent o .unmeasured why u)) :=
        h'.recorded ⟨rfl, rfl, rfl, rfl, rfl⟩ hown (by simp) rfl rfl hp h3 hstop
      dsimp only at head ⊢
      split
      · exact recorded _
      · next hcan =>
        rw [if_neg hcan] at head
        cases hmode : o.mode with
        | deferred =>
          rw [hmode] at head
          have vacant : Vacant (u.modSeq fun q => { q with cur := .none, impressions := q.impressions ++ [Impression.ofPoint c] }) :=
            ⟨hn.congr rfl rfl, rfl, hp⟩
          refine vacant.boundary ⟨(h'.head.books.hand nofun).congr ⟨rfl, rfl, rfl, rfl, rfl⟩, ?_, nofun, nofun, nofun, nofun⟩ hstop
          simp [hown]
        | immediate =>
          rw [hmode] at head
          cases hm : c.mark with
          | some m => exact recorded _
          | none =>
            rw [hm] at head
            dsimp only at head ⊢
            split
            · next hheld =>
              rw [if_pos hheld] at head
              exact ⟨head, h'.fits.pause ⟨h2, h3⟩ (by simp) (by simp) (by simp) (by simp)⟩
            · next hheld =>
              rw [if_neg hheld] at head
              exact ⟨head, h'.fits.workOn hw (by simp [SeqState.holdsPoint]) (by simp) (by simp) (by simp) (by simp)⟩

theorem Reviewed.judgeRest {motion : Bool} (h : Reviewed s) : Reviewed (judgeRest motion s) := by
  unfold Machine.judgeRest
  split
  · next hs =>
    split
    · exact h.finishStop hs
    · exact h
  · split
    · next hs =>
      split
      · exact h.finishRetract hs
      · exact h
    · next hs =>
      split
      · exact h.finishUnload hs
      · exact h
    · exact h

/-! ## Moves and samples -/

theorem Reviewed.judgeMove (h : Reviewed s) : Reviewed (judgeMove s) := by
  refine ⟨h.head.judgeMove, ?_⟩
  unfold Machine.judgeMove
  split
  · next hm =>
    simp only [Bool.and_eq_true] at hm
    obtain ⟨-, hs⟩ := inMove_iff.1 hm.1.1
    have hw : s.seq.state.holdsPoint = true := by rcases hs with e | e <;> simp [e, SeqState.holdsPoint]
    split
    · exact h.fits.workOn hw (by simp [SeqState.holdsPoint]) (by simp) (by simp) (by simp) (by simp)
    · split
      · exact h.fits
      · exact h.fits.workOn hw (by simp [SeqState.holdsPoint]) (by simp) (by simp) (by simp) (by simp)
  · exact h.fits

theorem Reviewed.judgeTurret (h : Reviewed s) : Reviewed (judgeTurret s) := by
  unfold Machine.judgeTurret
  split
  · exact h
  · split
    · exact Reviewed.judgeMove (h.same ⟨⟨rfl, rfl, rfl, rfl, rfl⟩, rfl, rfl, rfl, rfl, rfl⟩)
    · exact h

/-- What a load sample leaves of the desk in a state that forces or approaches: the point in hand, in a state that works on one. -/
structure Samples (s t : State) : Prop where
  works : s.seq.state.holdsPoint = true → t.seq.state.holdsPoint = true
  desk : t.desk = s.desk
  store : t.store = s.store
  cur : t.seq.cur.isSome = s.seq.cur.isSome
  purpose : t.seq.purpose = s.seq.purpose

theorem samples_tare (count : Int) (s : State) : Samples s (tareSample count s) := by
  unfold tareSample
  dsimp only
  split <;> constructor <;> simp [SeqState.holdsPoint]

theorem samples_approach (o : Order) (s : State) : Samples s (approachSample o s) := by
  unfold approachSample contactMade enterRamp
  split
  · split
    · constructor <;> simp
    · next c hc => constructor <;> simp [SeqState.holdsPoint, hc]
  · constructor <;> simp

theorem samples_ramp (o : Order) (s : State) : Samples s (rampSample o s) := by
  unfold rampSample
  dsimp only
  split <;> constructor <;> simp [SeqState.holdsPoint]

theorem samples_dwell (o : Order) (s : State) : Samples s (dwellSample o s) := by
  unfold dwellSample dwellGate forceLost
  dsimp only
  split
  · constructor <;> simp [SeqState.holdsPoint]
  · split <;> split <;> constructor <;> simp [SeqState.holdsPoint]

theorem DeskInOrder.sampled (h : DeskInOrder s) (hs : s.seq.state.holdsPoint = true) (e : Samples s t) : DeskInOrder t :=
  h.workOn hs (e.works hs) e.desk (by rw [e.store]) e.cur e.purpose

theorem Reviewed.judgeSample {count : Int} (h : Reviewed s) : Reviewed (judgeSample count s) := by
  have head := h.head.judgeSample (count := count)
  unfold Machine.judgeSample at head ⊢
  split
  · exact h.judgeRest
  · next hstop =>
    rw [if_neg hstop] at head
    split
    · next hs ho =>
      rw [hs, ho] at head
      exact ⟨head, h.fits.sampled (by simp [hs, SeqState.holdsPoint]) (samples_tare _ _)⟩
    · next hs ho =>
      rw [hs, ho] at head
      exact ⟨head, h.fits.sampled (by simp [hs, SeqState.holdsPoint]) (samples_approach _ _)⟩
    · next hs ho =>
      rw [hs, ho] at head
      exact ⟨head, h.fits.sampled (by simp [hs, SeqState.holdsPoint]) (samples_ramp _ _)⟩
    · next hs ho =>
      rw [hs, ho] at head
      exact ⟨head, h.fits.sampled (by simp [hs, SeqState.holdsPoint]) (samples_dwell _ _)⟩
    · exact h.judgeRest
    · exact h.judgeRest
    · exact h

/-! ## Views and measurements -/

theorem Reviewed.followFocus (h : Reviewed s) : Reviewed (followFocus s) := by
  refine ⟨h.head.followFocus, ?_⟩
  unfold Machine.followFocus
  split
  · next hs =>
    exact h.fits.workOn (by simp [hs.1, SeqState.holdsPoint]) (by simp [SeqState.holdsPoint]) (by simp) (by simp) (by simp) (by simp)
  · exact h.fits

/-- A view in progress works on a current point. -/
theorem inView_holdsPoint (h : inView s = true) : s.seq.state.holdsPoint = true := by
  obtain ⟨-, e | e⟩ := inView_iff.1 h <;> simp [e, SeqState.holdsPoint]

/-- The frames of a view noted beside a change of the capture unit leave what the desk's order speaks of. -/
theorem Reviewed.noteFrames {n : Nat} {soft : Bool} {f : CaptureUnit → CaptureUnit} (h : Reviewed s) :
    Reviewed (noteFrames n soft (s.modCap f)) := h.same ⟨⟨rfl, rfl, rfl, rfl, rfl⟩, rfl, by simp [Machine.noteFrames], rfl, rfl, rfl⟩

theorem Reviewed.captureFailure {why : Reason} (h : Reviewed s) (hst : StoreFits s.store) (hv : inView s = true) :
    Reviewed (captureFailure why s) :=
  Reviewed.handleFailure h.noteFrames hst (inView_holdsPoint (s := s) hv) (inView_iff.1 hv).1

theorem Reviewed.chooseBank {b : BankId} {soft : Bool} (h : Reviewed s) (hv : inView s = true) : Reviewed (chooseBank b soft o s) :=
  ⟨h.head.chooseBank hv, (h.noteFrames (n := s.cap.framesScored) (soft := soft) (f := CaptureUnit.handOver b)).fits.workOn
    (t := Machine.chooseBank b soft o s) (inView_holdsPoint (s := s) hv) (by simp [Machine.chooseBank, SeqState.holdsPoint])
    (by simp [Machine.chooseBank]) (by simp [Machine.chooseBank]) (by simp [Machine.chooseBank]) (by simp [Machine.chooseBank])⟩

theorem Reviewed.judgeFocus {v : ViewParams} (h : Reviewed s) (hst : StoreFits s.store) (hv : inView s = true) :
    Reviewed (judgeFocus v o s) := by
  unfold Machine.judgeFocus
  split
  · exact h
  · split
    · exact h.chooseBank hv
    · split
      · exact h
      · split
        · exact h.chooseBank hv
        · exact h.captureFailure hst hv

theorem Reviewed.takeReport {r : Except Reason Measured} (h : Reviewed s) (hst : StoreFits s.store) (ho : s.arb.owner = .some o.id)
    (hs : s.seq.state = .measure) (hstop : s.seq.stopFlag = false) : Reviewed (takeReport o r s) := by
  unfold Machine.takeReport
  split
  · exact h.handleFailure hst (by simp [hs, SeqState.holdsPoint]) hstop
  · next m c hc =>
    have measured : (measuredRecord o c m s).state ≠ .review := by simp [measuredRecord, recordOf]
    have vacant : Vacant (dropCurrent (writeRecord o (measuredRecord o c m s) s)) :=
      ⟨((h.fits.noReview (by simp [hs])).writeRecord (o := o) measured).congr (by simp) (by simp), by simp,
        by simpa using h.fits.purpose_none (by simp [hs])⟩
    have books : Books False False 0 (writeRecord o (measuredRecord o c m s) s) :=
      (h.head.books.hand nofun).writeRecord ho measured rfl
    exact vacant.boundary ⟨(books.hand nofun).congr (by constructor <;> simp), by simp [ho], nofun, nofun, nofun, nofun⟩
      (by simpa using hstop)
  · exact h

end Sys2Proof.Proofs.Indent

/-! # The requests and the interlocks keep the review desk in order -/

namespace Sys2Proof.Proofs.Indent
open Sys2Proof Sys2Proof.Machine Sys2Proof.Proofs.Orders

variable {n m : Nat} {s t : State} {o : Order} {p : Port} {src : Source}

/-- The orders, the owner, the pool, the store, the desk and the sequencer stand. -/
theorem Reviewed.quiet (h : Reviewed s) (e : SameHead s t) (eq : t.seq = s.seq) : Reviewed t := h.same (.of_seq e eq)

theorem DeskInOrder.quiet (h : DeskInOrder s) (ea : t.arb.owner = s.arb.owner) (es : t.store = s.store) (ed : t.desk = s.desk)
    (eq : t.seq = s.seq) : DeskInOrder t := h.same ⟨ea, by rw [es], ed, by rw [eq], by rw [eq], by rw [eq]⟩

/-! ## Holds and their end (R8, R21 to R24, R169) -/

theorem DeskInOrder.pauseWaiting (h : DeskInOrder s) (hs : waitingAtBoundary s = true) : DeskInOrder (pauseWaiting s) := by
  have hs := waitingAtBoundary_iff.1 hs
  exact h.pause (by rcases hs with e | e <;> simp [e]) (by simp) (by simp) (by simp) (by simp)

theorem DeskInOrder.updOrder {id : Nat} {f : Order → Order} (h : DeskInOrder s) : DeskInOrder (updOrder id f s) :=
  h.quiet rfl rfl rfl rfl

theorem DeskInOrder.holdOwner {f : Holds → Holds} {g : PendingHolds → PendingHolds} (h : DeskInOrder s) :
    DeskInOrder (holdOwner o f g s) := by
  unfold Machine.holdOwner
  split
  · exact h.updOrder
  · split
    · next hw => exact DeskInOrder.pauseWaiting h.updOrder hw
    · exact h.updOrder

theorem DeskInOrder.holdEffect (h : DeskInOrder s) : DeskInOrder (holdEffect o s) := by
  unfold Machine.holdEffect
  split
  · exact h
  · split
    · exact h.updOrder
    · exact h.holdOwner

theorem DeskInOrder.holdAllEffect (h : DeskInOrder s) : DeskInOrder (holdAllEffect s) := by
  have flagged : DeskInOrder (s.modArb fun a => { a with deviceHold := true }) := h.quiet rfl rfl rfl rfl
  unfold Machine.holdAllEffect
  split
  · exact h
  · dsimp only
    split
    · exact flagged
    · split
      · exact flagged
      · exact flagged.holdOwner

/-- The owner, RUNNING again, goes on from where the sequencer stands. -/
theorem Reviewed.resumeOwner (h : Reviewed (updOrder o.id (fun x => { x with status := .running }) s)) : Reviewed (resumeOwner o s) := by
  have head := h.head.resumeOwner
  generalize hu : Machine.updOrder o.id (fun x => { x with status := .running }) s = u at h
  have hseq : u.seq = s.seq := by rw [← hu]; rfl
  by_cases hp : s.seq.state = .paused
  · have hstop := h.head.unstopped (by simp [hseq, hp, SeqState.stoppable])
    have quiet : NoReview u := h.fits.noReview (by simp [hseq, hp])
    have hpur := h.fits.purpose_none (by simp [hseq, hp])
    cases hc : s.seq.cur with
    | some c =>
      rw [resumeOwner_paused hp hc, hu] at head ⊢
      exact ⟨head, (quiet.congr (by simp) (by simp)).works (by simp [SeqState.holdsPoint]) (by simp [hseq, hc]) (by simp [hpur])⟩
    | none =>
      rw [resumeOwner_boundary hp hc, hu]
      exact Vacant.boundary ⟨quiet, by rw [hseq, hc], hpur⟩
        (h.head.atBoundary ⟨rfl, rfl, rfl, rfl, rfl⟩ (by simp [hseq, hp]) nofun nofun nofun rfl nofun) hstop
  · by_cases hr : s.seq.state = .reviewWait
    · rw [resumeOwner_review hr, hu]
      exact h.supersedeReview (by rw [hseq, hr])
    · rw [resumeOwner_working hp hr, hu]
      exact h

/-- A HELD order without a cause but OWN and INTERLOCK is RUNNING once they are removed. -/
theorem Inv.ownRemoved {P C : Prop} (h : Inv P C s) (hm : o ∈ s.table.orders) (hh : o.status = .held) (hd : o.holds.device = false) :
    Inv P C (updOrder o.id (fun x => { dropOwn x with status := .running }) s) := by
  have hown := (h.books.head.fits o hm).active.1 (.inr hh)
  refine h.update fun x hx e => ?_
  obtain rfl := eq_of_id_eq h.books.head.ids hx hm e
  exact ⟨carries_of_holds rfl rfl rfl rfl nofun, rfl, ⟨by simp [hown, dropOwn], fun _ => by simpa using hd⟩⟩

theorem Reviewed.resumeEffect {id : Nat} (h : Reviewed s) (hf : findOrder id s = .some o) (hne : o.status ≠ .ended) :
    Reviewed (resumeEffect o s) := by
  obtain ⟨hm, rfl⟩ := findOrder_some hf
  have head := h.head.resumeEffect hf hne
  by_cases hk : o.holds.own = false ∧ o.holds.interlock = false ∧ o.pendingHolds.own = false
  · rwa [resumeEffect_lacks hk]
  · have dropped : DeskInOrder (Machine.updOrder o.id dropOwn s) := h.fits.updOrder
    rw [resumeEffect_removes hk] at head ⊢
    split
    · next hd => rw [if_pos hd] at head; exact ⟨head, dropped⟩
    · next hd =>
      rw [if_neg hd] at head
      have hd : o.holds.device = false := by simpa using hd
      split
      · next hh =>
        refine Reviewed.resumeOwner (o := dropOwn o) ?_
        rw [show (dropOwn o).id = o.id from rfl, updOrder_updOrder o.id dropOwn _ (fun _ => rfl)]
        exact ⟨Inv.ownRemoved h.head hm hh hd, h.fits.updOrder⟩
      · next hh =>
        rw [if_neg hh] at head
        split
        · next hop =>
          exact Reviewed.grant ⟨h.head.holdOpened hm hop (f := dropOwn) ⟨rfl, rfl, rfl, rfl, rfl, rfl⟩, dropped⟩
        · next hop => rw [if_neg hop] at head; exact ⟨head, dropped⟩

/-- Removing DEVICE leaves every order fitting the owner, the one left without a cause RUNNING. -/
theorem Inv.deviceFreed {P C : Prop} (h : Inv P C s) : Inv P C (deviceFreed s) := by
  refine h.mapOrders (g := freeing) (fun x hx => ?_) rfl rfl rfl rfl rfl rfl
  have hfit := h.books.head.fits x hx
  refine ⟨carries_of_holds rfl rfl rfl rfl ?_, rfl, ⟨?_, fun e => ?_⟩⟩
  · unfold freeing; dsimp only; split <;> simp
  · rw [show (freeing x).id = x.id from rfl, ← hfit.active]
    unfold freeing
    dsimp only
    split
    · next hk => simp [hk.1]
    · rfl
  · have := hfit.held e
    simp only [freeing, dropDevice, Holds.any, Bool.or_eq_true] at this ⊢
    split
    · next hk => simp [hk.2]
    · next hk => grind

theorem Reviewed.deviceFreed (h : Reviewed s) : Reviewed (deviceFreed s) :=
  ⟨Inv.deviceFreed h.head, h.fits.quiet rfl rfl rfl rfl⟩

theorem Reviewed.resumeAllEffect (h : Reviewed s) : Reviewed (resumeAllEffect s) := by
  have hh := h.head.books.head
  by_cases hk : ∃ o, ownerOf s = .some o ∧ o.status = .held ∧ o.holds.own = false ∧ o.holds.interlock = false
  · obtain ⟨o, ho, hk⟩ := hk
    rw [resumeAllEffect_resumes ho hk]
    refine Reviewed.grant (Reviewed.resumeOwner ?_)
    rw [show (dropDevice o).id = o.id from rfl, deviceDropped_resumed (headOk_iff.2 h.head) ho hk]
    exact h.deviceFreed
  · have hk' : ∀ x ∈ s.table.orders, ¬(x.status = .held ∧ x.holds.own = false ∧ x.holds.interlock = false) := fun x hx e => by
      have hx' : ownerOf s = .some x := h.head.active_owner (findOrder_eq hh.ids hx) (.inr e.1)
      exact hk ⟨x, hx', e⟩
    rw [resumeAllEffect_rest fun o ho e => hk ⟨o, ho, e⟩, deviceDropped_eq hk']
    exact h.deviceFreed.grant

/-! ## ADD POINTS and CANCEL ORDER (R25 to R27, R31 to R33) -/

/-- The end of an order leaves the desk as it was. -/
theorem DeskInOrder.endOrder {id : Nat} {out : OrderOutcome} {why : Option AbortReason} (h : DeskInOrder s) :
    DeskInOrder (endOrder id out why s) := by
  refine h.same ⟨by simp, ?_, by simp, by simp, by simp, by simp⟩
  cases hf : findOrder id s with
  | none => simp [Machine.endOrder, hf]
  | some o => simp [(endOrder_effect out why hf).2]

/-- A sequencer that waits at a boundary holds nothing, and no review is open. -/
theorem DeskInOrder.waiting (h : DeskInOrder s) (hs : waitingAtBoundary s = true) : Vacant s := by
  rcases waitingAtBoundary_iff.1 hs with e | e
  all_goals exact ⟨h.noReview (by simp [e]), h.noPoint (by simp [e, SeqState.holdsNone]), h.purpose_none (by simp [e])⟩

/-- A sequencer that waits at a boundary goes through its steps. -/
theorem Reviewed.wake (h : Reviewed s) (hs : waitingAtBoundary s = true) (e : SameHead s t) (ec : t.seq.cur = s.seq.cur)
    (ei : t.seq.impressions = s.seq.impressions) (ep : t.seq.purpose = s.seq.purpose) (ef : t.seq.stopFlag = s.seq.stopFlag) :
    Reviewed (boundary t) := by
  refine ((h.fits.waiting hs).congr e.desk (by rw [e.store]) ec ep).boundary (h.head.atBoundary e ?_ nofun nofun nofun ei nofun) ?_
  · rcases waitingAtBoundary_iff.1 hs with e | e <;> simp [e]
  · rw [ef]
    exact h.head.unstopped (by rcases waitingAtBoundary_iff.1 hs with e | e <;> simp [e, SeqState.stoppable])

theorem Reviewed.afterAppend {id n : Nat} (h : Reviewed s) : Reviewed (afterAppend id n s) := by
  refine ⟨h.head.afterAppend, ?_⟩
  unfold Machine.afterAppend
  split
  · exact h.fits
  · split
    · split
      · exact h.fits.endOrder
      · split
        · exact h.fits
        · exact h.grant.fits
    · split
      · next hw =>
        exact (h.wake (t := stopStarvation s) (by simp [waitingAtBoundary, hw.2.1]) (by constructor <;> simp) (by simp) (by simp)
          (by simp) (by simp)).fits
      · exact h.fits

/-- Points appended to an order leave the head in order. -/
theorem Inv.appended {r : AddPointsReq} {k : Nat} (h : Inv False False s) (hm : o ∈ s.table.orders) :
    Inv False False ((updOrder o.id (appendPoints r) s).setPoolFree k) := by
  have hfit := h.books.head.fits o hm
  exact h.rebook (h.books.update hm (f := appendPoints r) rfl rfl (by simp) ⟨by simpa using hfit.active, by simpa using hfit.held⟩
    nofun nofun nofun nofun) rfl rfl rfl nofun nofun

theorem Reviewed.decideAddPoints {r : AddPointsReq} (h : Reviewed s) : Reviewed (decideAddPoints src r s).state := by
  unfold Machine.decideAddPoints
  split
  · exact h
  · next o ho =>
    split
    · exact h
    · exact Reviewed.afterAppend ⟨Inv.appended h.head (findOrder_some (liveOrder_ok ho).1).1, h.fits.quiet rfl rfl rfl rfl⟩

/-- A cancel that completes with no review open. -/
theorem NoReview.cancelNow (hn : NoReview s) (h : Books False False n s) (ho : s.arb.owner = .some o.id)
    (hp : pointsOf o.id s = .some o.points) : Reviewed (cancelNow o s) := hn.windUp h ho hp

theorem Reviewed.cancelOwner (h : Reviewed s) (ho : ownerOf s = .some o) : Reviewed (cancelOwner o s) := by
  have head := h.head.cancelOwner ho
  have h1 : Reviewed (markCancel o s) := ⟨h.head.markCancel, h.fits.updOrder⟩
  have hp : pointsOf o.id (markCancel o s) = .some o.points := by
    rw [← pointsOf_owner ho h.head.books.head.ids]
    exact pointsOf_of_map (g := fun x => if x.id = o.id then { x with cancelPending := true } else x)
      (fun x => by split <;> rfl) (fun x => by split <;> rfl) rfl _
  have hown : (markCancel o s).arb.owner = .some o.id := (h.head.owner ho).2.1
  have hseq : (markCancel o s).seq = s.seq := rfl
  unfold Machine.cancelOwner at head ⊢
  dsimp only at head ⊢
  generalize markCancel o s = u at *
  rw [← hseq] at head ⊢
  split
  · exact h1
  · next hstop =>
    rw [if_neg hstop] at head
    have retract {v : State} (hw : u.seq.state.holdsPoint = true) (ed : v.desk = u.desk) (er : v.store = u.store)
        (ec : v.seq.cur = u.seq.cur) : DeskInOrder (enterRetract .cancel v) := by
      obtain ⟨-, -, h3, -⟩ := holdsPoint_ne hw
      exact ((h1.fits.noReview h3).congr (by simpa using ed) (by simp [er])).retracts (why := .cancel) (by simp) (by simp)
        fun _ => by simpa [ec] using h1.fits.point hw
    have unload (hw : u.seq.state.holdsPoint = true) : DeskInOrder (enterUnload u) :=
      h1.fits.workOn hw (by simp [SeqState.holdsPoint]) (by simp) (by simp) (by simp) (by simp)
    cases hs : u.seq.state with
    | moveIndent | tare | approach =>
      rw [hs] at head
      exact ⟨head, retract (by simp [hs, SeqState.holdsPoint]) (by simp) (by simp) (by simp)⟩
    | ramp | dwell => rw [hs] at head; exact ⟨head, unload (by simp [hs, SeqState.holdsPoint])⟩
    | unload | moveView | settle | focus | measure | retract | idle => exact h1
    | reviewWait =>
      exact (h1.fits.closed_vacant (closes_unmeasured .cancelled) hs).cancelNow
        (h1.head.closeReview_boundary (closes_unmeasured .cancelled) hs).books (by simpa using hown) (by simpa using hp)
    | awaitPoints =>
      have vacant := h1.fits.waiting (by simp [waitingAtBoundary, hs])
      exact NoReview.cancelNow (vacant.toNoReview.congr (by simp) (by simp)) (h1.head.books.congr (by constructor <;> simp))
        (by simpa using hown) hp
    | storeWait => exact (h1.fits.waiting (by simp [waitingAtBoundary, hs])).cancelNow h1.head.books hown hp
    | paused =>
      exact NoReview.cancelNow ((h1.fits.noReview (by simp [hs])).recordCurrent (by simp))
        (Books.recordCurrent (n := 0) (h1.head.books.hand nofun) hown (by simp)) (by simpa using hown) (by simpa using hp)

theorem Reviewed.cancelEffect {id : Nat} (h : Reviewed s) (hf : findOrder id s = .some o) (hne : o.status ≠ .ended) :
    Reviewed (cancelEffect o s) := by
  refine ⟨h.head.cancelEffect hf hne, ?_⟩
  obtain ⟨-, rfl⟩ := findOrder_some hf
  unfold Machine.cancelEffect
  split
  · exact DeskInOrder.endOrder (h.fits.quiet (by simp) (by simp) (by simp) (by simp))
  · next hop =>
    split
    · exact h.fits
    · refine (h.cancelOwner (h.head.active_owner hf ?_)).fits
      cases hs : o.status <;> simp_all

theorem Reviewed.decideCancel {id : Nat} (h : Reviewed s) : Reviewed (decideCancel src id s).state := by
  unfold Machine.decideCancel
  split
  · exact h
  · next ho =>
    obtain ⟨hf, hne, -⟩ := liveOrder_ok ho
    exact h.cancelEffect hf hne

theorem Reviewed.decideHold {id : Nat} (h : Reviewed s) : Reviewed (decideHold src id s).state := by
  refine ⟨h.head.decideHold, ?_⟩
  unfold Machine.decideHold
  split
  · exact h.fits
  · exact h.fits.holdEffect

theorem Reviewed.decideResume {id : Nat} (h : Reviewed s) : Reviewed (decideResume src id s).state := by
  unfold Machine.decideResume
  split
  · exact h
  · next ho =>
    obtain ⟨hf, hne, -⟩ := liveOrder_ok ho
    split
    · exact h.resumeEffect hf hne
    · exact h

/-! ## The head lock, the store, the desk and the calibration -/

theorem Reviewed.setLock {holder : Option Port} (h : Reviewed s) : Reviewed (setLock holder s) :=
  Reviewed.grant (h.quiet (by constructor <;> simp) (by simp))

theorem Reviewed.decideTakeHead (h : Reviewed s) : Reviewed (decideTakeHead src s).state := by
  unfold Machine.decideTakeHead
  split
  · exact h.setLock
  · split <;> exact h

theorem Reviewed.decideFreeHead (h : Reviewed s) : Reviewed (decideFreeHead src s).state := by
  unfold Machine.decideFreeHead
  split
  · exact h
  · split
    · exact h.setLock
    · exact h

/-- An owner in AWAIT_POINTS that yields leaves the head free. -/
theorem Inv.yielded {kind : Notice} (h : Inv False False s) (ho : ownerOf s = .some o) :
    Inv False False (releaseHead (postTo o.origin kind (updOrder o.id yielding (stopStarvation s)))) := by
  obtain ⟨hmem, hown, -⟩ := h.owner ho
  exact Rest.unstopped (Rest.released (Books.release (h.books.hand nofun) hmem hown (f := yielding) (by simp) (by simp) (by simp) rfl
    rfl (.inl rfl) rfl nofun nofun nofun nofun nofun) nofun) (by simp)

theorem Reviewed.yieldOwner (h : Reviewed s) (ho : ownerOf s = .some o) (hs : s.seq.state = .awaitPoints) : Reviewed (yieldOwner o s) := by
  have vacant := h.fits.waiting (by simp [waitingAtBoundary, hs])
  refine Reviewed.grant ⟨Inv.yielded h.head ho, Vacant.rests ?_ (by simp [SeqState.holdsPoint]) (by simp)⟩
  exact NoReview.released (vacant.toNoReview.congr (by simp) (by simp))

theorem Reviewed.decideReleaseResults {through : Nat} (h : Reviewed s) : Reviewed (decideReleaseResults src through s).state := by
  have h1 : Reviewed (s.modStore (releaseFrom src.port through)) := by
    refine ⟨h.head.restock rfl rfl rfl rfl rfl nofun nofun, h.fits.point, h.fits.noPoint, h.fits.purpose, h.fits.keeps,
      h.fits.review, ?_⟩
    simpa [releaseFrom] using h.fits.desk.release (p := src.port) (through := through)
  unfold Machine.decideReleaseResults
  dsimp only
  split
  · next hw => exact h1.wake (by simp [waitingAtBoundary, hw.2]) ⟨rfl, rfl, rfl, rfl, rfl⟩ rfl rfl rfl rfl
  · exact h1

/-- Who has claimed the review is nothing to the desk's order. -/
theorem Reviewed.claim {v : Review} {c : Option Port} (h : Reviewed s) (hv : s.desk.review = .some v) :
    Reviewed (s.setDesk { s.desk with review := .some { v with claimant := c } }) := by
  obtain ⟨h1, h2, h3⟩ := h.fits.desk
  rw [hv] at h1 h2 h3
  have hr := h.fits.review
  rw [hv] at hr
  exact ⟨h.head.claim hv, h.fits.point, h.fits.noPoint, h.fits.purpose, h.fits.keeps, hr, ⟨h1, h2, by simpa using h3⟩⟩

theorem Reviewed.decideClaim {seq : Nat} (h : Reviewed s) : Reviewed (decideClaim src seq s).state := by
  unfold Machine.decideClaim
  split
  · exact h
  · next v hv =>
    split
    · exact h.claim (reviewOf_some hv).1
    · split <;> exact h

theorem Reviewed.decideEnter {seq d1 d2 : Nat} (h : Reviewed s) : Reviewed (decideEnter src seq d1 d2 s).state := by
  unfold Machine.decideEnter
  split
  · exact h
  · next hc =>
    split
    · exact h
    · split
      · exact h
      · exact h.afterClose (closes_manual _ d1 d2) (claimCheck_open hc)

theorem Reviewed.decideReject {seq : Nat} (h : Reviewed s) : Reviewed (decideReject src seq s).state := by
  unfold Machine.decideReject
  split
  · exact h
  · next hc => exact h.afterClose (closes_unmeasured .rejected) (claimCheck_open hc)

theorem Reviewed.decideWriteCalibration {rec : Nat} {f : CalFields} (h : Reviewed s) :
    Reviewed (decideWriteCalibration src rec f s).state := by
  have written : Reviewed (s.modCal (writeTable rec f src.port)) := h.quiet ⟨rfl, rfl, rfl, rfl, rfl⟩ rfl
  unfold Machine.decideWriteCalibration
  split
  · exact h
  · dsimp only
    split
    · exact written.grant
    · exact written

/-! ## The interlocks and the links (R169 to R171, R185, R186) -/

/-- An interlock stop begins on the work of a state that it may stop. -/
theorem DeskInOrder.beginStop (h : DeskInOrder s) (hs : s.seq.state.stoppable = true) : DeskInOrder (beginStop s) :=
  h.workOn (stoppable_holdsPoint hs) (by simpa using stoppable_holdsPoint hs) (by simp) (by simp) (by simp) (by simp)

theorem DeskInOrder.stopView (h : DeskInOrder s) : DeskInOrder (stopView s) :=
  h.same ⟨by simp, by simp, by simp, by simp, by simp, by simp⟩

theorem DeskInOrder.interruptPoint (h : DeskInOrder s) (hs : s.seq.state.holdsPoint = true) : DeskInOrder (interruptPoint s) :=
  h.workOn hs (by simp [Machine.interruptPoint, SeqState.holdsPoint]) rfl rfl (by simp [Machine.interruptPoint])
    (by simp [Machine.interruptPoint])

theorem DeskInOrder.doorAction (h : DeskInOrder s) : DeskInOrder (doorAction s) := by
  unfold Machine.doorAction
  split
  · exact h
  · cases hs : s.seq.state with
    | idle | unload | reviewWait | retract | paused => exact h
    | awaitPoints | storeWait => exact h.pauseWaiting (by simp [waitingAtBoundary, hs])
    | moveIndent | tare | approach | moveView => exact h.beginStop (by simp [hs, SeqState.stoppable])
    | settle | focus | measure => exact h.stopView.beginStop (by simp [hs, SeqState.stoppable])
    | ramp | dwell => exact h.interruptPoint (by simp [hs, SeqState.holdsPoint])

theorem Reviewed.postInterlock {e : InterlockEvent} (h : Reviewed s) : Reviewed (postInterlock e s) := by
  unfold Machine.postInterlock
  split <;> exact h.quiet (by constructor <;> simp) (by simp)

theorem DeskInOrder.gainInterlock (h : DeskInOrder s) : DeskInOrder (gainInterlock s) := by
  unfold Machine.gainInterlock
  split
  · exact h
  · exact h.updOrder

theorem Reviewed.afterDoor {was : Option DoorLevel} {now : DoorLevel} (h : Reviewed s) : Reviewed (afterDoor was now s) := by
  refine ⟨h.head.afterDoor, ?_⟩
  unfold Machine.afterDoor
  split
  · exact h.fits
  · exact h.grant.fits
  · exact h.postInterlock.fits.gainInterlock.doorAction
  · exact h.postInterlock.grant.fits

theorem Reviewed.afterEstop {was : Option EstopLevel} {now : EstopLevel} (h : Reviewed s) : Reviewed (afterEstop was now s) := by
  unfold Machine.afterEstop
  split
  · exact h
  · exact h.grant
  · unfold estopPressed
    split
    · exact h.postInterlock
    · exact h.postInterlock.abortPath
  · exact h.postInterlock.grant

theorem Reviewed.takeShared {f : RxFrame} (h : Reviewed s) : Reviewed (takeShared p f s) := by
  unfold Machine.takeShared
  split
  · next e =>
    unfold sharedEffect at e
    split at e
    · simp at e
    · split at e
      · obtain rfl := Option.some.inj e; exact ⟨h.head.holdAllEffect, h.fits.holdAllEffect⟩
      · split at e
        · obtain rfl := Option.some.inj e; exact h.resumeAllEffect
        · split at e
          · have e := setLampEffect_frame e
            exact h.quiet (by constructor <;> rw [e]) (by rw [e])
          · simp at e
  · exact h.quiet (by constructor <;> simp) (by simp)

theorem Reviewed.resetPort (h : Reviewed s) : Reviewed (resetPort p s) := by
  have h1 : Reviewed ((s.modPort p (LinkPort.restart p)).modStore (·.setArmed p true)) := by
    refine ⟨h.head.restock ?_ ?_ ?_ ?_ ?_ nofun nofun, h.fits.same ⟨?_, ?_, ?_, ?_, ?_, ?_⟩⟩
    all_goals simp
  have h2 : Reviewed (dropClaim p ((s.modPort p (LinkPort.restart p)).modStore (·.setArmed p true))) := by
    unfold dropClaim
    split
    · exact h1
    · next v hv =>
      split
      · exact h1.claim hv
      · exact h1
  unfold Machine.resetPort dropLock
  split
  · exact h2.setLock
  · exact h2

end Sys2Proof.Proofs.Indent

/-! # Every step keeps the review desk in order (R46, R61, R124, R125, R131) -/

namespace Sys2Proof.Proofs.Indent
open Sys2Proof Sys2Proof.Machine Sys2Proof.Proofs.Orders Sys2Proof.Proofs.Store

variable {s t : State} {o : Order} {p : Port} {src : Source}

/-! ## The events -/

theorem Reviewed.frameTaken (h : Reviewed s) (e : execFrameTaken p s = .next t) : Reviewed t := by
  obtain rfl := Host.Outcome.next.inj e
  split
  · exact h
  · split
    · dsimp only
      split
      · exact Reviewed.takeShared (h.quiet (by constructor <;> simp) (by simp))
      · exact h.quiet (by constructor <;> simp) (by simp)
    · exact h

theorem Reviewed.portReset (h : Reviewed s) (e : execPortReset p s = .next t) : Reviewed t := by
  obtain rfl := Host.Outcome.next.inj e
  split
  · exact h.resetPort
  · exact h

theorem Reviewed.stabilityTimerExpiry {i : InputName} (h : Reviewed s) (e : execStabilityTimerExpiry i s = .next t) : Reviewed t := by
  have entered (f : Inputs → Inputs) : Reviewed (s.modInputs f) := h.quiet ⟨rfl, rfl, rfl, rfl, rfl⟩ rfl
  obtain rfl := Host.Outcome.next.inj e
  cases i with
  | door =>
    dsimp only
    split
    · exact h
    · exact (entered _).afterDoor
  | estop =>
    dsimp only
    split
    · exact h
    · exact (entered _).afterEstop
  | station =>
    dsimp only
    split
    · exact h
    · exact (entered _).judgeTurret

theorem Reviewed.stageDone (h : Reviewed s) : Reviewed (stageDone s) := h.same ⟨⟨rfl, rfl, rfl, rfl, rfl⟩, rfl, rfl, rfl, rfl, rfl⟩

theorem Reviewed.turretDone (h : Reviewed s) : Reviewed (turretDone s) := h.same ⟨⟨rfl, rfl, rfl, rfl, rfl⟩, rfl, rfl, rfl, rfl, rfl⟩

theorem Reviewed.stgDone (h : Reviewed s) (e : execStgDone s = .next t) : Reviewed t := by
  obtain rfl := Host.Outcome.next.inj e
  split
  · exact h
  · split
    · exact Reviewed.judgeMove (h.stageDone.same ⟨⟨rfl, rfl, rfl, rfl, rfl⟩, rfl, rfl, rfl, rfl, rfl⟩)
    · exact h.stageDone.judgeRest

theorem Reviewed.stgFault (h : Reviewed s) (e : execStgFault s = .next t) : Reviewed t := by
  obtain rfl := Host.Outcome.next.inj e
  split
  · exact h
  · split
    · exact h.stageDone
    · exact h.stageDone.abortPath

theorem Reviewed.turDone (h : Reviewed s) (e : execTurDone s = .next t) : Reviewed t := by
  obtain rfl := Host.Outcome.next.inj e
  split
  · exact h
  · split
    · exact h.turretDone.judgeTurret
    · exact h.turretDone.judgeRest

theorem Reviewed.stageTimerExpiry (h : Reviewed s) (e : execStageTimerExpiry s = .next t) : Reviewed t := by
  obtain rfl := Host.Outcome.next.inj e
  split
  · exact h
  · exact h.stageDone.abortPath

theorem Reviewed.turretTimerExpiry (h : Reviewed s) (e : execTurretTimerExpiry s = .next t) : Reviewed t := by
  obtain rfl := Host.Outcome.next.inj e
  split
  · exact h
  · exact h.abortPath

theorem Reviewed.loadSample {count : Int} (h : Reviewed s) (e : execLoadSample count s = .next t) : Reviewed t := by
  obtain rfl := Host.Outcome.next.inj e
  have sampled (f : ForceMonitor → ForceMonitor) : Reviewed (s.modForce f) := h.quiet ⟨rfl, rfl, rfl, rfl, rfl⟩ rfl
  exact (sampled _).judgeSample.quiet ⟨rfl, rfl, rfl, rfl, rfl⟩ rfl

theorem Reviewed.actRaised {level : Bool} (h : Reviewed s) (e : execActRaised level s = .next t) : Reviewed t := by
  obtain rfl := Host.Outcome.next.inj e
  split
  · exact h
  · exact Reviewed.judgeRest (h.quiet ⟨rfl, rfl, rfl, rfl, rfl⟩ rfl)

theorem Reviewed.approachTimerExpiry (h : Reviewed s) (e : execApproachTimerExpiry s = .next t) : Reviewed t := by
  refine ⟨h.head.approachTimerExpiry e, ?_⟩
  obtain rfl := Host.Outcome.next.inj e
  split
  · exact h.fits
  · split
    · next hs =>
      have quiet := h.fits.noReview (by simp [hs.1])
      exact (quiet.congr (by simp) (by simp)).retracts (why := .noContact) (by simp) (by simp)
        fun _ => by simpa using h.fits.point (by simp [hs.1, SeqState.holdsPoint])
    · exact h.fits

theorem Reviewed.unloadTimerExpiry (h : Reviewed s) (e : execUnloadTimerExpiry s = .next t) : Reviewed t := by
  obtain rfl := Host.Outcome.next.inj e
  split
  · exact h
  · exact h.abortPath

/-- An abort reason is held in RETRACT alone. -/
theorem abortReasonHeld_some {why : AbortReason} (h : abortReasonHeld s = .some why) :
    s.seq.state = .retract ∧ s.seq.purpose = .some (.abort why) := by
  unfold abortReasonHeld at h
  split at h
  · next h1 h2 => exact ⟨h1, by rw [h2, Option.some.inj h]⟩
  · simp at h

theorem Reviewed.retractTimerExpiry (h : Reviewed s) (e : execRetractTimerExpiry s = .next t) : Reviewed t := by
  obtain rfl := Host.Outcome.next.inj e
  split
  · exact h
  · split
    · next hw => exact h.abortRecords (abortReasonHeld_some hw).1
    · exact h.abortPath

theorem Reviewed.starvationTimerExpiry (h : Reviewed s) (e : execStarvationTimerExpiry s = .next t) : Reviewed t := by
  obtain rfl := Host.Outcome.next.inj e
  split
  · next ho =>
    split
    · next hs => exact h.yieldOwner ho hs
    · exact h
  · exact h

theorem Reviewed.frameCompletion (h : Reviewed s) (e : execFrameCompletion s = .next t) : Reviewed t := by
  obtain rfl := Host.Outcome.next.inj e
  split
  · exact h
  · dsimp only
    split
    · exact h.quiet ⟨rfl, rfl, rfl, rfl, rfl⟩ rfl
    · exact Reviewed.followFocus (h.quiet ⟨rfl, rfl, rfl, rfl, rfl⟩ rfl)

theorem Reviewed.scoreReady (h : Reviewed s) (hst : StoreFits s.store) (e : execScoreReady s = .next t) : Reviewed t := by
  obtain rfl := Host.Outcome.next.inj e
  split
  · split
    · next hv => exact Reviewed.judgeFocus (h.quiet ⟨rfl, rfl, rfl, rfl, rfl⟩ rfl) hst hv
    · exact h
  · exact h

theorem Reviewed.frameTimerExpiry (h : Reviewed s) (hst : StoreFits s.store) (e : execFrameTimerExpiry s = .next t) : Reviewed t := by
  obtain rfl := Host.Outcome.next.inj e
  split
  · exact h
  · split
    · next hv => exact h.captureFailure hst hv
    · exact h

theorem Reviewed.measurementReport (h : Reviewed s) (hst : StoreFits s.store) (e : execMeasurementReport s = .next t) : Reviewed t := by
  obtain rfl := Host.Outcome.next.inj e
  split
  · next ho =>
    split
    · next hs => exact Reviewed.takeReport (h.quiet ⟨rfl, rfl, rfl, rfl, rfl⟩ rfl) hst (h.head.owner ho).2.1 hs.1 hs.2
    · exact h
  · exact h

theorem Reviewed.windowTimerExpiry (h : Reviewed s) (e : execWindowTimerExpiry s = .next t) : Reviewed t := by
  obtain rfl := Host.Outcome.next.inj e
  split
  · next hv => exact h.afterClose (closes_unmeasured .reviewExpired) (by simp [hv])
  · exact h

/-! ## A command, and a step -/

/-- A request answered by what its owner decided. -/
theorem Reviewed.served {cmd : Instr} {d : State → Answer} (h : Reviewed s) (e : Host.Outcome.next (serve cmd src d s)
    = (.next t : Host.Outcome State Fault Refusal)) (hd : Reviewed (d s).state) : Reviewed t := by
  obtain rfl := Host.Outcome.next.inj e
  unfold serve
  dsimp only
  split
  · exact h.quiet (by constructor <;> simp [Answer.refuse]) (by simp [Answer.refuse])
  · exact hd.quiet (by constructor <;> simp) (by simp)

/-- A part that starts again has the desk in order. -/
theorem deskInOrder_reset (hs : s.store = ResultStore.reset) (hd : s.desk = { review := .none, window := .none })
    (hq : s.seq = Sequencer.reset) : DeskInOrder s :=
  NoReview.inOrder ⟨hd, by simp [hs, ResultStore.reset]⟩ (by simp [hq, Sequencer.reset]) (by simp [hq, Sequencer.reset, SeqState.holdsPoint])
    (by simp [hq, Sequencer.reset]) (by simp [hq, Sequencer.reset]) (by simp [hq, Sequencer.reset])

/-- Every command keeps the desk in order; most leave what it speaks of alone, as their frames say. -/
theorem Reviewed.exec {i : Instr} (h : Reviewed s) (hst : StoreFits s.store) (e : exec i s = .next t) : Reviewed t := by
  have frame := everyCommandKeepsItsFrame i s t e
  cases i with
  | coldReset pins =>
    refine ⟨h.head.exec e, ?_⟩
    obtain rfl := Host.Outcome.next.inj e
    exact deskInOrder_reset rfl rfl rfl
  | startupLoadComplete _ | commitComplete _ | frameReceived _ _ | receiveGap _ | responseSent _ | lineBreak _ | readState _
  | readNotices _ | setLink _ _ | openOrder _ _ | readResults _ _ _ | readSummary _ _ | readCalibration _ _
  | setLamp _ _ _ _ | setInputs _ _ _ _ | inputChange _ | frameStart | lampTimebaseTick | lineMarker _ | pixelTaken _ =>
    have frame : t = _ := frame
    exact ⟨h.head.exec e, h.fits.quiet (congrArg (·.arb.owner) frame |>.trans (by simp)) ((congrArg State.store frame).trans (by simp))
      ((congrArg State.desk frame).trans (by simp)) ((congrArg State.seq frame).trans (by simp))⟩
  | frameTaken p => exact h.frameTaken e
  | portReset p => exact h.portReset e
  | addPoints src r => exact h.served e h.decideAddPoints
  | cancelOrder src id => exact h.served e h.decideCancel
  | holdOrder src id => exact h.served e h.decideHold
  | resumeOrder src id => exact h.served e h.decideResume
  | holdAll src => exact h.served e ⟨h.head.holdAllEffect, h.fits.holdAllEffect⟩
  | resumeAll src => exact h.served e h.resumeAllEffect
  | takeHead src => exact h.served e h.decideTakeHead
  | freeHead src => exact h.served e h.decideFreeHead
  | claimReview src seq => exact h.served e h.decideClaim
  | enterDiagonals src seq d1 d2 => exact h.served e h.decideEnter
  | rejectImpression src seq => exact h.served e h.decideReject
  | releaseResults src through => exact h.served e h.decideReleaseResults
  | writeCalibration src rec f => exact h.served e h.decideWriteCalibration
  | stabilityTimerExpiry input => exact h.stabilityTimerExpiry e
  | stgDone => exact h.stgDone e
  | stgFault => exact h.stgFault e
  | turDone => exact h.turDone e
  | stageTimerExpiry => exact h.stageTimerExpiry e
  | turretTimerExpiry => exact h.turretTimerExpiry e
  | loadSample count => exact h.loadSample e
  | actRaised level => exact h.actRaised e
  | approachTimerExpiry => exact h.approachTimerExpiry e
  | unloadTimerExpiry => exact h.unloadTimerExpiry e
  | retractTimerExpiry => exact h.retractTimerExpiry e
  | starvationTimerExpiry => exact h.starvationTimerExpiry e
  | frameCompletion => exact h.frameCompletion e
  | scoreReady => exact h.scoreReady hst e
  | frameTimerExpiry => exact h.frameTimerExpiry hst e
  | measurementReport => exact h.measurementReport hst e
  | windowTimerExpiry => exact h.windowTimerExpiry e

theorem Reviewed.step (h : Reviewed s) (hst : StoreFits s.store) (e : step s = .next t) : Reviewed t := by
  unfold Machine.step at e
  split at e
  · obtain rfl := Host.Outcome.next.inj e
    exact h
  · next rest _ => exact Reviewed.exec (s := { s with pending := rest }) (h.quiet ⟨rfl, rfl, rfl, rfl, rfl⟩ rfl) hst e

/-- Settles O11: the head and the store stay in order by their own laws, and over them the desk does. -/
theorem stepKeepsTheReviewInOrder : Obligations.StepKeepsTheReviewInOrder := by
  intro s t h e
  obtain ⟨hr, hst⟩ := reviewOk_iff.1 h
  exact reviewOk_iff.2 ⟨hr.step hst e, (storeKept_step e).fits hst⟩

end Sys2Proof.Proofs.Indent

/-! # The interlocks beside the sequencer (R45, R62, R169, R171)

While the door reads open or the e-stop asserted no grant is made, so that an owner that ends leaves the head free, and an owner at a
boundary pauses.  `Secured D E` is the head in order with what the open door (`D`) and the asserted e-stop (`E`) demand of it, at least
one of the two; every command that does not change the levels keeps it. -/

namespace Sys2Proof.Proofs.Indent
open Sys2Proof Sys2Proof.Machine Sys2Proof.Proofs.Orders

variable {D E : Prop} {s t u : State} {o : Order}

/-! ## The predicates -/

/-- The order that holds the head is HELD with INTERLOCK. -/
def OwnerHeld (s : State) : Prop :=
  ∀ o ∈ s.table.orders, s.arb.owner = .some o.id → o.status = .held ∧ o.holds.interlock = true

/-- The sequencer is stopping, or in a state in which an open door leaves it. -/
def DoorSafe (s : State) : Prop := s.seq.stopFlag = true ∨ s.seq.state.doorSafe = true

/-- No order holds the head, or the one that does aborts. -/
def Aborting (s : State) : Prop := s.arb.owner = .none ∨ abortingRetract s = true

/-- The head in order under an open door (`D`) or an asserted e-stop (`E`). -/
structure Secured (D E : Prop) (s : State) : Prop where
  head : Inv False False s
  barred : D ∨ E
  door : D → doorClosed s = false
  estop : E → estopClear s = false
  held : D → OwnerHeld s
  safe : D → DoorSafe s
  aborts : E → Aborting s

/-- A free head is an idle sequencer. -/
theorem Inv.safe_of_free (h : Inv False False s) (ho : s.arb.owner = .none) : DoorSafe s :=
  .inr (by simp [h.seq.idle.1 ho, SeqState.doorSafe])

/-- `State.InterlockOk` in its parts. -/
theorem interlockOk_iff : s.InterlockOk ↔ Inv False False s ∧ (doorClosed s = false → OwnerHeld s ∧ DoorSafe s)
    ∧ (estopClear s = false → Aborting s) := by
  have free (h : Inv False False s) (ho : s.arb.owner = .none) : OwnerHeld s ∧ DoorSafe s :=
    ⟨fun x _ e => by simp [ho] at e, Inv.safe_of_free h ho⟩
  constructor
  · rintro ⟨hh, hd, he⟩
    have h := headOk_iff.1 hh
    refine ⟨h, fun e => ?_, fun e => he.resolve_left (by simp [e])⟩
    rcases hd with hd | hd | ⟨h1, h2⟩
    · simp [e] at hd
    · exact free h hd
    · exact ⟨h2, h1⟩
  · rintro ⟨h, hd, he⟩
    refine ⟨headOk_iff.2 h, ?_, ?_⟩
    · by_cases e : doorClosed s = true
      · exact .inl e
      · obtain ⟨h1, h2⟩ := hd (by simpa using e)
        exact .inr (.inr ⟨h2, h1⟩)
    · by_cases e : estopClear s = true
      · exact .inl e
      · exact .inr (he (by simpa using e))

/-- With the interlock in order the indenter is driven towards the specimen only with the door closed and the e-stop clear. -/
theorem approachSafe_of_interlockOk (h : s.InterlockOk) : s.ApproachSafe := by
  obtain ⟨hh, hd, he⟩ := interlockOk_iff.1 h
  intro ha
  simp only [actuatorApproach, Bool.and_eq_true, Bool.not_eq_true'] at ha
  obtain ⟨hstop, hs⟩ := ha
  have hs : s.seq.state.doorSafe = false ∧ s.seq.state ≠ .retract ∧ s.seq.state ≠ .idle := by
    cases e : s.seq.state <;> simp_all [SeqState.doorSafe]
  constructor
  · by_contra e
    rcases (hd (by simpa using e)).2 with h1 | h1
    · simp [hstop] at h1
    · simp [hs.1] at h1
  · by_contra e
    rcases he (by simpa using e) with h1 | h1
    · exact hs.2.2 (hh.seq.idle.1 h1)
    · simp [abortingRetract, hs.2.1] at h1

/-! ## What carries over -/

theorem abortingRetract_congr (es : t.seq.state = s.seq.state) (ep : t.seq.purpose = s.seq.purpose) :
    abortingRetract t = abortingRetract s := by
  unfold abortingRetract; rw [es, ep]

/-- An aborting retract is a RETRACT with its purpose. -/
theorem abortingRetract_iff : abortingRetract s = true ↔ s.seq.state = .retract ∧ ∃ why, s.seq.purpose = .some (.abort why) := by
  unfold abortingRetract
  cases s.seq.purpose with
  | none => simp
  | some p => cases p <;> simp

theorem OwnerHeld.map {g : Order → Order} (h : OwnerHeld s)
    (hg : ∀ x, (g x).id = x.id ∧ (x.status = .held ∧ x.holds.interlock = true → (g x).status = .held ∧ (g x).holds.interlock = true))
    (et : t.table.orders = s.table.orders.map g) (ea : t.arb.owner = s.arb.owner) : OwnerHeld t := by
  intro x hx e
  rw [et] at hx
  obtain ⟨y, hy, rfl⟩ := List.mem_map.1 hx
  exact (hg y).2 (h y hy (by rw [← ea, e, (hg y).1]))

theorem OwnerHeld.congr (h : OwnerHeld s) (et : t.table.orders = s.table.orders) (ea : t.arb.owner = s.arb.owner) : OwnerHeld t :=
  h.map (g := id) (fun x => ⟨rfl, fun e => e⟩) (by simpa using et) ea

theorem OwnerHeld.updOrder {id : Nat} {f : Order → Order} (h : OwnerHeld s)
    (hf : ∀ x, (f x).id = x.id ∧ (x.status = .held ∧ x.holds.interlock = true → (f x).status = .held ∧ (f x).holds.interlock = true)) :
    OwnerHeld (updOrder id f s) :=
  h.map (g := fun x => if x.id = id then f x else x) (fun x => by split; exacts [hf x, ⟨rfl, fun e => e⟩]) rfl rfl

theorem OwnerHeld.writeRecord {r : Record} (h : OwnerHeld s) : OwnerHeld (writeRecord o r s) := by
  refine h.map (fun x => ?_) (writeRecord_orders o r s) (by simp)
  split
  · split <;> simp [noteSeq]
  · exact ⟨rfl, fun e => e⟩

theorem OwnerHeld.recordCurrent {st : RecState} {why : Reason} (h : OwnerHeld s) : OwnerHeld (recordCurrent o st why s) := by
  rcases recordCurrent_cases o st why s with ⟨-, e⟩ | ⟨c, -, e⟩ <;> rw [e]
  · exact h
  · exact (h.writeRecord (o := o) (r := recordOf o c st why s)).congr (by simp) (by simp)

theorem OwnerHeld.closeReview {out : ReviewOutcome} {change : Record → Record} (h : OwnerHeld s) :
    OwnerHeld (closeReview out change s) := by
  obtain ⟨-, ea, -⟩ := closeReview_rest out change s
  cases hv : s.desk.review with
  | none => simpa [Machine.closeReview, hv] using h
  | some v =>
    obtain ⟨-, -, hnone, hsome⟩ := closeReview_some (out := out) (change := change) hv
    cases hf : findRecord v.seq s with
    | none => exact h.congr (by rw [hnone hf]) (by rw [ea])
    | some x => exact h.map (fun y => by split <;> simp) (hsome x hf) (by rw [ea])

theorem OwnerHeld.returnPoint (h : OwnerHeld s) : OwnerHeld (returnPoint o s) := by
  cases hc : s.seq.cur with
  | none => simpa [Machine.returnPoint, hc] using h
  | some c =>
    rw [returnPoint_some hc]
    exact (h.updOrder (id := o.id) (f := takingBack c.toPoint) fun x => by simp).congr rfl rfl

theorem doorClosed_congr (e : t.inputs = s.inputs) : doorClosed t = doorClosed s := by unfold doorClosed; rw [e]

theorem estopClear_congr (e : t.inputs = s.inputs) : estopClear t = estopClear s := by unfold estopClear; rw [e]

theorem OwnerHeld.owner (h : OwnerHeld s) (ho : ownerOf s = .some o) : o.status = .held ∧ o.holds.interlock = true :=
  h o (ownerOf_some ho).1 (ownerOf_some ho).2

/-- The head, the orders and the sequencer's state carry over. -/
theorem Secured.carry (h : Secured D E s) (head : Inv False False t) (ei : t.inputs = s.inputs) (held : D → OwnerHeld t)
    (safe : D → DoorSafe t) (aborts : E → Aborting t) : Secured D E t :=
  ⟨head, h.barred, fun hD => (doorClosed_congr ei).trans (h.door hD), fun hE => (estopClear_congr ei).trans (h.estop hE), held, safe, aborts⟩

/-- A free head is secured. -/
theorem Secured.free (h : Secured D E s) (head : Inv False False t) (ei : t.inputs = s.inputs) (ho : t.arb.owner = .none) :
    Secured D E t :=
  h.carry head ei (fun _ x _ e => by simp [ho] at e) (fun _ => Inv.safe_of_free head ho) fun _ => .inl ho

/-- The orders change under a sequencer that stands. -/
theorem Secured.retable (h : Secured D E s) (head : Inv False False t) (ei : t.inputs = s.inputs) (ea : t.arb.owner = s.arb.owner)
    (es : t.seq.state = s.seq.state) (ep : t.seq.purpose = s.seq.purpose) (ef : t.seq.stopFlag = s.seq.stopFlag)
    (held : D → OwnerHeld t) : Secured D E t := by
  refine h.carry head ei held (fun hD => ?_) fun hE => ?_
  · unfold DoorSafe; rw [ef, es]; exact h.safe hD
  · unfold Aborting; rw [ea, abortingRetract_congr es ep]; exact h.aborts hE

theorem Secured.same (h : Secured D E s) (e : SameWork s t) (ei : t.inputs = s.inputs) : Secured D E t :=
  h.retable (h.head.same e) ei e.owner e.state e.purpose e.stopFlag fun hD => (h.held hD).congr e.orders e.owner

/-! ## What the sequencer cannot be at -/

/-- The sequencer, where it is not stopping, stands in a state in which an open door leaves it. -/
theorem Secured.resting (h : Secured D E s) (hs : s.seq.stopFlag = false) : s.seq.state.doorSafe = true := by
  rcases h.barred with hD | hE
  · exact (h.safe hD).resolve_left (by simp [hs])
  · rcases h.aborts hE with e | e
    · simp [h.head.seq.idle.1 e, SeqState.doorSafe]
    · simp [(abortingRetract_iff.1 e).1, SeqState.doorSafe]

/-- A state that the interlocks stop is stopping. -/
theorem Secured.stopped (h : Secured D E s) (hs : s.seq.state.doorSafe = false) : s.seq.stopFlag = true := by
  by_contra e
  have := h.resting (by simpa using e)
  simp [hs] at this

/-- Where an order holds the head and does not abort, the door is open and the e-stop is not asserted. -/
theorem Secured.door_only (h : Secured D E s) (ho : s.seq.state ≠ .idle) (ha : abortingRetract s = false) : D ∧ ¬E := by
  have hE : ¬E := fun hE => by
    rcases h.aborts hE with e | e
    · exact ho (h.head.seq.idle.1 e)
    · simp [ha] at e
  exact ⟨h.barred.resolve_right hE, hE⟩

/-- In any state but IDLE and RETRACT the door is open and the e-stop is not asserted. -/
theorem Secured.working (h : Secured D E s) (ho : s.seq.state ≠ .idle) (hr : s.seq.state ≠ .retract) : D ∧ ¬E :=
  h.door_only ho (by simp [abortingRetract, hr])

/-! ## No grant, and the boundary of a held owner -/

/-- No grant is made while the door reads open or the e-stop asserted (R12). -/
theorem considerGrant_shut (h : doorClosed s = false ∨ estopClear s = false) : considerGrant s = (s, false) := by
  unfold considerGrant
  split
  · rfl
  · split
    · rfl
    · next ho =>
      have he := (chooseOrder_mem ho).2
      simp only [eligible, Bool.and_eq_true] at he
      rcases h with h | h <;> simp [h] at he

theorem grant_shut (h : doorClosed s = false ∨ estopClear s = false) : grant s = s := by
  simp [grant, considerGrant_shut h, afterGrant]

theorem endOwner_shut {id : Nat} {out : OrderOutcome} {why : Option AbortReason} (h : doorClosed s = false ∨ estopClear s = false) :
    endOwner id out why s = (releaseHead (endOrder id out why s), false) :=
  considerGrant_shut (h.imp (doorClosed_congr (by simp)).trans (estopClear_congr (by simp)).trans)

/-- An owner that ends leaves the head free. -/
theorem endOwner_frees {id : Nat} {out : OrderOutcome} {why : Option AbortReason} (h : doorClosed s = false ∨ estopClear s = false) :
    (afterGrant (endOwner id out why s)).arb.owner = .none := by
  simp [endOwner_shut h, afterGrant]

theorem Secured.shut (h : Secured D E s) : doorClosed s = false ∨ estopClear s = false := h.barred.imp h.door h.estop

theorem Secured.grant (h : Secured D E s) : Secured D E (grant s) := by rwa [grant_shut h.shut]

/-- A pass that no other follows is the whole boundary. -/
theorem boundary_last (h : boundaryStep s = (t, false)) : boundary s = t := by
  simp [boundary, boundaryBound, boundaryLoop, h]

/-- One pass over the boundary steps of a HELD owner ends it where a cancel is pending, and pauses it where none is. -/
theorem boundaryStep_held (hd : doorClosed s = false) (ho : ownerOf s = .some o) (hh : o.holds.interlock = true) :
    boundaryStep s = if o.cancelPending then
        (releaseHead (endOrder o.id .cancelled .none (discardPoints o (flushImpressions o .cancelled s))), false)
      else (boundaryPause (applyPending o) (updOrder o.id applyPending s), false) := by
  have held : (applyPending o).status = .held := by simp [applyPending, Holds.any, hh]
  simp only [boundaryStep, ho, held, if_true, completeCancel]
  rw [endOwner_shut (.inl ((doorClosed_congr (by simp)).trans hd))]

/-- A HELD owner at a boundary pauses or ends, and the head stays secured. -/
theorem Secured.throughBoundary (h : Secured D E s) (hE : ¬E) (hb : AtBoundary False False u) (hh : OwnerHeld u)
    (ei : u.inputs = s.inputs) (hstop : u.seq.stopFlag = false) : Secured D E (boundary u) := by
  have head := hb.boundary_inv hstop
  have hd : doorClosed u = false := (doorClosed_congr ei).trans (h.door (h.barred.resolve_right hE))
  have ei' : (boundary u).inputs = s.inputs := by simp [ei]
  cases ho : ownerOf u with
  | none =>
    have e : boundary u = u := boundary_last (by simp [boundaryStep, ho])
    rw [e] at head ⊢
    exact h.free head ei (Inv.owner_none head ho)
  | some o =>
    have hi := (hh.owner ho).2
    by_cases hc : o.cancelPending = true
    · have e := boundary_last ((boundaryStep_held hd ho hi).trans (if_pos hc))
      exact h.free head ei' (by rw [e]; simp)
    · have e := boundary_last ((boundaryStep_held hd ho hi).trans (if_neg hc))
      have hs : (boundary u).seq.state = .paused := by rw [e]; simp [boundaryPause]
      refine h.carry head ei' (fun _ => ?_) (fun _ => .inr (by simp [hs, SeqState.doorSafe])) fun e => absurd e hE
      rw [e]
      refine (hh.updOrder (id := o.id) (f := applyPending) fun x => ⟨rfl, fun hx => ?_⟩).congr ?_ ?_
      · simp [applyPending, Holds.any, hx]
      · unfold boundaryPause; split <;> simp
      · unfold boundaryPause; split <;> simp

/-- A HELD owner pauses. -/
theorem Secured.pause (h : Secured D E s) (hE : ¬E) (head : Inv False False t) (ei : t.inputs = s.inputs) (hs : t.seq.state = .paused)
    (held : D → OwnerHeld t) : Secured D E t :=
  h.carry head ei held (fun _ => .inr (by simp [hs, SeqState.doorSafe])) fun e => absurd e hE

end Sys2Proof.Proofs.Indent

/-! # Every step keeps the interlock -/

namespace Sys2Proof.Proofs.Indent
open Sys2Proof Sys2Proof.Machine Sys2Proof.Proofs.Orders

variable {D E : Prop} {s t u : State} {o : Order} {p : Port} {src : Source}

/-! ## The abort path (R66, R67) -/

theorem abortRecords_shut {why : AbortReason} (ho : ownerOf s = .some o) (h : doorClosed s = false ∨ estopClear s = false) :
    (abortRecords why s).arb.owner = .none := by
  rw [abortRecords_some why ho]
  exact endOwner_frees (h.imp (doorClosed_congr (by simp [gathered])).trans (estopClear_congr (by simp [gathered])).trans)

theorem Secured.abortRecords {why : AbortReason} (h : Secured D E s) (hs : s.seq.state = .retract) : Secured D E (abortRecords why s) := by
  cases ho : ownerOf s with
  | none => simpa [Machine.abortRecords, ho] using h
  | some o => exact h.free (h.head.abortRecords hs) (by simp) (abortRecords_shut ho h.shut)

/-- The abort path leaves no order, or one that aborts. -/
theorem abortPath_aborting {why : AbortReason} (h : Inv False False s) : Aborting (abortPath why false s) := by
  cases ho : ownerOf s with
  | none => exact .inl (by simp [abortPath, ho, h.owner_none ho])
  | some o =>
    rw [abortPath_false why ho]
    exact .inr (abortingRetract_iff.2 ⟨by simp, why, by simp⟩)

/-- A HELD owner is HELD on the abort path, which an open door leaves alone. -/
theorem abortPath_held {why : AbortReason} (h : OwnerHeld s) (hs : DoorSafe s) :
    OwnerHeld (abortPath why false s) ∧ DoorSafe (abortPath why false s) := by
  cases ho : ownerOf s with
  | none => simpa [abortPath, ho] using ⟨h, hs⟩
  | some o =>
    rw [abortPath_false why ho]
    have hh : OwnerHeld (halted s) := h.congr (halted_sameHead s).orders (halted_sameHead s).owner
    have retract {v : State} (hv : OwnerHeld v) :
        OwnerHeld (enterRetract (.abort why) v) ∧ DoorSafe (enterRetract (.abort why) v) :=
      ⟨hv.congr (by simp) (by simp), .inr (by simp [SeqState.doorSafe])⟩
    split
    · exact retract hh.closeReview
    · exact retract hh

theorem Secured.abortPath {why : AbortReason} {spent : Bool} (h : Secured D E s) : Secured D E (abortPath why spent s) := by
  have aborts : Secured D E (Machine.abortPath why false s) :=
    h.carry h.head.abortPath (by simp) (fun hD => (abortPath_held (h.held hD) (h.safe hD)).1)
      (fun hD => (abortPath_held (h.held hD) (h.safe hD)).2) fun _ => abortPath_aborting h.head
  cases ho : ownerOf s with
  | none => simpa [Machine.abortPath, ho] using h
  | some o =>
    cases spent
    · exact aborts
    · rw [abortPath_true why ho]
      exact aborts.abortRecords (by simp [abortPath_false why ho])

/-! ## The ends of a motion, and the samples (R56, R61, R62) -/

theorem Secured.finishRetract (h : Secured D E s) (hs : s.seq.state = .retract) : Secured D E (finishRetract s) := by
  have head := h.head.finishRetract hs
  have hidle : s.seq.state ≠ .idle := by simp [hs]
  cases ho : ownerOf s with
  | none => exact absurd (h.head.seq.idle.1 (h.head.owner_none ho)) hidle
  | some o =>
    have hown := (h.head.owner ho).2.1
    have skipped (why : Reason) (ha : abortingRetract s = false) :
        Secured D E (boundary (recordCurrent o .skipped why (retractOver s))) := by
      obtain ⟨hD, hE⟩ := h.door_only hidle ha
      have held : OwnerHeld (retractOver s) := (h.held hD).congr rfl rfl
      exact h.throughBoundary hE (h.head.record_boundary (retractOver_sameHead s) hown (by simp) rfl rfl nofun nofun) held.recordCurrent
        (by simp [retractOver]) (by simpa using h.head.unstopped (by simp [hs, SeqState.stoppable]))
    rw [finishRetract_eq, ho] at head ⊢
    cases hp : s.seq.purpose with
    | none =>
      rw [hp] at head
      have hE := (h.door_only hidle (by simp [abortingRetract, hp])).2
      exact h.carry head rfl (fun hD => (h.held hD).congr rfl rfl) (fun _ => .inr (by simp [hs, SeqState.doorSafe])) fun e => absurd e hE
    | some p =>
      rw [hp] at head
      cases p with
      | cancel => exact skipped .cancelled (by simp [abortingRetract, hp])
      | noContact => exact skipped .noContact (by simp [abortingRetract, hp])
      | abort why => exact h.free head (by simp [retractOver]) (abortRecords_shut (o := o) ho h.shut)

theorem Secured.finishStop (h : Secured D E s) (hs : s.seq.stopFlag = true) : Secured D E (finishStop s) := by
  have hw := stoppable_holdsPoint (h.head.stop.stop hs)
  obtain ⟨h1, h2, h3, -⟩ := holdsPoint_ne hw
  obtain ⟨hD, hE⟩ := h.working h1 h2
  have head := h.head.finishStop hs
  have ended : OwnerHeld (stopOver s) := (h.held hD).congr rfl rfl
  rw [finishStop_eq] at head ⊢
  cases ho : ownerOf s with
  | none => exact absurd (h.head.seq.idle.1 (h.head.owner_none ho)) h1
  | some o =>
    have hown := (h.head.owner ho).2.1
    have hheld := ((h.held hD).owner ho).1
    have recorded (st : RecState) (why : Reason) (hst : st ≠ .review) :
        Secured D E (boundary (recordCurrent o st why (stopOver s))) :=
      h.throughBoundary hE (h.head.record_boundary (stopOver_sameHead s) hown hst rfl rfl nofun nofun) ended.recordCurrent (by simp [stopOver])
        (by simp)
    rw [ho] at head
    dsimp only at head ⊢
    simp only [hheld, if_true] at head ⊢
    split
    · next hres =>
      rw [if_pos hres] at head
      split
      · exact recorded _ _ (by simp)
      · next hc =>
        rw [if_neg hc] at head
        exact h.pause hE head (by simp [stopOver]) (by simp) fun _ => (ended.returnPoint (o := o)).congr (by simp) (by simp)
    · next hres =>
      rw [if_neg hres] at head
      split
      · exact recorded _ _ (by simp)
      · next hc =>
        rw [if_neg hc] at head
        exact h.pause hE head (by simp [stopOver]) (by simp) fun _ => ended.congr (by simp) (by simp)

theorem Secured.finishUnload (h : Secured D E s) (hs : s.seq.state = .unload) : Secured D E (finishUnload s) := by
  obtain ⟨hD, hE⟩ := h.working (by simp [hs]) (by simp [hs])
  have head := h.head.finishUnload hs
  have h' : Secured D E (unloadOver s) := h.same (unloadOver_same s) rfl
  have hs' : (unloadOver s).seq.state = .unload := hs
  have ho' : ownerOf (unloadOver s) = ownerOf s := rfl
  rw [finishUnload_eq] at head ⊢
  cases ho : ownerOf s with
  | none => exact h'
  | some o =>
    have hown := (h.head.owner ho).2.1
    have hheld := ((h.held hD).owner ho).1
    cases hc : (unloadOver s).seq.cur with
    | none => exact h'
    | some c =>
      rw [ho, hc] at head
      have hown' : (unloadOver s).arb.owner = .some o.id := hown
      generalize unloadOver s = u at *
      have hstop : u.seq.stopFlag = false := h'.head.unstopped (by simp [hs', SeqState.stoppable])
      have recorded (why : Reason) : Secured D E (boundary (recordCurrent o .unmeasured why u)) :=
        h'.throughBoundary hE (h'.head.record_boundary ⟨rfl, rfl, rfl, rfl, rfl⟩ hown' (by simp) rfl rfl nofun nofun) (h'.held hD).recordCurrent
          (by simp) (by simpa using hstop)
      dsimp only at head ⊢
      split
      · exact recorded _
      · next hcan =>
        rw [if_neg hcan] at head
        cases hmode : o.mode with
        | deferred =>
          refine h'.throughBoundary hE ⟨(h'.head.books.hand nofun).congr ⟨rfl, rfl, rfl, rfl, rfl⟩, ?_, nofun, nofun, nofun, nofun⟩
            ((h'.held hD).congr rfl rfl) rfl hstop
          simp [hown']
        | immediate =>
          rw [hmode] at head
          cases hm : c.mark with
          | some m => exact recorded _
          | none =>
            rw [hm] at head
            simp only [hheld, if_true] at head ⊢
            exact h'.pause hE head (by simp) (by simp) fun hD => (h'.held hD).congr (by simp) (by simp)

theorem Secured.judgeRest {motion : Bool} (h : Secured D E s) : Secured D E (judgeRest motion s) := by
  unfold Machine.judgeRest
  split
  · next hs =>
    split
    · exact h.finishStop hs
    · exact h
  · split
    · next hs =>
      split
      · exact h.finishRetract hs
      · exact h
    · next hs =>
      split
      · exact h.finishUnload hs
      · exact h
    · exact h

/-- No move phase is under way. -/
theorem Secured.not_inMove (h : Secured D E s) : inMove s = false := by
  by_contra e
  obtain ⟨hstop, hs⟩ := inMove_iff.1 (by simpa using e)
  have := h.resting hstop
  rcases hs with e | e <;> simp [e, SeqState.doorSafe] at this

theorem Secured.judgeMove (h : Secured D E s) : Secured D E (judgeMove s) := by
  simpa [Machine.judgeMove, h.not_inMove] using h

theorem Secured.judgeTurret (h : Secured D E s) : Secured D E (judgeTurret s) := by
  unfold Machine.judgeTurret
  split
  · exact h
  · simpa [h.not_inMove] using h

theorem Secured.judgeSample {count : Int} (h : Secured D E s) : Secured D E (judgeSample count s) := by
  unfold Machine.judgeSample
  split
  · exact h.judgeRest
  · next hstop =>
    have safe := h.resting (by simpa using hstop)
    split
    · next hs _ => simp [hs, SeqState.doorSafe] at safe
    · next hs _ => simp [hs, SeqState.doorSafe] at safe
    · next hs _ => simp [hs, SeqState.doorSafe] at safe
    · next hs _ => simp [hs, SeqState.doorSafe] at safe
    · exact h.judgeRest
    · exact h.judgeRest
    · exact h

/-! ## The camera, and the close of a review -/

/-- A view may only be stopping. -/
theorem Secured.not_inView (h : Secured D E s) : inView s = false := by
  by_contra e
  obtain ⟨hstop, hs⟩ := inView_iff.1 (by simpa using e)
  have := h.resting hstop
  rcases hs with e | e <;> simp [e, SeqState.doorSafe] at this

theorem Secured.followFocus (h : Secured D E s) : Secured D E (followFocus s) := by
  have head := h.head.followFocus
  unfold Machine.followFocus at head ⊢
  split
  · next hs =>
    rw [if_pos hs] at head
    have hstop := h.stopped (by simp [hs.1, SeqState.doorSafe])
    have hE := (h.working (by simp [hs.1]) (by simp [hs.1])).2
    exact h.carry head (by simp) (fun hD => (h.held hD).congr (by simp) (by simp)) (fun _ => .inl (by simpa using hstop))
      fun e => absurd e hE
  · exact h

theorem Secured.afterClose {out : ReviewOutcome} {change : Record → Record} (h : Secured D E s) (hc : Closes change)
    (hr : s.desk.review.isSome = true) : Secured D E (afterClose (closeReview out change s)) := by
  have head := h.head.afterClose (out := out) hc hr
  obtain ⟨eq, ea, -⟩ := closeReview_rest out change s
  unfold Machine.afterClose at head ⊢
  split
  · next hs =>
    rw [eq] at hs
    obtain ⟨hD, hE⟩ := h.working (by simp [hs]) (by simp [hs])
    exact h.throughBoundary hE (h.head.closeReview_boundary hc hs) (h.held hD).closeReview (by simp)
      (by rw [eq]; exact h.head.unstopped (by simp [hs, SeqState.stoppable]))
  · next hs =>
    rw [if_neg hs] at head
    exact h.retable head (by simp) (by rw [ea]) (by rw [eq]) (by rw [eq]) (by rw [eq]) fun hD => (h.held hD).closeReview

/-! ## Holds, resumes and cancels -/

theorem Secured.upd {id : Nat} {f : Order → Order} (h : Secured D E s) (head : Inv False False (updOrder id f s))
    (hf : ∀ x, (f x).id = x.id ∧ (x.status = .held ∧ x.holds.interlock = true → (f x).status = .held ∧ (f x).holds.interlock = true)) :
    Secured D E (updOrder id f s) :=
  h.retable head rfl rfl rfl rfl rfl fun hD => (h.held hD).updOrder hf

/-- The sequencer does not wait at a boundary. -/
theorem Secured.not_waiting (h : Secured D E s) : waitingAtBoundary s = false := by
  by_contra e
  have hs := waitingAtBoundary_iff.1 (by simpa using e)
  have := h.stopped (by rcases hs with e | e <;> simp [e, SeqState.doorSafe])
  have := h.head.stop.stop this
  rcases hs with e | e <;> simp [e, SeqState.stoppable] at this

/-- A hold cause that leaves INTERLOCK reaches the owner. -/
theorem Secured.holdOwner {f : Holds → Holds} {g : PendingHolds → PendingHolds} (h : Secured D E s)
    (head : Inv False False (holdOwner o f g s)) (hf : ∀ x, (f x).interlock = x.interlock) : Secured D E (holdOwner o f g s) := by
  unfold Machine.holdOwner at head ⊢
  rw [h.not_waiting] at head ⊢
  split
  · next hh =>
    rw [if_pos hh] at head
    exact h.upd head fun x => ⟨rfl, fun hx => ⟨hx.1, by simpa [hf] using hx.2⟩⟩
  · next hh =>
    rw [if_neg hh] at head
    exact h.upd head fun x => ⟨rfl, fun hx => hx⟩

theorem Secured.holdEffect {id : Nat} (h : Secured D E s) (hf : findOrder id s = .some o) (hne : o.status ≠ .ended) :
    Secured D E (holdEffect o s) := by
  have head := h.head.holdEffect hf hne
  unfold Machine.holdEffect at head ⊢
  split
  · exact h
  · next hk =>
    rw [if_neg hk] at head
    split
    · next hop =>
      rw [if_pos hop] at head
      exact h.upd head fun x => ⟨rfl, fun hx => hx⟩
    · next hop =>
      rw [if_neg hop] at head
      exact h.holdOwner head fun x => rfl

theorem Secured.holdAllEffect (h : Secured D E s) : Secured D E (holdAllEffect s) := by
  have flagged : Secured D E (s.modArb fun a => { a with deviceHold := true }) :=
    h.same ⟨⟨rfl, rfl, rfl, rfl, rfl⟩, rfl, rfl, rfl, rfl, rfl⟩ rfl
  unfold Machine.holdAllEffect
  split
  · exact h
  · dsimp only
    split
    · exact flagged
    · next o ho =>
      split
      · exact flagged
      · exact flagged.holdOwner (flagged.head.holdOwner (o := o) ho (by simp [Holds.any])) fun x => rfl

/-- RESUME ORDER acts only with the door closed, so that an order that holds the head aborts, and the sequencer goes on. -/
theorem Secured.resumeEffect {id : Nat} (h : Secured D E s) (hd : doorClosed s = true) (hf : findOrder id s = .some o)
    (hne : o.status ≠ .ended) : Secured D E (resumeEffect o s) := by
  obtain ⟨hm, rfl⟩ := findOrder_some hf
  have hD : ¬D := fun e => by simp [h.door e] at hd
  have hE := h.barred.resolve_left hD
  have head := h.head.resumeEffect hf hne
  have stands {v : State} (hv : Inv False False v) (ei : v.inputs = s.inputs) (ea : v.arb = s.arb) (eq : v.seq = s.seq) :
      Secured D E v := h.retable hv ei (by rw [ea]) (by rw [eq]) (by rw [eq]) (by rw [eq]) fun e => absurd e hD
  by_cases hk : o.holds.own = false ∧ o.holds.interlock = false ∧ o.pendingHolds.own = false
  · rwa [resumeEffect_lacks hk]
  · rw [resumeEffect_removes hk] at head ⊢
    split
    · next hd => rw [if_pos hd] at head; exact stands head rfl rfl rfl
    · next hd =>
      rw [if_neg hd] at head
      split
      · next hh =>
        rw [if_pos hh] at head
        have hown := (h.head.books.head.fits o hm).active.1 (.inr hh)
        have hs := (abortingRetract_iff.1 ((h.aborts hE).resolve_left (by simp [hown]))).1
        rw [resumeOwner_working (s := Machine.updOrder o.id dropOwn s) (by simp [hs]) (by simp [hs])] at head ⊢
        exact stands head rfl rfl rfl
      · next hh =>
        rw [if_neg hh] at head
        split
        · next hop =>
          rw [if_pos hop, grant_shut (s := Machine.updOrder o.id dropOwn s) h.shut] at head
          rw [grant_shut (s := Machine.updOrder o.id dropOwn s) h.shut]
          exact stands head rfl rfl rfl
        · next hop => rw [if_neg hop] at head; exact stands head rfl rfl rfl

theorem Secured.deviceFreed (h : Secured D E s) : Secured D E (deviceFreed s) :=
  h.retable (Inv.deviceFreed h.head) rfl rfl rfl rfl rfl fun hD =>
    (h.held hD).map (g := freeing) (fun x => ⟨rfl, fun hx => by simp [freeing, dropDevice, hx]⟩) rfl rfl

theorem Secured.resumeAllEffect (h : Secured D E s) : Secured D E (resumeAllEffect s) := by
  have hh := h.head.books.head
  by_cases hk : ∃ o, ownerOf s = .some o ∧ o.status = .held ∧ o.holds.own = false ∧ o.holds.interlock = false
  · obtain ⟨o, ho, hk⟩ := hk
    have hown := (ownerOf_some ho).2
    have hE := h.barred.resolve_left fun hD => by simp [((h.held hD).owner ho).2] at hk
    have hs := (abortingRetract_iff.1 ((h.aborts hE).resolve_left (by simp [hown]))).1
    have hq : (deviceDropped s).seq.state = .retract := hs
    rw [resumeAllEffect_resumes ho hk, resumeOwner_working (by simp [hq]) (by simp [hq]),
      show (dropDevice o).id = o.id from rfl, deviceDropped_resumed (headOk_iff.2 h.head) ho hk]
    exact h.deviceFreed.grant
  · have hk' : ∀ x ∈ s.table.orders, ¬(x.status = .held ∧ x.holds.own = false ∧ x.holds.interlock = false) := fun x hx e => by
      have hx' : ownerOf s = .some x := h.head.active_owner (findOrder_eq hh.ids hx) (.inr e.1)
      exact hk ⟨x, hx', e⟩
    rw [resumeAllEffect_rest fun o ho e => hk ⟨o, ho, e⟩, deviceDropped_eq hk']
    exact h.deviceFreed.grant

/-- An OPEN order ends, which is not the owner. -/
theorem Secured.endOpened {id : Nat} {out : OrderOutcome} {why : Option AbortReason} (h : Secured D E s)
    (hf : findOrder id s = .some o) (ho : o.status = .opened) : Secured D E (endOrder id out why s) := by
  have head : Inv False False (endOrder id out why s) := h.head.endOpened hf ho nofun
  obtain ⟨hm, rfl⟩ := findOrder_some hf
  refine h.retable head (by simp) (by simp) (by simp) (by simp) (by simp) fun hD x hx e => ?_
  have hne : s.arb.owner ≠ .some o.id := fun e => by simpa [ho] using (h.head.books.head.fits o hm).active.2 e
  rw [(endOrder_effect out why hf).1] at hx
  obtain ⟨y, hy, rfl⟩ := List.mem_map.1 hx
  by_cases hid : y.id = o.id
  · exact absurd e (by simpa [hid, ending] using hne)
  · simp only [hid, if_false] at e ⊢
    exact h.held hD y hy (by simpa using e)

theorem Secured.afterAppend {id n : Nat} (h : Secured D E s) : Secured D E (afterAppend id n s) := by
  unfold Machine.afterAppend
  split
  · exact h
  · next o hf =>
    split
    · next hop =>
      split
      · exact h.endOpened hf hop
      · split
        · exact h
        · exact h.grant
    · rw [if_neg]
      · exact h
      · intro hw
        simpa [waitingAtBoundary, hw.2.1] using h.not_waiting

theorem Secured.decideAddPoints {r : AddPointsReq} (h : Secured D E s) : Secured D E (decideAddPoints src r s).state := by
  unfold Machine.decideAddPoints
  split
  · exact h
  · next o ho =>
    split
    · exact h
    · exact Secured.afterAppend (h.retable (Inv.appended h.head (findOrder_some (liveOrder_ok ho).1).1) rfl rfl rfl rfl rfl fun hD =>
        ((h.held hD).updOrder (id := o.id) (f := appendPoints r) fun x => by simp).congr rfl rfl)

theorem Secured.cancelOwner (h : Secured D E s) (ho : ownerOf s = .some o) (ha : abortingRetract s = false) :
    Secured D E (cancelOwner o s) := by
  have hown := (h.head.owner ho).2
  obtain ⟨hD, hE⟩ := h.door_only hown.2 ha
  have head := h.head.cancelOwner ho
  have marked : Secured D E (markCancel o s) := h.upd h.head.markCancel fun x => ⟨rfl, fun hx => hx⟩
  have hseq : (markCancel o s).seq = s.seq := rfl
  unfold Machine.cancelOwner at head ⊢
  dsimp only at head ⊢
  generalize markCancel o s = u at *
  rw [← hseq] at head ⊢
  split
  · exact marked
  · next hstop =>
    rw [if_neg hstop] at head
    have safe := marked.resting (by simpa using hstop)
    have ends {v : State} (ei : v.inputs = u.inputs) : (cancelNow o v).arb.owner = .none :=
      endOwner_frees (marked.shut.imp (doorClosed_congr (by simp [ei])).trans (estopClear_congr (by simp [ei])).trans)
    cases hs : u.seq.state with
    | moveIndent | tare | approach | ramp | dwell | moveView | settle | focus | measure | awaitPoints | storeWait =>
      simp [hs, SeqState.doorSafe] at safe
    | unload | retract | idle => exact marked
    | reviewWait => rw [hs] at head; exact marked.free head (by simp) (ends (by simp))
    | paused => rw [hs] at head; exact marked.free head (by simp) (ends (by simp))

theorem Secured.cancelEffect {id : Nat} (h : Secured D E s) (hf : findOrder id s = .some o) (hne : o.status ≠ .ended) :
    Secured D E (cancelEffect o s) := by
  have head := h.head.cancelEffect hf hne
  obtain ⟨hm, rfl⟩ := findOrder_some hf
  unfold Machine.cancelEffect at head ⊢
  split
  · next hop =>
    rw [if_pos hop] at head
    have hno : s.arb.owner ≠ .some o.id := fun e => by simpa [hop] using (h.head.books.head.fits o hm).active.2 e
    refine h.retable head (by simp) (by simp) (by simp) (by simp) (by simp) fun hD x hx e => ?_
    have hf' : findOrder o.id (discardPoints o s) = .some (discarding o) := by
      rw [discardPoints_eq, findOrder_updOrder _ discarding fun _ => rfl]
      simp [hf]
    rw [(endOrder_effect _ _ hf').1, discardPoints_eq, updOrder_orders, List.map_map] at hx
    obtain ⟨y, hy, rfl⟩ := List.mem_map.1 hx
    by_cases hid : y.id = o.id
    · exact absurd e (by simpa [hid, ending, discarding] using hno)
    · simp only [Function.comp, hid, if_false] at e ⊢
      exact h.held hD y hy (by simpa using e)
  · next hop =>
    split
    · exact h
    · next hk =>
      simp only [Bool.or_eq_true, not_or, Bool.not_eq_true] at hk
      refine h.cancelOwner (h.head.active_owner hf ?_) hk.2
      cases hs : o.status <;> simp_all

theorem Secured.decideCancel {id : Nat} (h : Secured D E s) : Secured D E (decideCancel src id s).state := by
  unfold Machine.decideCancel
  split
  · exact h
  · next ho =>
    obtain ⟨hf, hne, -⟩ := liveOrder_ok ho
    exact h.cancelEffect hf hne

theorem Secured.decideHold {id : Nat} (h : Secured D E s) : Secured D E (decideHold src id s).state := by
  unfold Machine.decideHold
  split
  · exact h
  · next ho =>
    obtain ⟨hf, hne, -⟩ := liveOrder_ok ho
    exact h.holdEffect hf hne

theorem Secured.decideResume {id : Nat} (h : Secured D E s) : Secured D E (decideResume src id s).state := by
  unfold Machine.decideResume
  split
  · exact h
  · next ho =>
    obtain ⟨hf, hne, -⟩ := liveOrder_ok ho
    split
    · next hd => exact h.resumeEffect hd hf hne
    · exact h

/-! ## The other requests -/

theorem Secured.setLock {holder : Option Port} (h : Secured D E s) : Secured D E (setLock holder s) :=
  Secured.grant (h.same (.of_seq (by constructor <;> simp) (by simp)) (by simp))

theorem Secured.decideTakeHead (h : Secured D E s) : Secured D E (decideTakeHead src s).state := by
  unfold Machine.decideTakeHead
  split
  · exact h.setLock
  · split <;> exact h

theorem Secured.decideFreeHead (h : Secured D E s) : Secured D E (decideFreeHead src s).state := by
  unfold Machine.decideFreeHead
  split
  · exact h
  · split
    · exact h.setLock
    · exact h

theorem Secured.decideEnter {seq d1 d2 : Nat} (h : Secured D E s) : Secured D E (decideEnter src seq d1 d2 s).state := by
  unfold Machine.decideEnter
  split
  · exact h
  · next hc =>
    split
    · exact h
    · split
      · exact h
      · exact h.afterClose (closes_manual _ d1 d2) (claimCheck_open hc)

theorem Secured.decideReject {seq : Nat} (h : Secured D E s) : Secured D E (decideReject src seq s).state := by
  unfold Machine.decideReject
  split
  · exact h
  · next hc => exact h.afterClose (closes_unmeasured .rejected) (claimCheck_open hc)

theorem Secured.decideReleaseResults {through : Nat} (h : Secured D E s) : Secured D E (decideReleaseResults src through s).state := by
  have head := h.head.decideReleaseResults (src := src) (through := through)
  unfold Machine.decideReleaseResults at head ⊢
  dsimp only at head ⊢
  have hw : ¬(s.store.records.countP (released src.port through) ≠ 0 ∧ s.seq.state = .storeWait) := fun e => by
    simpa [waitingAtBoundary, e.2] using h.not_waiting
  rw [if_neg hw] at head ⊢
  exact h.retable head rfl rfl rfl rfl rfl fun hD => (h.held hD).congr rfl rfl

theorem Secured.decideWriteCalibration {rec : Nat} {f : CalFields} (h : Secured D E s) :
    Secured D E (decideWriteCalibration src rec f s).state := by
  have written : Secured D E (s.modCal (writeTable rec f src.port)) := h.same ⟨⟨rfl, rfl, rfl, rfl, rfl⟩, rfl, rfl, rfl, rfl, rfl⟩ rfl
  unfold Machine.decideWriteCalibration
  split
  · exact h
  · dsimp only
    split
    · exact written.grant
    · exact written

/-- An order that was not in the table is not the owner, where the new one is OPEN. -/
theorem Secured.decideOpenOrder {r : OpenOrderReq} (h : Secured D E s) : Secured D E (decideOpenOrder src r s).state := by
  refine h.retable h.head.decideOpenOrder (by simp) (by simp) (by simp) (by simp) (by simp) fun hD x hx e => ?_
  have fits := (h.head.decideOpenOrder (src := src) (r := r)).books.head.fits x hx
  have active := fits.active.2 e
  have e : s.arb.owner = .some x.id := by simpa using e
  unfold Machine.decideOpenOrder at hx
  split at hx
  · exact h.held hD x hx e
  · rcases List.mem_append.1 hx with hx | hx
    · refine h.held hD x ?_ e
      unfold slotsFor at hx
      split at hx
      · exact hx
      · split at hx
        · exact hx
        · exact List.mem_of_mem_filter hx
    · obtain rfl := List.mem_singleton.1 hx
      simp [newOrder] at active

theorem Secured.decideReadSummary {id : Nat} (h : Secured D E s) : Secured D E (decideReadSummary src id s).state := by
  refine h.retable h.head.decideReadSummary (by simp) (by simp) (by simp) (by simp) (by simp) fun hD x hx e => ?_
  refine h.held hD x ?_ (by simpa using e)
  unfold Machine.decideReadSummary at hx
  split at hx
  · exact hx
  · split at hx
    · exact hx
    · split at hx
      · exact List.mem_of_mem_filter hx
      · exact hx

end Sys2Proof.Proofs.Indent

/-! # Every step keeps the interlock: the events and a step -/

namespace Sys2Proof.Proofs.Indent
open Sys2Proof Sys2Proof.Machine Sys2Proof.Proofs.Orders

variable {D E : Prop} {s t u : State} {o : Order} {p : Port} {src : Source}

/-! ## The events -/

theorem Secured.quiet (h : Secured D E s) (e : SameHead s t) (eq : t.seq = s.seq) (ei : t.inputs = s.inputs) : Secured D E t :=
  h.same (.of_seq e eq) ei

theorem Secured.takeShared {f : RxFrame} (h : Secured D E s) : Secured D E (takeShared p f s) := by
  unfold Machine.takeShared
  split
  · next e =>
    unfold sharedEffect at e
    split at e
    · simp at e
    · split at e
      · obtain rfl := Option.some.inj e; exact h.holdAllEffect
      · split at e
        · obtain rfl := Option.some.inj e; exact h.resumeAllEffect
        · split at e
          · have e := setLampEffect_frame e
            exact h.quiet (by constructor <;> rw [e]) (by rw [e]) (by rw [e])
          · simp at e
  · exact h.quiet (by constructor <;> simp) (by simp) (by simp)

theorem Secured.frameTaken (h : Secured D E s) (e : execFrameTaken p s = .next t) : Secured D E t := by
  obtain rfl := Host.Outcome.next.inj e
  split
  · exact h
  · split
    · dsimp only
      split
      · exact Secured.takeShared (h.quiet (by constructor <;> simp) (by simp) (by simp))
      · exact h.quiet (by constructor <;> simp) (by simp) (by simp)
    · exact h

/-- A port reset passes the lock on at most, and no grant follows. -/
theorem Secured.resetPort (h : Secured D E s) : Secured D E (resetPort p s) := by
  have h1 : Secured D E ((s.modPort p (LinkPort.restart p)).modStore (·.setArmed p true)) := by
    refine h.retable (h.head.restock ?_ ?_ ?_ ?_ ?_ nofun nofun) ?_ ?_ ?_ ?_ ?_ fun hD => (h.held hD).congr ?_ ?_
    all_goals simp
  have h2 : Secured D E (dropClaim p ((s.modPort p (LinkPort.restart p)).modStore (·.setArmed p true))) := by
    unfold dropClaim
    split
    · exact h1
    · next v hv =>
      split
      · exact h1.retable (h1.head.claim hv) rfl rfl rfl rfl rfl fun hD => (h1.held hD).congr rfl rfl
      · exact h1
  unfold Machine.resetPort dropLock
  split
  · exact h2.setLock
  · exact h2

theorem Secured.portReset (h : Secured D E s) (e : execPortReset p s = .next t) : Secured D E t := by
  obtain rfl := Host.Outcome.next.inj e
  split
  · exact h.resetPort
  · exact h

theorem Secured.stageDone (h : Secured D E s) : Secured D E (stageDone s) := h.same ⟨⟨rfl, rfl, rfl, rfl, rfl⟩, rfl, rfl, rfl, rfl, rfl⟩ rfl

theorem Secured.turretDone (h : Secured D E s) : Secured D E (turretDone s) := h.same ⟨⟨rfl, rfl, rfl, rfl, rfl⟩, rfl, rfl, rfl, rfl, rfl⟩ rfl

theorem Secured.stgDone (h : Secured D E s) (e : execStgDone s = .next t) : Secured D E t := by
  obtain rfl := Host.Outcome.next.inj e
  rw [h.not_inMove]
  split
  · exact h
  · exact h.stageDone.judgeRest

theorem Secured.stgFault (h : Secured D E s) (e : execStgFault s = .next t) : Secured D E t := by
  obtain rfl := Host.Outcome.next.inj e
  split
  · exact h
  · split
    · exact h.stageDone
    · exact h.stageDone.abortPath

theorem Secured.turDone (h : Secured D E s) (e : execTurDone s = .next t) : Secured D E t := by
  obtain rfl := Host.Outcome.next.inj e
  rw [h.not_inMove]
  split
  · exact h
  · exact h.turretDone.judgeRest

theorem Secured.stageTimerExpiry (h : Secured D E s) (e : execStageTimerExpiry s = .next t) : Secured D E t := by
  obtain rfl := Host.Outcome.next.inj e
  split
  · exact h
  · exact h.stageDone.abortPath

theorem Secured.turretTimerExpiry (h : Secured D E s) (e : execTurretTimerExpiry s = .next t) : Secured D E t := by
  obtain rfl := Host.Outcome.next.inj e
  split
  · exact h
  · exact h.abortPath

theorem Secured.loadSample {count : Int} (h : Secured D E s) (e : execLoadSample count s = .next t) : Secured D E t := by
  obtain rfl := Host.Outcome.next.inj e
  have sampled (f : ForceMonitor → ForceMonitor) : Secured D E (s.modForce f) := h.quiet ⟨rfl, rfl, rfl, rfl, rfl⟩ rfl rfl
  exact (sampled _).judgeSample.quiet ⟨rfl, rfl, rfl, rfl, rfl⟩ rfl rfl

theorem Secured.actRaised {level : Bool} (h : Secured D E s) (e : execActRaised level s = .next t) : Secured D E t := by
  obtain rfl := Host.Outcome.next.inj e
  split
  · exact h
  · exact Secured.judgeRest (h.quiet ⟨rfl, rfl, rfl, rfl, rfl⟩ rfl rfl)

/-- No approach is under way for its timer to end. -/
theorem Secured.approachTimerExpiry (h : Secured D E s) (e : execApproachTimerExpiry s = .next t) : Secured D E t := by
  obtain rfl := Host.Outcome.next.inj e
  split
  · exact h
  · rw [if_neg]
    · exact h
    · intro hs
      simpa [hs.1, SeqState.doorSafe] using h.resting hs.2

theorem Secured.unloadTimerExpiry (h : Secured D E s) (e : execUnloadTimerExpiry s = .next t) : Secured D E t := by
  obtain rfl := Host.Outcome.next.inj e
  split
  · exact h
  · exact h.abortPath

theorem Secured.retractTimerExpiry (h : Secured D E s) (e : execRetractTimerExpiry s = .next t) : Secured D E t := by
  obtain rfl := Host.Outcome.next.inj e
  split
  · exact h
  · split
    · next hw => exact h.abortRecords (abortReasonHeld_some hw).1
    · exact h.abortPath

/-- No owner waits for points, to yield. -/
theorem Secured.starvationTimerExpiry (h : Secured D E s) (e : execStarvationTimerExpiry s = .next t) : Secured D E t := by
  obtain rfl := Host.Outcome.next.inj e
  split
  · rw [if_neg]
    · exact h
    · intro hs
      simpa [waitingAtBoundary, hs] using h.not_waiting
  · exact h

theorem Secured.frameCompletion (h : Secured D E s) (e : execFrameCompletion s = .next t) : Secured D E t := by
  obtain rfl := Host.Outcome.next.inj e
  split
  · exact h
  · dsimp only
    split
    · exact h.quiet ⟨rfl, rfl, rfl, rfl, rfl⟩ rfl rfl
    · exact Secured.followFocus (h.quiet ⟨rfl, rfl, rfl, rfl, rfl⟩ rfl rfl)

theorem Secured.scoreReady (h : Secured D E s) (e : execScoreReady s = .next t) : Secured D E t := by
  obtain rfl := Host.Outcome.next.inj e
  rw [h.not_inView]
  split <;> exact h

theorem Secured.frameTimerExpiry (h : Secured D E s) (e : execFrameTimerExpiry s = .next t) : Secured D E t := by
  obtain rfl := Host.Outcome.next.inj e
  rw [h.not_inView]
  split <;> exact h

/-- No measurement is under way to be reported. -/
theorem Secured.measurementReport (h : Secured D E s) (e : execMeasurementReport s = .next t) : Secured D E t := by
  obtain rfl := Host.Outcome.next.inj e
  split
  · rw [if_neg]
    · exact h
    · intro hs
      simpa [hs.1, SeqState.doorSafe] using h.resting hs.2
  · exact h

theorem Secured.windowTimerExpiry (h : Secured D E s) (e : execWindowTimerExpiry s = .next t) : Secured D E t := by
  obtain rfl := Host.Outcome.next.inj e
  split
  · next hv => exact h.afterClose (closes_unmeasured .reviewExpired) (by simp [hv])
  · exact h

/-! ## A command that does not change the levels -/

/-- A request answered by what its owner decided. -/
theorem Secured.served {cmd : Instr} {d : State → Answer} (h : Secured D E s) (e : Host.Outcome.next (serve cmd src d s)
    = (.next t : Host.Outcome State Fault Refusal)) (hd : Secured D E (d s).state) : Secured D E t := by
  obtain rfl := Host.Outcome.next.inj e
  unfold serve
  dsimp only
  split
  · exact h.quiet (by constructor <;> simp [Answer.refuse]) (by simp [Answer.refuse]) (by simp [Answer.refuse])
  · exact hd.quiet (by constructor <;> simp) (by simp) (by simp)

/-- The commands that may change the level of an interlock input. -/
def changesLevels : Instr → Bool
  | .coldReset _ => true
  | .stabilityTimerExpiry _ => true
  | _ => false

/-- A change of the lines leaves the level (R167). -/
@[simp] theorem judge_level {α : Type} [DecidableEq α] (raw : α) (d : Debounced α) : (d.judge raw).level = d.level := by
  unfold Debounced.judge; repeat' split
  all_goals rfl

@[simp] theorem withCycle_inputs (s t : State) : (s.withCycle t).inputs = s.inputs := rfl

@[simp] theorem withView_inputs (s t : State) : (s.withView t).inputs = s.inputs := rfl

/-- SET INPUTS sets the times and leaves the levels (R168). -/
theorem decideSetInputs_levels (d k c : Nat) (s : State) :
    (decideSetInputs d k c s).state.inputs.door.level = s.inputs.door.level
      ∧ (decideSetInputs d k c s).state.inputs.estop.level = s.inputs.estop.level := by
  unfold decideSetInputs
  split
  · exact ⟨rfl, rfl⟩
  · next hi =>
    unfold inputsAfter at hi
    split at hi
    · obtain rfl := Option.some.inj hi; exact ⟨rfl, rfl⟩
    · simp at hi

/-- A command that does not change the levels leaves them as they read. -/
theorem exec_levels {i : Instr} (hi : changesLevels i = false) (e : exec i s = .next t) :
    doorClosed t = doorClosed s ∧ estopClear t = estopClear s := by
  have levels (h : t.inputs.door.level = s.inputs.door.level ∧ t.inputs.estop.level = s.inputs.estop.level) :
      doorClosed t = doorClosed s ∧ estopClear t = estopClear s := by simp [doorClosed, estopClear, h]
  have frame := everyCommandKeepsItsFrame i s t e
  cases i with
  | coldReset _ | stabilityTimerExpiry _ => simp [changesLevels] at hi
  | inputChange c =>
    obtain rfl := Host.Outcome.next.inj e
    cases c <;> exact levels (by simp)
  | setInputs src d k c =>
    obtain rfl := Host.Outcome.next.inj e
    refine levels ?_
    unfold serve
    dsimp only
    split
    · simp [Answer.refuse]
    · simpa using decideSetInputs_levels d k c s
  | _ =>
    have frame : t = _ := frame
    have ei : t.inputs = s.inputs := (congrArg State.inputs frame).trans (by simp)
    exact levels (by simp [ei])

/-- A command that does not change the levels keeps what they demand. -/
theorem Secured.exec {i : Instr} (h : Secured D E s) (hi : changesLevels i = false) (e : exec i s = .next t) : Secured D E t := by
  have frame := everyCommandKeepsItsFrame i s t e
  obtain ⟨ed, ee⟩ := exec_levels hi e
  cases i with
  | coldReset _ | stabilityTimerExpiry _ => simp [changesLevels] at hi
  | startupLoadComplete _ | commitComplete _ | frameReceived _ _ | receiveGap _ | responseSent _ | lineBreak _ | readState _
  | readNotices _ | setLink _ _ | readResults _ _ _ | readCalibration _ _ | claimReview _ _
  | setLamp _ _ _ _ | setInputs _ _ _ _ | inputChange _ | frameStart | lampTimebaseTick | lineMarker _ | pixelTaken _ =>
    have frame : t = _ := frame
    have eq : t.seq = s.seq := (congrArg State.seq frame).trans (by simp)
    have eo : t.table.orders = s.table.orders := (congrArg (·.table.orders) frame).trans (by simp)
    have ea : t.arb.owner = s.arb.owner := (congrArg (·.arb.owner) frame).trans (by simp)
    refine ⟨h.head.exec e, h.barred, ed ▸ h.door, ee ▸ h.estop, fun hD => (h.held hD).congr eo ea, fun hD => ?_, fun hE => ?_⟩
    · unfold DoorSafe; rw [eq]; exact h.safe hD
    · unfold Aborting; rw [ea, abortingRetract_congr (s := s) (by rw [eq]) (by rw [eq])]; exact h.aborts hE
  | frameTaken p => exact h.frameTaken e
  | portReset p => exact h.portReset e
  | openOrder src r => exact h.served e h.decideOpenOrder
  | addPoints src r => exact h.served e h.decideAddPoints
  | cancelOrder src id => exact h.served e h.decideCancel
  | holdOrder src id => exact h.served e h.decideHold
  | resumeOrder src id => exact h.served e h.decideResume
  | holdAll src => exact h.served e h.holdAllEffect
  | resumeAll src => exact h.served e h.resumeAllEffect
  | takeHead src => exact h.served e h.decideTakeHead
  | freeHead src => exact h.served e h.decideFreeHead
  | enterDiagonals src seq d1 d2 => exact h.served e h.decideEnter
  | rejectImpression src seq => exact h.served e h.decideReject
  | releaseResults src through => exact h.served e h.decideReleaseResults
  | readSummary src id => exact h.served e h.decideReadSummary
  | writeCalibration src rec f => exact h.served e h.decideWriteCalibration
  | stgDone => exact h.stgDone e
  | stgFault => exact h.stgFault e
  | turDone => exact h.turDone e
  | stageTimerExpiry => exact h.stageTimerExpiry e
  | turretTimerExpiry => exact h.turretTimerExpiry e
  | loadSample count => exact h.loadSample e
  | actRaised level => exact h.actRaised e
  | approachTimerExpiry => exact h.approachTimerExpiry e
  | unloadTimerExpiry => exact h.unloadTimerExpiry e
  | retractTimerExpiry => exact h.retractTimerExpiry e
  | starvationTimerExpiry => exact h.starvationTimerExpiry e
  | frameCompletion => exact h.frameCompletion e
  | scoreReady => exact h.scoreReady e
  | frameTimerExpiry => exact h.frameTimerExpiry e
  | measurementReport => exact h.measurementReport e
  | windowTimerExpiry => exact h.windowTimerExpiry e

/-! ## An accepted level (R169 to R171) -/

/-- What the levels as they read demand is kept by what keeps it under any. -/
theorem interlockOk_of_secured (h : s.InterlockOk) (head : Inv False False t) (ed : doorClosed t = doorClosed s)
    (ee : estopClear t = estopClear s) (secured : ∀ {D E : Prop}, Secured D E s → Secured D E t) : t.InterlockOk := by
  obtain ⟨hh, hd, he⟩ := interlockOk_iff.1 h
  have now (hb : doorClosed s = false ∨ estopClear s = false) : Secured (doorClosed s = false) (estopClear s = false) t :=
    secured ⟨hh, hb, id, id, fun e => (hd e).1, fun e => (hd e).2, he⟩
  refine interlockOk_iff.2 ⟨head, fun e => ?_, fun e => ?_⟩
  · rw [ed] at e
    exact ⟨(now (.inl e)).held e, (now (.inl e)).safe e⟩
  · rw [ee] at e
    exact (now (.inr e)).aborts e

/-- A grant considered keeps the interlock. -/
theorem interlockOk_grant (h : s.InterlockOk) : (grant s).InterlockOk :=
  interlockOk_of_secured h (interlockOk_iff.1 h).1.grant (doorClosed_congr (by simp)) (estopClear_congr (by simp)) Secured.grant

/-- Beside the levels nothing that the interlock speaks of has changed, and a level that did not bar the head does not bar it now. -/
theorem interlockOk_relevel (h : s.InterlockOk) (e : SameWork s t) (ed : doorClosed t = false → doorClosed s = false)
    (ee : estopClear t = false → estopClear s = false) : t.InterlockOk := by
  obtain ⟨hh, hd, he⟩ := interlockOk_iff.1 h
  refine interlockOk_iff.2 ⟨hh.same e, fun hc => ?_, fun hc => ?_⟩
  · obtain ⟨h1, h2⟩ := hd (ed hc)
    refine ⟨h1.congr e.orders e.owner, ?_⟩
    unfold DoorSafe; rw [e.stopFlag, e.state]; exact h2
  · unfold Aborting
    rw [e.owner, abortingRetract_congr e.state e.purpose]; exact he (ee hc)

/-- Once the owner has gained INTERLOCK it is HELD with it. -/
theorem ownerHeld_gainInterlock (h : Inv False False s) : OwnerHeld (gainInterlock s) := by
  unfold gainInterlock
  split
  · next hn => exact fun x _ e => by simp [h.owner_none hn] at e
  · next o ho =>
    intro x hx e
    obtain ⟨y, hy, rfl⟩ := List.mem_map.1 hx
    have e : s.arb.owner = .some y.id := by split at e <;> exact e
    have hid : y.id = o.id := by simpa [e] using (ownerOf_some ho).2
    simp [hid]

/-- A door opening stops the work of any state that it does not leave (R169). -/
theorem doorSafe_doorAction (s : State) : DoorSafe (doorAction s) := by
  unfold doorAction
  split
  · next h => exact .inl h
  · cases hs : s.seq.state with
    | idle | unload | reviewWait | retract | paused => exact .inr (by simp [hs, SeqState.doorSafe])
    | awaitPoints | storeWait => exact .inr (by simp [SeqState.doorSafe])
    | moveIndent | tare | approach | moveView | settle | focus | measure => exact .inl (by simp)
    | ramp | dwell => exact .inr (by simp [interruptPoint, SeqState.doorSafe])

/-- A door opening leaves an owner that aborts, or no owner, as it was. -/
theorem aborting_doorAction (h : Inv False False s) (ha : Aborting s) : Aborting (doorAction s) := by
  have hs : s.seq.state = .idle ∨ s.seq.state = .retract := by
    rcases ha with e | e
    · exact .inl (h.seq.idle.1 e)
    · exact .inr (abortingRetract_iff.1 e).1
  have e : doorAction s = s := by
    unfold doorAction
    split
    · rfl
    · rcases hs with e | e <;> simp [e]
  rwa [e]

/-- The first level of the door, an opening and a closing keep the interlock. -/
theorem interlockOk_afterDoor {was : Option DoorLevel} {now : DoorLevel} (head : Inv False False s)
    (hnow : s.inputs.door.level = .some now) (hd : was ≠ .some .isClosed → OwnerHeld s ∧ DoorSafe s)
    (he : estopClear s = false → Aborting s) : (afterDoor was now s).InterlockOk := by
  have posted (e : InterlockEvent) : Inv False False (postInterlock e s) := head.postInterlock
  have shut (hc : now = .isClosed) : s.InterlockOk :=
    interlockOk_iff.2 ⟨head, fun e => by simp [doorClosed, hnow, hc] at e, he⟩
  cases was with
  | none =>
    cases now with
    | isOpen => exact interlockOk_iff.2 ⟨head, fun _ => hd (by simp), he⟩
    | isClosed => exact interlockOk_grant (shut rfl)
  | some was =>
    cases now with
    | isOpen =>
      have gained := (posted .doorOpened).gainInterlock
      show (doorAction (gainInterlock (postInterlock .doorOpened s))).InterlockOk
      refine interlockOk_iff.2 ⟨gained.doorAction, fun _ => ⟨?_, doorSafe_doorAction _⟩, fun hc => ?_⟩
      · exact (ownerHeld_gainInterlock (posted .doorOpened)).congr (by simp) (by simp)
      · refine aborting_doorAction gained ?_
        have ha := he (by rwa [estopClear_congr (s := s) (by simp)] at hc)
        unfold Aborting at ha ⊢
        rwa [abortingRetract_congr (s := s) (by simp) (by simp), show (gainInterlock (postInterlock .doorOpened s)).arb = s.arb by simp]
    | isClosed =>
      exact interlockOk_grant (interlockOk_relevel (shut rfl) (.of_seq (by constructor <;> simp) (by simp))
        (by rw [doorClosed_congr (s := s) (by simp)]; exact id) (by rw [estopClear_congr (s := s) (by simp)]; exact id))

/-- The first level of the e-stop, an assertion and a clearing keep the interlock. -/
theorem interlockOk_afterEstop {was : Option EstopLevel} {now : EstopLevel} (head : Inv False False s)
    (hnow : s.inputs.estop.level = .some now) (hd : doorClosed s = false → OwnerHeld s ∧ DoorSafe s)
    (he : was ≠ .some .clear → Aborting s) : (afterEstop was now s).InterlockOk := by
  have clear (hc : now = .clear) : s.InterlockOk :=
    interlockOk_iff.2 ⟨head, hd, fun e => by simp [estopClear, hnow, hc] at e⟩
  have posted (e : InterlockEvent) : SameWork s (postInterlock e s) := .of_seq (by constructor <;> simp) (by simp)
  cases was with
  | none =>
    cases now with
    | asserted => exact interlockOk_iff.2 ⟨head, hd, fun _ => he (by simp)⟩
    | clear => exact interlockOk_grant (clear rfl)
  | some was =>
    cases now with
    | asserted =>
      have head' := head.same (posted .estopAsserted)
      have hd' (hc : doorClosed s = false) : OwnerHeld (postInterlock .estopAsserted s) ∧ DoorSafe (postInterlock .estopAsserted s) := by
        refine ⟨(hd hc).1.congr (by simp) (by simp), ?_⟩
        rcases (hd hc).2 with h | h
        · exact .inl (by simpa using h)
        · exact .inr (by simpa using h)
      simp only [afterEstop, estopPressed]
      split
      · next ha =>
        refine interlockOk_iff.2 ⟨head', fun hc => hd' (by rwa [doorClosed_congr (s := s) (by simp)] at hc), fun _ => .inr ?_⟩
        rwa [abortingRetract_congr (s := s) (by simp) (by simp)]
      · refine interlockOk_iff.2 ⟨head'.abortPath, fun hc => ?_, fun _ => abortPath_aborting head'⟩
        obtain ⟨h1, h2⟩ := hd' (by rwa [doorClosed_congr (s := s) (by simp)] at hc)
        exact abortPath_held h1 h2
    | clear =>
      exact interlockOk_grant (interlockOk_relevel (clear rfl) (posted _)
        (by rw [doorClosed_congr (s := s) (by simp)]; exact id) (by rw [estopClear_congr (s := s) (by simp)]; exact id))

/-- The level that an expired stability timer accepts. -/
theorem accept_level {α : Type} {d : Debounced α} {now : α} (h : d.due = .some now) : d.accept.level = .some now := by
  unfold Debounced.due at h
  split at h
  · simp at h
  · simpa [Debounced.accept] using h

theorem interlockOk_stabilityTimerExpiry {i : InputName} (h : s.InterlockOk) (e : execStabilityTimerExpiry i s = .next t) :
    t.InterlockOk := by
  obtain ⟨hh, hd, he⟩ := interlockOk_iff.1 h
  have entered (f : Inputs → Inputs) : Inv False False (s.modInputs f) := hh.quiet rfl rfl rfl rfl rfl rfl
  obtain rfl := Host.Outcome.next.inj e
  cases i with
  | door =>
    dsimp only
    split
    · exact h
    · next now hnow =>
      refine interlockOk_afterDoor (entered _) (by simpa using accept_level hnow) (fun hw => ?_) he
      exact hd (by simpa [doorClosed] using hw)
  | estop =>
    dsimp only
    split
    · exact h
    · next now hnow =>
      refine interlockOk_afterEstop (entered _) (by simpa using accept_level hnow) hd fun hw => ?_
      exact he (by simpa [estopClear] using hw)
  | station =>
    dsimp only
    split
    · exact h
    · have stood : (s.modInputs fun i => { i with station := i.station.accept }).InterlockOk :=
        interlockOk_relevel h (.of_seq ⟨rfl, rfl, rfl, rfl, rfl⟩ rfl) id id
      exact interlockOk_of_secured stood (entered _).judgeTurret (doorClosed_congr (by simp)) (estopClear_congr (by simp))
        Secured.judgeTurret

/-! ## A step -/

theorem interlockOk_exec {i : Instr} (h : s.InterlockOk) (e : exec i s = .next t) : t.InterlockOk := by
  have head := (interlockOk_iff.1 h).1.exec e
  by_cases hi : changesLevels i = false
  · exact interlockOk_of_secured h head (exec_levels hi e).1 (exec_levels hi e).2 fun hs => hs.exec hi e
  · cases i with
    | coldReset pins =>
      obtain rfl := Host.Outcome.next.inj e
      exact interlockOk_iff.2 ⟨head, fun _ => ⟨fun x hx => (List.not_mem_nil hx).elim, Inv.safe_of_free head rfl⟩,
        fun _ => .inl rfl⟩
    | stabilityTimerExpiry i => exact interlockOk_stabilityTimerExpiry h e
    | _ => simp [changesLevels] at hi

/-- Settles O12: every command that does not change the levels keeps what they demand, and an accepted level brings it about. -/
theorem stepKeepsTheInterlock : Obligations.StepKeepsTheInterlock := by
  intro s t h e
  have ht : t.InterlockOk := by
    unfold step at e
    split at e
    · obtain rfl := Host.Outcome.next.inj e
      exact h
    · next rest _ =>
      have h' : State.InterlockOk { s with pending := rest } := interlockOk_relevel h (.of_seq ⟨rfl, rfl, rfl, rfl, rfl⟩ rfl) id id
      exact interlockOk_exec h' e
  exact ⟨ht, approachSafe_of_interlockOk ht⟩

end Sys2Proof.Proofs.Indent

/-! # An accepted level of the door, the e-stop and the station code (R62, R166, R167, R169 to R173) -/

namespace Sys2Proof.Proofs.Indent
open Sys2Proof Sys2Proof.Machine Sys2Proof.Proofs.Orders Sys2Proof.Proofs.Store

variable {s t u : State} {o : Order}

/-! ## The expiry of a stability timer -/

theorem due_stopped {α : Type} {d : Debounced α} (h : d.timer = .none) : d.due = .none := by simp [Debounced.due, h]

theorem due_running {α : Type} {d : Debounced α} (h : d.timer.isSome = true) : d.due = d.candidate := by
  obtain ⟨n, hn⟩ := Option.isSome_iff_exists.1 h
  simp [Debounced.due, hn]

/-- The door with `l` its level (R167). -/
def doorAccepted (l : DoorLevel) (s : State) : State :=
  { s with inputs := { s.inputs with door := { s.inputs.door with level := .some l, candidate := .none, timer := .none } } }

/-- The e-stop with `l` its level (R167). -/
def estopAccepted (l : EstopLevel) (s : State) : State :=
  { s with inputs := { s.inputs with estop := { s.inputs.estop with level := .some l, candidate := .none, timer := .none } } }

/-- The station code with `code` its level (R167). -/
def stationAccepted (code : Nat) (s : State) : State :=
  { s with inputs := { s.inputs with station := { s.inputs.station with level := .some code, candidate := .none, timer := .none } } }

theorem exec_door_stopped (h : s.inputs.door.timer = .none) : exec (.stabilityTimerExpiry .door) s = .next s := by
  simp [exec, execStabilityTimerExpiry, due_stopped h]

theorem exec_door {l : DoorLevel} (h : s.inputs.door.timer.isSome = true) (hc : s.inputs.door.candidate = .some l) :
    exec (.stabilityTimerExpiry .door) s = .next (afterDoor s.inputs.door.level l (doorAccepted l s)) := by
  simp only [exec, execStabilityTimerExpiry, due_running h, hc, Debounced.accept, State.modInputs]; rfl

theorem exec_estop_stopped (h : s.inputs.estop.timer = .none) : exec (.stabilityTimerExpiry .estop) s = .next s := by
  simp [exec, execStabilityTimerExpiry, due_stopped h]

theorem exec_estop {l : EstopLevel} (h : s.inputs.estop.timer.isSome = true) (hc : s.inputs.estop.candidate = .some l) :
    exec (.stabilityTimerExpiry .estop) s = .next (afterEstop s.inputs.estop.level l (estopAccepted l s)) := by
  simp only [exec, execStabilityTimerExpiry, due_running h, hc, Debounced.accept, State.modInputs]; rfl

theorem exec_station_stopped (h : s.inputs.station.timer = .none) : exec (.stabilityTimerExpiry .station) s = .next s := by
  simp [exec, execStabilityTimerExpiry, due_stopped h]

theorem exec_station {code : Nat} (h : s.inputs.station.timer.isSome = true) (hc : s.inputs.station.candidate = .some code) :
    exec (.stabilityTimerExpiry .station) s = .next (judgeTurret (stationAccepted code s)) := by
  simp only [exec, execStabilityTimerExpiry, due_running h, hc, Debounced.accept, State.modInputs]; rfl

/-- The owner is found in the table under the arbiter's id alone. -/
theorem ownerOf_congr (et : t.table = s.table) (ea : t.arb = s.arb) : ownerOf t = ownerOf s := by
  simp [ownerOf, findOrder, et, ea]

/-- INTERLOCK names the head owner, or none. -/
theorem postInterlock_eq (e : InterlockEvent) (s : State) : postInterlock e s = postBoth
    { kind := .interlock, orderId := ((ownerOf s).map (·.id)).getD 0, origin := (ownerOf s).map (·.origin), seq := 0
      value := interlockValue e } s := by
  unfold postInterlock
  cases ownerOf s <;> rfl

/-! ## The door by the sequencer's state (R62, R169) -/

/-- An order that gains INTERLOCK (R169). -/
def interlocking (o : Order) : Order := { o with holds := { o.holds with interlock := true }, status := .held }

theorem gainInterlock_none (ho : ownerOf s = .none) : gainInterlock s = s := by simp [gainInterlock, ho]

theorem gainInterlock_some (ho : ownerOf s = .some o) : gainInterlock s = updOrder o.id interlocking s := by
  simp only [gainInterlock, ho]; rfl

/-- The interlock stop of a motion (R62). -/
theorem beginStop_eq (s : State) : beginStop s = { s with
    pins := if s.seq.stageOutstanding then { s.pins with stage := .stop } else s.pins
    seq := { s.seq with stopFlag := true, timers := { s.seq.timers with
      stage := .none, turret := .none, approach := .none, retract := .some 5000 } } } := by
  rw [beginStop, stopStage_eq]; rfl

theorem doorAction_stopping (h : s.seq.stopFlag = true) : doorAction s = s := if_pos h

variable (h : s.seq.stopFlag = false)
include h

theorem doorAction_leaves (hs : s.seq.state ∈ [.idle, .unload, .reviewWait, .retract, .paused]) : doorAction s = s := by
  simp only [List.mem_cons, List.not_mem_nil, or_false] at hs
  rcases hs with e | e | e | e | e <;> simp [doorAction, h, e]

theorem doorAction_waiting (hs : s.seq.state ∈ [.awaitPoints, .storeWait]) : doorAction s = pauseWaiting s := by
  simp only [List.mem_cons, List.not_mem_nil, or_false] at hs
  rcases hs with e | e <;> simp [doorAction, h, e]

theorem doorAction_moving (hs : s.seq.state ∈ [.moveIndent, .tare, .approach, .moveView]) : doorAction s = beginStop s := by
  simp only [List.mem_cons, List.not_mem_nil, or_false] at hs
  rcases hs with e | e | e | e <;> simp [doorAction, h, e]

theorem doorAction_viewing (hs : s.seq.state ∈ [.settle, .focus, .measure]) : doorAction s = beginStop (stopView s) := by
  simp only [List.mem_cons, List.not_mem_nil, or_false] at hs
  rcases hs with e | e | e <;> simp [doorAction, h, e]

theorem doorAction_forcing (hs : s.seq.state ∈ [.ramp, .dwell]) : doorAction s = interruptPoint s := by
  simp only [List.mem_cons, List.not_mem_nil, or_false] at hs
  rcases hs with e | e <;> simp [doorAction, h, e]

omit h

/-- Settles O42: the accepted level, the notice and the cause, then the stop by the sequencer's state. -/
theorem doorIsAcceptedAndActsByState : Obligations.DoorIsAcceptedAndActsByState := by
  intro s
  have posted (e : InterlockEvent) (l : DoorLevel) : postInterlock e (doorAccepted l s) = postBoth
      { kind := .interlock, orderId := ((ownerOf s).map (·.id)).getD 0, origin := (ownerOf s).map (·.origin), seq := 0
        value := interlockValue e } (doorAccepted l s) := postInterlock_eq e _
  refine ⟨exec_door_stopped, fun ht hl => ⟨fun hc => ?_, fun hc => ?_⟩, fun ht hl hc => ?_, fun ht hl hc => ?_⟩
  · rw [exec_door ht hc, hl]; rfl
  · rw [exec_door ht hc, hl]; rfl
  · rw [exec_door ht hc, hl, afterDoor, doorShut, posted]; rfl
  · have leads : exec (.stabilityTimerExpiry .door) s = .next (doorAction (gainInterlock (postInterlock .doorOpened
        (doorAccepted .isOpen s)))) := by rw [exec_door ht hc, hl]; rfl
    rw [posted] at leads
    dsimp only
    rw [leads]
    refine ⟨fun hn hs => ?_, fun o ho => ?_⟩
    · rw [gainInterlock_none ((ownerOf_congr (by simp; rfl) (by simp; rfl)).trans hn)]
      cases hf : s.seq.stopFlag with
      | true => rw [doorAction_stopping (by exact hf)]; rfl
      | false => rw [doorAction_leaves (by exact hf) (by simp [doorAccepted, hs])]; rfl
    · rw [gainInterlock_some ((ownerOf_congr (by simp; rfl) (by simp; rfl)).trans ho)]
      refine ⟨fun hf => ?_, fun hf hs => ?_, fun hf hs => ?_, fun hf hs => ?_, fun hf hs => ?_, fun hf hs => ?_⟩
      · rw [doorAction_stopping (by exact hf)]; rfl
      · rw [doorAction_leaves (by exact hf) (List.mem_cons_of_mem _ (by exact hs))]; rfl
      · rw [doorAction_waiting (by exact hf) (by exact hs)]; rfl
      · rw [doorAction_moving (by exact hf) (by exact hs), beginStop_eq]; rfl
      · rw [doorAction_viewing (by exact hf) (by exact hs), beginStop_eq]; rfl
      · rw [doorAction_forcing (by exact hf) (by exact hs)]; rfl

/-! ## The e-stop and the station code (R51 to R53, R58, R171, R173) -/

/-- With no order holding the head there is none to abort. -/
theorem abortPath_none {why : AbortReason} {spent : Bool} (hn : ownerOf s = .none) : abortPath why spent s = s := by
  simp [abortPath, hn]

/-- Settles O43: the accepted level of the e-stop with the abort path or a grant, and the station code as the end of a turret move. -/
theorem estopAndStationAreAccepted : Obligations.EstopAndStationAreAccepted := by
  intro s
  have posted (e : InterlockEvent) (l : EstopLevel) : postInterlock e (estopAccepted l s) = postBoth
      { kind := .interlock, orderId := ((ownerOf s).map (·.id)).getD 0, origin := (ownerOf s).map (·.origin), seq := 0
        value := interlockValue e } (estopAccepted l s) := postInterlock_eq e _
  refine ⟨exec_estop_stopped, fun ht hl => ⟨fun hc => ?_, fun hc => ?_⟩, fun ht hl hc => ?_, fun ht hl hc => ?_,
    exec_station_stopped, fun code hc ht => ?_⟩
  · rw [exec_estop ht hc, hl]; rfl
  · rw [exec_estop ht hc, hl]; rfl
  · rw [exec_estop ht hc, hl, afterEstop, estopFreed, posted]; rfl
  · dsimp only
    rw [exec_estop ht hc, hl, afterEstop, estopPressed, posted, abortingRetract_eq,
      show abortReasonHeld (estopAccepted .asserted s) = abortReasonHeld s from rfl]
    refine ⟨?_, fun hn => ?_⟩
    · rintro (ha | hn)
      · rw [if_pos ha]; rfl
      · have free : ownerOf (postBoth
            { kind := .interlock, orderId := ((ownerOf s).map (·.id)).getD 0, origin := (ownerOf s).map (·.origin), seq := 0
              value := interlockValue .estopAsserted } (estopAccepted .asserted s)) = .none :=
          (ownerOf_congr (by simp; rfl) (by simp; rfl)).trans hn
        rw [abortPath_none free, ite_self]; rfl
    · rw [if_neg (by simp [hn])]; rfl
  · dsimp only
    rw [exec_station ht hc]
    refine ⟨fun hs => ?_, fun o ho hm hp hout => ?_⟩
    · have : judgeTurret (stationAccepted code s) = stationAccepted code s := by
        unfold judgeTurret
        split
        · rfl
        · rw [if_neg]
          rcases hs with h | h | h
          · simp [show inMove (stationAccepted code s) = false from h]
          · simp [show (stationAccepted code s).seq.turretPart = true from h]
          · simp [show (stationAccepted code s).seq.turretOutstanding = true from h]
      rw [this]; rfl
    · have ho' : ownerOf (stationAccepted code s) = .some o := ho
      have reads : stationReads (requestedStation o s) (stationAccepted code s) = true ↔ code = requestedStation o s ∧ code < 6 := by
        simp only [stationReads, stationAccepted, Option.some.injEq, Bool.and_eq_true, decide_eq_true_eq]
        grind
      refine ⟨fun hw => ?_, fun hr h6 hst => ?_, fun hr h6 hst hs => ?_, fun hr h6 hst hs => ?_⟩
      · rw [judgeTurret_wrong ho' (by rw [← Bool.not_eq_true]; exact fun e => by have := reads.1 e; omega)]; rfl
      · rw [judgeTurret_right ho' hm hp hout (reads.2 ⟨hr, h6⟩), judgeMove_open (by simp [stationAccepted, hst])]; rfl
      · rw [judgeTurret_right ho' hm hp hout (reads.2 ⟨hr, h6⟩), judgeMove_indent (by exact hm) (by simp [stationAccepted, hst]) (by exact hs)]; rfl
      · rw [judgeTurret_right ho' hm hp hout (reads.2 ⟨hr, h6⟩), judgeMove_view (by exact hm) (by simp [stationAccepted, hst]) (by exact hs) (by exact ho)]; rfl

end Sys2Proof.Proofs.Indent

/-! # The end of UNLOAD, and the timers of the indenter (R54, R56, R57, R61, R62, R68, R81, R82) -/

namespace Sys2Proof.Proofs.Indent
open Sys2Proof Sys2Proof.Machine Sys2Proof.Proofs.Orders Sys2Proof.Proofs.Store

variable {s t v : State} {o : Order} {c : CurPoint}

/-! ## The end of UNLOAD -/

/-- An unload is judged by the line and the force alone. -/
theorem judgeRest_unloading (hs : s.seq.state = .unload) (hstop : s.seq.stopFlag = false) (ho : ownerOf s = .some o) :
    judgeRest false s = if s.pins.actRaised = true ∧ s.force.lastForce < contactThreshold o.forceCode then finishUnload s else s := by
  simp [judgeRest, hstop, hs, liftedOff, ho]

theorem judgeSample_unloading {count : Int} (hs : s.seq.state = .unload) (hstop : s.seq.stopFlag = false)
    (ho : ownerOf s = .some o) : judgeSample count s = judgeRest false s := by
  simp [judgeSample, hstop, hs, ho]

/-- A load sample is the last force, judged by the sequencer, with the set-point sent on (R68). -/
theorem execLoadSample_eq (count : Int) (s : State) : execLoadSample count s = .next (sendSetPoint (judgeSample count
    { s with force := { s.force with lastForce :=
      (if s.cal.loaded = false ∨ conditionOf 6 s = .loadFault then count - s.force.tare
       else roundAway ((count - s.force.tare) * s.cal.gain) 1000) } })) := by
  simp only [execLoadSample, State.modForce, sampleForce_gainInUse]

section
variable (ho : ownerOf s = .some o)
include ho

theorem finishUnload_cancels (hc : s.seq.cur.isSome = true) (hp : o.cancelPending = true) :
    finishUnload s = boundary (recordCurrent o .unmeasured .cancelled (unloadOver s)) := by
  obtain ⟨c, hc⟩ := Option.isSome_iff_exists.1 hc
  simp [finishUnload_eq, ho, hc, hp]

variable (hp : o.cancelPending = false)
include hp

theorem finishUnload_lists (hc : s.seq.cur = .some c) (hm : o.mode = .deferred) :
    finishUnload s = boundary ((unloadOver s).modSeq fun q =>
      { q with cur := .none, impressions := q.impressions ++ [Impression.ofPoint (handOver s.force c)] }) := by
  simp [finishUnload_eq, ho, hc, hp, hm]

variable (hm : o.mode = .immediate)
include hm

theorem finishUnload_records {m : Mark} (hc : s.seq.cur = .some c) (hk : c.mark = .some m) :
    finishUnload s = boundary (recordCurrent o .unmeasured m.reason (unloadOver s)) := by
  simp [finishUnload_eq, ho, hc, hp, hm, handOver, hk]

theorem finishUnload_unmarked (hc : s.seq.cur = .some c) (hk : c.mark = .none) :
    finishUnload s = if o.status = .held then enterPaused (unloadOver s) else enterMoveView o (unloadOver s) := by
  simp [finishUnload_eq, ho, hc, hp, hm, handOver, hk]

end

/-! ## The timers -/

theorem execActRaised_same {level : Bool} (h : s.pins.actRaised = level) : execActRaised level s = .next s := by
  simp [execActRaised, h]

theorem execApproachTimerExpiry_running (h : s.seq.timers.approach.isSome = true) (hs : s.seq.state = .approach)
    (hstop : s.seq.stopFlag = false) : execApproachTimerExpiry s =
      .next (enterRetract .noContact (s.modTimers fun t => { t with approach := .none })) := by
  obtain ⟨n, hn⟩ := Option.isSome_iff_exists.1 h
  simp [execApproachTimerExpiry, hn, hs, hstop]

theorem execUnloadTimerExpiry_running (h : s.seq.timers.unload.isSome = true) :
    execUnloadTimerExpiry s = .next (abortPath .motionFault true s) := by
  obtain ⟨n, hn⟩ := Option.isSome_iff_exists.1 h
  simp [execUnloadTimerExpiry, hn]

section
variable (h : s.seq.timers.retract.isSome = true)
include h

theorem execRetractTimerExpiry_held {why : AbortReason} (hw : abortReasonHeld s = .some why) :
    execRetractTimerExpiry s = .next (abortRecords why s) := by
  obtain ⟨n, hn⟩ := Option.isSome_iff_exists.1 h
  simp [execRetractTimerExpiry, hn, hw]

theorem execRetractTimerExpiry_unheld (hw : abortReasonHeld s = .none) :
    execRetractTimerExpiry s = .next (abortPath (retractFault s) true s) := by
  obtain ⟨n, hn⟩ := Option.isSome_iff_exists.1 h
  simp [execRetractTimerExpiry, hn, hw]

end

/-- Settles O48: a change of ACT_RAISED and a sample judge the same unload, which ends at lift-off; then each timer by its case. -/
theorem unloadEndsAtLiftOff : Obligations.UnloadEndsAtLiftOff := by
  refine ⟨fun e o c s v ho hc hs hstop hv => ?_, fun s => ⟨fun level h => execActRaised_same h, fun h => ?_, fun h hs hstop => ?_,
    fun h => ?_, fun h => ?_, fun h => ?_, fun why hw h => ?_, fun h hw => ?_⟩⟩
  · intro lifted c1 s1 leaves
    obtain ⟨hseq, hforce, hown, leads⟩ : v.seq = s.seq ∧ v.force = { s.force with lastForce := v.force.lastForce }
        ∧ ownerOf v = .some o ∧ leaves (judgeRest false v) := by
      rcases hv with ⟨level, rfl, hne, rfl⟩ | ⟨count, rfl, rfl⟩
      · exact ⟨rfl, rfl, ho, congrArg Host.Outcome.next (if_neg hne)⟩
      · refine ⟨rfl, rfl, ho, ?_⟩
        refine (execLoadSample_eq count s).trans ?_
        rw [judgeSample_unloading (by exact hs) (by exact hstop) (by exact ho)]
        rfl
    have hand (k : CurPoint) : handOver v.force k = handOver s.force k := by rw [hforce]; rfl
    have hc' : v.seq.cur = .some c := by rw [hseq, hc]
    have ended : unloadOver v = s1 := by
      simp only [unloadOver, State.modTimers, State.modSeq, hseq, hc, Option.map_some, hand]; rfl
    rw [judgeRest_unloading (by rw [hseq, hs]) (by rw [hseq, hstop]) hown] at leads
    refine ⟨fun hl => by rwa [if_neg hl] at leads, fun hl => ?_⟩
    rw [if_pos hl] at leads
    refine ⟨fun hp => ?_, fun hp hm => ?_, fun hp hm => ⟨fun hk => ?_, fun hk => ?_, fun hk hh => ?_, fun hk hh => ?_⟩⟩
    · rwa [finishUnload_cancels hown (by simp [hc']) hp, ended] at leads
    · rwa [finishUnload_lists hown hp hc' hm, ended, hand] at leads
    · rwa [finishUnload_records hown hp hm hc' hk, ended] at leads
    · rwa [finishUnload_records hown hp hm hc' hk, ended] at leads
    · rwa [finishUnload_unmarked hown hp hm hc' hk, if_pos hh, ended] at leads
    · rwa [finishUnload_unmarked hown hp hm hc' hk, if_neg hh, ended] at leads
  · simp [exec, execApproachTimerExpiry, h]
  · exact (execApproachTimerExpiry_running h hs hstop).trans (by rw [enterRetract_eq]; rfl)
  · simp [exec, execUnloadTimerExpiry, h]
  · exact execUnloadTimerExpiry_running h
  · simp [exec, execRetractTimerExpiry, h]
  · exact execRetractTimerExpiry_held h hw
  · exact execRetractTimerExpiry_unheld h hw

end Sys2Proof.Proofs.Indent

/-! # The fall of FRAME (R58, R86, R87, R89, R91, R92) -/

namespace Sys2Proof.Proofs.Indent
open Sys2Proof Sys2Proof.Machine Sys2Proof.Proofs.Orders Sys2Proof.Proofs.Store

variable {s : State} {c : CaptureUnit} {b : BankId}

theorem modBank_eq (b : BankId) (f : Bank → Bank) (c : CaptureUnit) :
    c.modBank b f = if b = .zero then { c with bank0 := f (c.bank b) } else { c with bank1 := f (c.bank b) } := by
  cases b <;> rfl

theorem modBank_phase (b : BankId) (f : Bank → Bank) (c : CaptureUnit) : (c.modBank b f).phase = c.phase := by cases b <;> rfl

/-- There is an open bank: bank 0 where both are open (R86). -/
theorem openBank_some (h : (b = .zero ∧ c.bank0.isOpen = true) ∨ (b = .one ∧ c.bank0.isOpen = false ∧ c.bank1.isOpen = true)) :
    c.openBank = .some b := by
  obtain ⟨rfl, h0⟩ | ⟨rfl, h0, h1⟩ := h
  · simp [CaptureUnit.openBank, CaptureUnit.findBank, h0]
  · simp [CaptureUnit.openBank, CaptureUnit.findBank, h0, h1]

theorem openBank_none (h0 : c.bank0.isOpen = false) (h1 : c.bank1.isOpen = false) : c.openBank = .none := by
  simp [CaptureUnit.openBank, CaptureUnit.findBank, h0, h1]

theorem isWhole_iff {lineHigh : Bool} {k : Bank} :
    k.isWhole lineHigh = true ↔ lineHigh = false ∧ k.inLine = false ∧ k.lines = 1024 := by
  simp only [Bank.isWhole, Bool.and_eq_true, Bool.not_eq_true', decide_eq_true_eq, and_assoc]
  rfl

/-! ## The end of a frame by the view's phase -/

section
variable {lineHigh : Bool}

theorem endFrame_broken (h : ¬ (c.bank b).isWhole lineHigh = true) : c.endFrame lineHigh b = c.frameError b := by
  simp [CaptureUnit.endFrame, h]

variable (h : (c.bank b).isWhole lineHigh = true)
include h

theorem endFrame_settle (hp : c.phase = .settle) :
    c.endFrame lineHigh b = { c.modBank b Bank.release with phase := .focus, frameTimer := .some 1000 } := by
  simp [CaptureUnit.endFrame, h, hp, Config.frameMs]

theorem endFrame_focus (hp : c.phase = .focus) : c.endFrame lineHigh b =
    { c.modBank b (fun k => { k with closed := true }) with scoring := c.scoring ++ [b], frameTimer := .some 1000 } := by
  simp [CaptureUnit.endFrame, h, hp, Config.frameMs]

end

/-! ## The command -/

theorem followFocus_settle (hs : s.seq.state = .settle) (hp : s.cap.phase = .focus) : followFocus s = enterState .focus s :=
  if_pos ⟨hs, hp⟩

theorem followFocus_apart (h : s.seq.state ≠ .settle ∨ s.cap.phase ≠ .focus) : followFocus s = s :=
  if_neg fun ⟨hs, hp⟩ => h.elim (· hs) (· hp)

theorem execFrameCompletion_low (h : s.pins.frameHigh = false) : execFrameCompletion s = .next s := by
  simp [execFrameCompletion, h]

theorem execFrameCompletion_shut (h : s.pins.frameHigh = true) (hb : s.cap.openBank = .none) :
    execFrameCompletion s = .next { s with pins := { s.pins with frameHigh := false } } := by
  simp [execFrameCompletion, h, hb, State.modPins]

theorem execFrameCompletion_open (h : s.pins.frameHigh = true) (hb : s.cap.openBank = .some b) :
    execFrameCompletion s = .next (followFocus { s with
      pins := { s.pins with frameHigh := false }, cap := s.cap.endFrame s.pins.lineHigh b }) := by
  simp [execFrameCompletion, h, hb, State.modPins, State.modCap]

/-- Settles O52: a frame that is not whole is an error; a whole one acts by the view's phase, which the sequencer follows. -/
theorem frameCompletionClosesTheBank : Obligations.FrameCompletionClosesTheBank := by
  refine ⟨fun b s h hb => ?_, fun s => ⟨execFrameCompletion_low, fun h h0 h1 => execFrameCompletion_shut h (openBank_none h0 h1)⟩⟩
  intro k put whole freed low
  have ended := execFrameCompletion_open h (openBank_some hb)
  refine ⟨fun hw hp => ended.trans ?_, fun hw hp hs => ended.trans ?_, fun hw hp hs => ended.trans ?_⟩
  · rw [endFrame_broken (mt isWhole_iff.1 hw), followFocus_apart]
    · simp only [CaptureUnit.frameError, modBank_eq]; rfl
    · simpa [CaptureUnit.frameError, modBank_phase] using hp
  · rw [endFrame_settle (isWhole_iff.2 hw) hp, followFocus_settle (by exact hs) rfl]
    simp only [modBank_eq]; rfl
  · rw [endFrame_focus (isWhole_iff.2 hw) hp, followFocus_apart (.inl (by simp [hs]))]
    simp only [modBank_eq]; rfl

end Sys2Proof.Proofs.Indent

/-! # The end of FOCUS and the engine's report (R58, R59, R94 to R97, R101, R102, R120) -/

namespace Sys2Proof.Proofs.Indent
open Sys2Proof Sys2Proof.Machine Sys2Proof.Proofs.Orders Sys2Proof.Proofs.Store

variable {s : State} {c : CaptureUnit} {b : BankId} {o : Order} {v : ViewParams}

/-! ## The BEST bank -/

theorem test_of_findBank {test : Bank → Bool} (h : c.findBank test = .some b) : test (c.bank b) = true := by
  unfold CaptureUnit.findBank at h
  split at h
  · next h0 => cases h; exact h0
  · split at h
    · next h1 => cases h; exact h1
    · cases h

theorem role_bestBank (h : c.bestBank = .some b) : (c.bank b).role = .best := by simpa using test_of_findBank h

theorem bestBank_isSome (h : (c.bank b).role = .best) : c.bestBank.isSome = true := by
  unfold CaptureUnit.bestBank CaptureUnit.findBank
  cases b with
  | zero => simp [show c.bank0.role = .best from h]
  | one =>
    split
    · rfl
    · simp [show c.bank1.role = .best from h]

/-- A bank that takes its score leaves a bank that is BEST: itself, or the one that was and stays (R93). -/
theorem decideRole_best (b : BankId) (n : Nat) (c : CaptureUnit) : ∃ b', ((c.decideRole b n).bank b').role = .best := by
  unfold CaptureUnit.decideRole
  split
  · next h =>
    split
    · exact ⟨b, by cases b <;> rfl⟩
    · exact ⟨b.other, by cases b <;> exact h⟩
  · exact ⟨b, by cases b <;> rfl⟩

theorem enterScore_best (b : BankId) (v : ViewParams) (c : CaptureUnit) : ∃ best, (c.enterScore b v).bestBank = .some best := by
  obtain ⟨b', h⟩ := decideRole_best b (focusScore v.bandW v.rh (c.bank b).hProfile) c
  exact Option.isSome_iff_exists.1 (bestBank_isSome (c := c.enterScore b v) (b := b') (by cases b' <;> exact h))

/-- What a hand-over of `best` makes of the bank `k` called `name` (R95). -/
def handed (best name : BankId) (k : Bank) : Bank :=
  if name = best then { k with role := .reading } else if k.role = .filling then k.release else k

theorem handOver_bestBank (h : c.bestBank = .some b) : c.handOver b = { c with
    expose := false, frameTimer := .none, scoring := [], bank0 := handed b .zero c.bank0, bank1 := handed b .one c.bank1
    phase := .handed } := by
  have hr := role_bestBank h
  cases b with
  | zero =>
    have kept : c.bank0.dropFilling = c.bank0 := if_neg (by rw [show c.bank0.role = .best from hr]; decide)
    simp only [CaptureUnit.handOver, CaptureUnit.endFocus, kept]; rfl
  | one =>
    have kept : c.bank1.dropFilling = c.bank1 := if_neg (by rw [show c.bank1.role = .best from hr]; decide)
    simp only [CaptureUnit.handOver, CaptureUnit.endFocus, kept]; rfl

/-! ## The end of FOCUS by the score -/

section
variable (h : s.cap.bestBank = .some b)
include h

theorem judgeFocus_threshold (hs : v.threshold ≤ orZero (s.cap.bank b).score) : judgeFocus v o s = chooseBank b false o s := by
  simp [judgeFocus, h, hs]

variable (hs : orZero (s.cap.bank b).score < v.threshold)
include hs

theorem judgeFocus_goes_on (hn : s.cap.framesScored < v.frameLimit) : judgeFocus v o s = s := by
  simp [judgeFocus, h, hs, hn]

variable (hn : v.frameLimit ≤ s.cap.framesScored)
include hn

theorem judgeFocus_soft (hh : v.threshold / 2 ≤ orZero (s.cap.bank b).score) : judgeFocus v o s = chooseBank b true o s := by
  simp [judgeFocus, h, Nat.not_le.2 hs, Nat.not_lt.2 hn, hh]

theorem judgeFocus_fails (hh : orZero (s.cap.bank b).score < v.threshold / 2) :
    judgeFocus v o s = captureFailure .focusFail s := by
  simp [judgeFocus, h, Nat.not_le.2 hs, Nat.not_lt.2 hn, Nat.not_le.2 hh]

end

theorem inView_of_state (hs : s.seq.state ∈ [.settle, .focus]) (hstop : s.seq.stopFlag = false) : inView s = true := by
  simpa [inView, hstop] using hs

theorem execScoreReady_scoring {rest : List BankId} (ho : ownerOf s = .some o) (hb : s.cap.scoring = b :: rest)
    (hv : s.cap.params = .some v) (hs : inView s = true) :
    execScoreReady s = .next (judgeFocus v o { s with cap := s.cap.enterScore b v }) := by
  simp only [execScoreReady, hb, hv, ho, hs, State.modCap, if_true]

theorem execFrameTimerExpiry_stopped (h : s.cap.frameTimer = .none) : execFrameTimerExpiry s = .next s := by
  simp [execFrameTimerExpiry, h]

theorem execFrameTimerExpiry_running (h : s.cap.frameTimer.isSome = true) (hs : inView s = true) :
    execFrameTimerExpiry s = .next (captureFailure .noImage s) := by
  obtain ⟨n, hn⟩ := Option.isSome_iff_exists.1 h
  simp [execFrameTimerExpiry, hn, hs]

/-- Settles O54: after a score there is a BEST bank, whose score ends FOCUS by its case; and the frame timer fails the view. -/
theorem focusEndsOnTheScore : Obligations.FocusEndsOnTheScore := by
  refine ⟨fun b rest v o s ho hs hstop hb hv => ?_, fun s => ⟨execFrameTimerExpiry_stopped, fun h hs hstop =>
    execFrameTimerExpiry_running h (inView_of_state hs hstop)⟩⟩
  intro c n
  obtain ⟨best, hbest⟩ := enterScore_best b v s.cap
  refine ⟨best, hbest, ?_⟩
  intro S used free reading ended glass inputs work measures
  have leaves : exec .scoreReady s = .next (judgeFocus v o { s with cap := c }) :=
    execScoreReady_scoring ho hb hv (inView_of_state (by simp [hs]) hstop)
  have chosen (soft : Bool) (h : judgeFocus v o { s with cap := c } = chooseBank best soft o { s with cap := c }) :
      measures soft := by
    refine leaves.trans ?_
    rw [h, chooseBank, State.modCap, handOver_bestBank (by exact hbest)]
    rfl
  refine ⟨fun hS => ?_, fun hS hn => ?_, fun hS hn hh => ?_, fun hh hn => ?_⟩
  · exact chosen false (judgeFocus_threshold hbest hS)
  · rw [leaves, judgeFocus_goes_on (by exact hbest) (by exact hS) (by exact hn)]
  · exact chosen true (judgeFocus_soft hbest hS hn hh)
  · have hS : S < v.threshold := by omega
    rw [leaves, judgeFocus_fails (by exact hbest) (by exact hS) (by exact hn) (by exact hh)]
    rfl

/-! ## The engine's report -/

theorem freeReading_some (h : c.readingBank = .some b) :
    c.freeReading = { c.modBank b Bank.release with phase := .none, params := .none } := by
  simp [CaptureUnit.freeReading, h]

theorem execMeasurementReport_measured {m : Measurement} (hm : s.engine = .some m) (hb : s.cap.readingBank = .some b)
    (ho : ownerOf s = .some o) (hs : s.seq.state = .measure) (hstop : s.seq.stopFlag = false) :
    execMeasurementReport s = .next (takeReport o (measureReport m (s.cap.bank b).hProfile (s.cap.bank b).vProfile)
      { s with cap := { s.cap.modBank b Bank.release with phase := .none, params := .none }, engine := .none }) := by
  simp only [execMeasurementReport, hm, hb, ho, hs, hstop, and_self, if_true, State.modCap, State.setEngine, freeReading_some hb]

theorem takeReport_error (why : Reason) : takeReport o (.error why) s = handleFailure why s := by
  simp [takeReport]

theorem takeReport_ok {p : CurPoint} (hp : s.seq.cur = .some p) (x : Measured) :
    takeReport o (.ok x) s = boundary (dropCurrent (writeRecord o (measuredRecord o p x s) s)) := by
  simp [takeReport, hp]

/-- Settles O56: the report is taken with the bank freed and the view ended. -/
theorem measurementIsReported : Obligations.MeasurementIsReported := by
  intro m b o p s hm hb ho hp hs hstop report freed s1
  have leaves : exec .measurementReport s = .next (takeReport o report s1) := execMeasurementReport_measured hm hb ho hs hstop
  refine ⟨fun why hr => ?_, fun x hr => ?_⟩
  · rw [leaves, hr, takeReport_error]
  · rw [leaves, hr, takeReport_ok (by exact hp)]; rfl

end Sys2Proof.Proofs.Indent

/-! # A failure and its review, and a review superseded by a resume (R59, R125, R134, R139 to R141, R145, R189) -/

namespace Sys2Proof.Proofs.Indent
open Sys2Proof Sys2Proof.Machine Sys2Proof.Proofs.Orders Sys2Proof.Proofs.Store

variable {s : State} {o : Order}

/-! ## The opening of a review -/

theorem handleFailure_recorded {why : Reason} (ho : ownerOf s = .some o) (h : o.window = 0 ∨ o.cancelPending = true) :
    handleFailure why s = boundary (recordCurrent o .unmeasured why s) := by
  simp only [handleFailure, ho]
  exact if_neg fun ⟨hw, hp⟩ => h.elim hw (by simp [hp])

theorem handleFailure_opens {why : Reason} (ho : ownerOf s = .some o) (hw : o.window ≠ 0) (hp : o.cancelPending = false) :
    handleFailure why s = openReview o why s := by
  simp [handleFailure, ho, hw, hp]

/-- A review opens over the record written, which REVIEW OPEN tells both ports behind what the write told (R125, R189). -/
theorem openReview_eq {p : CurPoint} (why : Reason) (hp : s.seq.cur = .some p) : openReview o why s =
    let w := writeRecord o (recordOf o p .review why s) s
    let n := orderNotice .reviewOpen o s.store.nextSeq (reasonCode why)
    { w with
      portA := w.portA.post n, portB := w.portB.post n, seq := { w.seq with state := .reviewWait, cur := .none }
      force := { w.force with setPoint := 0 }
      desk := { review := .some { seq := s.store.nextSeq, orderId := o.id, claimant := .none }
                window := .some (o.window * 1000) } } := by
  simp only [openReview, recordCurrent, hp]
  rfl

/-! ## The close of a review by a resume -/

/-- The impression of a superseded review is back in the hand, its record gone (R134, R141). -/
theorem superseded_eq {v : Review} (x : Record) (ho : findOrder v.orderId s = .some o) (hid : o.id = v.orderId) :
    superseded v x s =
      let n : Notice := { kind := .reviewClosed, orderId := o.id, origin := .some o.origin, seq := v.seq, value := 6 }
      { s with
        portA := s.portA.post n, portB := s.portB.post n, desk := { review := .none, window := .none }
        store := { s.store with
          records := s.store.records.filter (·.seq ≠ v.seq)
          waitingA := if x.origin = .A then s.store.waitingA - 1 else s.store.waitingA
          waitingB := if x.origin = .B then s.store.waitingB - 1 else s.store.waitingB }
        seq := { s.seq with cur := .some (CurPoint.ofRecord x) } } := by
  have found (f : ResultStore → ResultStore) : findOrder v.orderId (clearDesk (s.modStore f)) = .some o := ho
  simp only [superseded, postReviewClosed, found, Option.map_some, hid]
  cases x.origin <;> rfl

/-- The move to the view of the current point (R58). -/
theorem enterMoveView_eq {c : CurPoint} (hc : s.seq.cur = .some c) : enterMoveView o s =
    let r := stationRecord o.objective s
    let there := stationReads o.objective s
    { s with
      force := { s.force with setPoint := 0 }
      pins := { s.pins with stage := .move (c.x + r.x) (c.y + r.y) }
      seq := { s.seq with
        state := .moveView, stageOutstanding := true, stagePart := false, turretPart := there
        turretOutstanding := !there || s.seq.turretOutstanding
        turretRequest := if there then s.seq.turretRequest else o.objective
        timers := { s.seq.timers with
          stage := .some 10000, turret := if there then s.seq.timers.turret else .some 5000 } } } := by
  have hreads : stationReads o.objective (enterState .moveView s) = stationReads o.objective s := rfl
  have hcur : (enterState .moveView s).seq.cur = .some c := hc
  simp only [enterMoveView, issueMove, hcur]
  cases h : stationReads o.objective s with
  | true => rw [if_pos (by exact h)]; rfl
  | false => rw [if_neg (by simpa using by exact h)]; rfl

/-- Settles O55: the review off or a cancel pending, the opening on top of the write, and the supersession. -/
theorem failureOpensAReview : Obligations.FailureOpensAReview := by
  refine ⟨fun why o p s ho hp => ⟨handleFailure_recorded ho, fun hw hc => ?_⟩, fun v o x s hok hv ho hx hxv => ?_⟩
  · intro seq waiting due about told
    obtain ⟨-, written⟩ := recordsAreReportedToTheirOrder
    rw [handleFailure_opens ho hw hc, openReview_eq why hp, written]
    rfl
  · intro r there n
    obtain ⟨-, store, -, -, -, desk⟩ := hok
    obtain ⟨hown, -⟩ := desk v hv
    obtain ⟨-, hid⟩ := ownerOf_some ho
    have hvo : o.id = v.orderId := Option.some.inj (hid.symm.trans hown)
    have found : findOrder v.orderId s = .some o := by simpa [ownerOf, hown] using ho
    rw [supersedeReview_some hv (hxv ▸ findRecord_eq (storeOk_iff.1 store) hx), superseded_eq x found hvo, enterMoveView_eq rfl]
    rfl

end Sys2Proof.Proofs.Indent

/-! # The force codes, and a load sample by the sequencer's state (R54, R68 to R79, R158) -/

namespace Sys2Proof.Proofs.Force
open Sys2Proof Sys2Proof.Machine Sys2Proof.Proofs.Orders Sys2Proof.Proofs.Indent

variable {s : State} {o : Order} {count : Int}

/-! ## The force codes (R70) -/

/-- Settles O57: the twelve codes one by one. -/
theorem forceCodesAsTabled : Obligations.ForceCodesAsTabled := by
  refine ⟨by decide, fun c hc => ?_⟩
  interval_cases c <;> decide

/-! ## The operations of a sample -/

theorem notePeak_eq (code : Nat) (f : ForceMonitor) : f.notePeak code =
    { f with peak := max f.peak f.lastForce
             deviation := f.deviation || decide ((nominalForce code + forceBand code : Nat) < f.lastForce) } := by
  rw [ForceMonitor.notePeak, max_def_lt]

theorem inBand_iff (code : Nat) (x : Int) : inBand code x = true ↔
    (nominalForce code : Int) - forceBand code ≤ x ∧ x ≤ (nominalForce code : Int) + forceBand code := by
  simp [inBand]

/-- The impression is lost, and UNLOAD begins (R56, R78). -/
theorem forceLost_eq (s : State) : forceLost s =
    { s with seq := { s.seq with state := .unload, cur := s.seq.cur.map fun c => { c with mark := .some .forceLost }
                                 timers := { s.seq.timers with unload := .some 5000 } }
             force := { s.force with setPoint := 0 } } := by
  rw [forceLost, enterUnload_eq]; rfl

theorem tareSample_short (h : s.force.tareCount < 15) : tareSample count s =
    { s with force := { s.force with tareSum := s.force.tareSum + count, tareCount := s.force.tareCount + 1 } } := by
  have h : s.force.tareCount + 1 < Config.tareSamples := Nat.succ_lt_succ h
  rw [tareSample, if_pos h]; rfl

theorem tareSample_last (h : s.force.tareCount = 15) : tareSample count s =
    { s with seq := { s.seq with state := .approach, timers := { s.seq.timers with approach := .some 20000 } }
             force := { s.force with tareSum := s.force.tareSum + count, tareCount := 16
                                     tare := (s.force.tareSum + count) / 16, setPoint := 0 } } := by
  have hn : ¬s.force.tareCount + 1 < Config.tareSamples := by rw [h]; decide
  rw [tareSample, if_neg hn]
  simp only [State.modForce, h]; rfl

theorem approachSample_below (h : s.force.lastForce < contactThreshold o.forceCode) : approachSample o s = s :=
  if_neg (not_le.2 h)

/-- Contact: the point is an impression and RAMP begins at the contact threshold (R54, R72, R74). -/
theorem approachSample_contact {p : CurPoint} (hc : s.seq.cur = .some p)
    (h : (contactThreshold o.forceCode : Int) ≤ s.force.lastForce) : approachSample o s =
      { s with
        table := { s.table with orders := s.table.orders.map fun x =>
          if x.id = o.id then { x with lastIndent := .some (p.x, p.y) } else x }
        seq := { s.seq with state := .ramp, cur := .some { p with indented := true }
                            timers := { s.seq.timers with approach := .none } }
        force := { s.force with rampStep := 0, setPoint := contactThreshold o.forceCode, dwellCount := 0, outOfBand := 0
                                peak := 0, deviation := false } } := by
  rw [approachSample, if_pos h]
  simp only [contactMade, hc]; rfl

/-- A step of RAMP before the last (R74, R76). -/
theorem rampSample_short (h : s.force.rampStep + 1 < o.ramp * 100) : rampSample o s =
    { s with force := ForceMonitor.notePeak o.forceCode { s.force with
        rampStep := s.force.rampStep + 1
        setPoint := rampSetPoint o.forceCode (o.ramp * 100) (s.force.rampStep + 1) } } := by
  rw [rampSample]
  exact if_pos h

/-- The last step of RAMP begins DWELL at the nominal force (R75). -/
theorem rampSample_last (h : o.ramp * 100 ≤ s.force.rampStep + 1) : rampSample o s =
    { s with seq := { s.seq with state := .dwell }
             force := ForceMonitor.notePeak o.forceCode { s.force with
               rampStep := s.force.rampStep + 1, setPoint := nominalForce o.forceCode } } := by
  rw [rampSample]
  exact if_neg (not_lt.2 h)

/-! ## The gate of DWELL (R77 to R79) -/

theorem dwellGate_lost (h : s.force.lastForce < (forceLostLevel o.forceCode : Nat)) : dwellGate o s =
    forceLost { s with force := { s.force with outOfBand := s.force.outOfBand + 1 } } := by
  rw [dwellGate]
  exact if_pos h

section
variable (hl : (forceLostLevel o.forceCode : Nat) ≤ s.force.lastForce)
include hl

theorem dwellGate_inBand (hb : inBand o.forceCode s.force.lastForce = true) : dwellGate o s =
    if s.force.dwellCount + 1 = o.dwell * 100 then
      enterUnload { s with force := { s.force with dwellCount := s.force.dwellCount + 1 } }
    else { s with force := { s.force with dwellCount := s.force.dwellCount + 1 } } := by
  rw [dwellGate, if_neg (not_lt.2 hl), if_pos hb]; rfl

theorem dwellGate_outOfBand (hb : ¬inBand o.forceCode s.force.lastForce = true) : dwellGate o s =
    if s.force.outOfBand + 1 = 2000 then forceLost { s with force := { s.force with outOfBand := s.force.outOfBand + 1 } }
    else { s with force := { s.force with outOfBand := s.force.outOfBand + 1 } } := by
  rw [dwellGate, if_neg (not_lt.2 hl), if_neg hb]; rfl

end

/-! ## The sample judged -/

/-- `s` with the force that a count gives as its last force sample (R68, R69, R158). -/
def sampled (count : Int) (s : State) : State :=
  { s with force := { s.force with
      lastForce :=
        if s.cal.loaded = false ∨ conditionOf 6 s = .loadFault then count - s.force.tare
        else roundAway ((count - s.force.tare) * s.cal.gain) 1000 } }

/-- What a sample does once it is judged: the set-point then in force is sent (R68). -/
theorem exec_loadSample {t : State} (h : judgeSample count (sampled count s) = t) :
    exec (.loadSample count) s = .next { t with pins := { t.pins with forceSet := t.force.setPoint } } := by
  subst h
  exact execLoadSample_eq count s

theorem judgeSample_unowned (hstop : s.seq.stopFlag = false) (ho : ownerOf s = .none) : judgeSample count s = s := by
  rw [judgeSample, hstop, ho]
  cases s.seq.state <;> rfl

theorem judgeSample_elsewhere (hstop : s.seq.stopFlag = false)
    (hs : s.seq.state ∉ [.tare, .approach, .ramp, .dwell, .unload, .retract]) : judgeSample count s = s := by
  rw [judgeSample, hstop]
  cases h : s.seq.state with
  | tare | approach | ramp | dwell | unload | retract => simp [h] at hs
  | _ => rfl

/-- The operation of a state in which an order's samples are judged. -/
theorem judgeSample_owned (hstop : s.seq.stopFlag = false) (ho : ownerOf s = .some o) :
    (s.seq.state = .tare → judgeSample count s = tareSample count s)
      ∧ (s.seq.state = .approach → judgeSample count s = approachSample o s)
      ∧ (s.seq.state = .ramp → judgeSample count s = rampSample o s)
      ∧ (s.seq.state = .dwell → judgeSample count s
          = dwellGate o { s with force := s.force.notePeak o.forceCode }) := by
  refine ⟨fun h => ?_, fun h => ?_, fun h => ?_, fun h => ?_⟩ <;> rw [judgeSample, hstop, ho, h] <;> rfl

/-- Settles O47: the sample converted, then the operation of each state by its cases. -/
theorem loadSampleActsByState : Obligations.LoadSampleActsByState := by
  intro count s hstop force f leaves
  have leads {q : Sequencer} {g : ForceMonitor} (h : judgeSample count (sampled count s) = { s with seq := q, force := g }) :
      leaves q g := exec_loadSample h
  refine ⟨fun ho => leads (judgeSample_unowned hstop ho), ?_⟩
  intro o ho c nominal peaked k set inBand unload lost
  obtain ⟨tare, approach, ramp, dwell⟩ := judgeSample_owned (count := count) (s := sampled count s) hstop ho
  have peak (q : Sequencer) (g : ForceMonitor) (hp : g.peak = s.force.peak) (hd : g.deviation = s.force.deviation)
      (hl : g.lastForce = force) : ({ s with seq := q, force := g.notePeak c } : State) = { s with seq := q, force := peaked g } := by
    simp only [notePeak_eq, hp, hd, hl, peaked]; rfl
  refine ⟨fun hs => leads (judgeSample_elsewhere hstop hs), fun hs hn => leads ?_, fun hs hn => leads ?_, fun hs hf => leads ?_,
    fun p hp hs hf => ?_, fun hs hk => leads ?_, fun hs hk => leads ?_, ?_⟩
  · exact (tare hs).trans (tareSample_short hn)
  · exact (tare hs).trans (tareSample_last hn)
  · exact (approach hs).trans (approachSample_below hf)
  · exact exec_loadSample ((approach hs).trans (approachSample_contact hp hf))
  · exact (ramp hs).trans ((rampSample_short (s := sampled count s) hk).trans (peak _ _ rfl rfl rfl))
  · exact (ramp hs).trans ((rampSample_last (s := sampled count s) hk).trans (peak _ _ rfl rfl rfl))
  have gate {u : State} (hs : s.seq.state = .dwell) (h : dwellGate o { s with force := peaked f } = u) :
      judgeSample count (sampled count s) = u :=
    (dwell hs).trans ((congrArg (dwellGate o) (peak s.seq f rfl rfl rfl)).trans h)
  refine ⟨fun hs hf => leads (gate hs ?_), fun hs hf hb hd => leads (gate hs ?_), fun hs hf hb hd => leads (gate hs ?_),
    fun hs hf hb hd => leads (gate hs ?_), fun hs hf hb hd => leads (gate hs ?_)⟩
  · exact Eq.trans (dwellGate_lost hf) (forceLost_eq _)
  · exact Eq.trans (dwellGate_inBand hf ((inBand_iff _ _).2 hb)) (if_neg hd)
  · exact Eq.trans (dwellGate_inBand hf ((inBand_iff _ _).2 hb)) ((if_pos hd).trans (enterUnload_eq _))
  · exact Eq.trans (dwellGate_outOfBand hf (mt (inBand_iff _ _).1 hb)) (if_neg hd)
  · rw [← hd]
    exact Eq.trans (dwellGate_outOfBand hf (mt (inBand_iff _ _).1 hb)) ((if_pos hd).trans (forceLost_eq _))

end Sys2Proof.Proofs.Force
/-! # READ STATE (R100, R188, R194, 11.8) -/

namespace Sys2Proof.Proofs.Force
open Sys2Proof Sys2Proof.Machine Sys2Proof.Proofs.Orders

variable {s : State} {parts : List (List Byte)} {mid : List Byte} {i w n : Nat}

/-! ## A field of a run of parts -/

/-- The run of bytes that parts make up, cut about the part of number `k`. -/
theorem flatten_cut (k : Nat) (h : parts[k]? = .some mid) :
    parts.flatten = (parts.take k).flatten ++ mid ++ (parts.drop (k + 1)).flatten := by
  obtain ⟨hk, rfl⟩ := List.getElem?_eq_some_iff.1 h
  conv_lhs => rw [← List.take_append_drop k parts, List.drop_eq_getElem_cons hk]
  simp only [List.flatten_append, List.flatten_cons, List.append_assoc]

/-- The field that starts where part `k` does, of the part's length, is that part. -/
theorem field_part (k : Nat) (h : parts[k]? = .some mid) (hi : (parts.take k).flatten.length = i) (hw : mid.length = w) :
    field parts.flatten i w = natOf mid := field_eq (flatten_cut k h) hi hw

/-- A part that holds a number fitting it reads back. -/
theorem field_number (k : Nat) (h : parts[k]? = .some (bytesOf w n)) (hi : (parts.take k).flatten.length = i)
    (hn : n < 256 ^ w) : field parts.flatten i w = n :=
  (field_part k h hi (length_bytesOf w n)).trans (natOf_bytes (by simpa [fitsBytes] using hn))

theorem signedField_number (k : Nat) {v : Int} (h : parts[k]? = .some (signedBytes w v))
    (hi : (parts.take k).flatten.length = i) (hv : fitsSigned w v = true) : signedField parts.flatten i w = v :=
  (signedField_eq (flatten_cut k h) hi (length_signedBytes w v)).trans (signedOf_bytes hv)

/-! ## The values that READ STATE reports -/

theorem flagCode_lt (b : Bool) : flagCode b < 256 ^ 1 := by cases b <;> decide

theorem seqStateCode_lt (q : SeqState) : seqStateCode q < 256 ^ 1 := by cases q <;> decide

theorem portCode_lt (p : Option Port) : portCode p < 256 ^ 1 := by rcases p with _ | _ | _ <;> decide

/-- A bank that is BEST or READING (R100). -/
def Chosen (k : Bank) : Prop := k.role = .best ∨ k.role = .reading

theorem bestScore_zero {c : CaptureUnit} (h0 : Chosen c.bank0) : bestScore c = c.bank0.score.getD 0 := if_pos h0

theorem bestScore_one {c : CaptureUnit} (h0 : ¬Chosen c.bank0) (h1 : Chosen c.bank1) : bestScore c = c.bank1.score.getD 0 :=
  (if_neg h0).trans (if_pos h1)

theorem bestScore_none {c : CaptureUnit} (h0 : ¬Chosen c.bank0) (h1 : ¬Chosen c.bank1) : bestScore c = 0 :=
  (if_neg h0).trans (if_neg h1)

/-- The score reported is that of a bank, or 0. -/
theorem bestScore_le {c : CaptureUnit} {m : Nat} (h0 : c.bank0.score.getD 0 ≤ m) (h1 : c.bank1.score.getD 0 ≤ m) :
    bestScore c ≤ m := by
  unfold bestScore
  split
  · exact h0
  · split
    · exact h1
    · exact Nat.zero_le m

theorem flagCode_not_doorClosed (s : State) : flagCode (!doorClosed s) = if s.inputs.door.level = .some .isClosed then 0 else 1 := by
  by_cases h : s.inputs.door.level = .some .isClosed <;> simp [flagCode, doorClosed, h]

theorem flagCode_not_estopClear (s : State) : flagCode (!estopClear s) = if s.inputs.estop.level = .some .clear then 0 else 1 := by
  by_cases h : s.inputs.estop.level = .some .clear <;> simp [flagCode, estopClear, h]

theorem ignoredSent_eq (p : Port) (s : State) :
    ignoredSent p (s.port p).counters = if p = .A then 0 else s.portB.counters.ignored := by cases p <;> rfl

/-- A port's counters and its lost count fit two bytes. -/
theorem port_boundsOk (h : s.LinksOk) (p : Port) : (s.port p).BoundsOk := by
  cases p
  · exact h.1
  · exact h.2

/-- Settles O20: each value stands in the part of its place, and fits it. -/
theorem readStateReportsTheState : Obligations.ReadStateReportsTheState := by
  intro src s hpool hroom hcal hlinks hcap hown hstation hdwell himp hlow hhigh chosen h0 h1
  obtain ⟨-, pool, -⟩ := hpool
  obtain ⟨-, -, errors, dropped⟩ := hcap
  obtain ⟨-, lost, framing, gap, length, crc, overrun, ignored⟩ := port_boundsOk hlinks src.port
  have best (n : Nat) (h : bestScore s.cap = n) : field (stateBytes src.port s) 28 4 = n := by
    refine (field_number 18 rfl rfl ?_).trans h
    exact (bestScore_le h0 h1).trans_lt (by decide)
  have station : s.inputs.station.level.getD 0xFF < 256 ^ 1 := by
    cases h : s.inputs.station.level <;> simp [h] at hstation ⊢; omega
  have owner : orZero s.arb.owner < 256 ^ 2 := Nat.lt_succ_of_le hown
  have held : s.store.records.length < 256 ^ 2 := by
    have : s.store.records.length ≤ 1024 := by unfold State.RoomOk Config.storeRecords at hroom; omega
    omega
  have free : s.poolFree < 256 ^ 2 := by unfold Config.poolEntries at pool; omega
  have sent : ignoredSent src.port (s.port src.port).counters < 256 ^ 2 := by
    cases h : src.port
    · exact Nat.zero_lt_succ _
    · rw [h] at ignored; exact Nat.lt_succ_of_le ignored
  have force : fitsSigned 4 s.force.lastForce = true := by
    simp only [fitsSigned, Bool.and_eq_true, decide_eq_true_eq]; omega
  refine ⟨stateBytes src.port s, congrArg Host.Outcome.next serve_readState, rfl, ?state, ?lock,
    field_number 2 rfl rfl owner, field_number 3 rfl rfl (flagCode_lt _), ?door, ?estop,
    field_number 6 rfl rfl station, signedField_number 7 rfl rfl force, field_number 8 rfl rfl (by omega),
    field_number 9 rfl rfl held, field_number 10 rfl rfl free, field_number 11 rfl rfl (by omega),
    field_number 12 rfl rfl (flagCode_lt _), field_number 13 rfl rfl (flagCode_lt _),
    field_number 15 rfl rfl (Nat.lt_succ_of_le errors), field_number 16 rfl rfl (Nat.lt_succ_of_le dropped),
    fun n0 n1 => best _ (bestScore_none n0 n1), fun c0 _ => best _ (bestScore_zero c0),
    fun n0 c1 => best _ (bestScore_one n0 c1),
    field_number 19 rfl rfl (Nat.lt_succ_of_le framing), field_number 20 rfl rfl (Nat.lt_succ_of_le gap),
    field_number 21 rfl rfl (Nat.lt_succ_of_le length), field_number 22 rfl rfl (Nat.lt_succ_of_le crc),
    field_number 23 rfl rfl (Nat.lt_succ_of_le overrun), (field_number 24 rfl rfl sent).trans (ignoredSent_eq _ s),
    field_number 25 rfl rfl (Nat.lt_succ_of_le lost)⟩
  case state =>
    have code : field (stateBytes src.port s) 0 1 = seqStateCode s.seq.state := field_number 0 rfl rfl (seqStateCode_lt _)
    rw [code]
    cases s.seq.state <;> rfl
  case lock =>
    have code : field (stateBytes src.port s) 1 1 = portCode s.arb.lock := field_number 1 rfl rfl (portCode_lt _)
    rw [code]
    rcases s.arb.lock with _ | _ | _ <;> rfl
  case door => exact (field_number 4 rfl rfl (flagCode_lt _)).trans (flagCode_not_doorClosed s)
  case estop => exact (field_number 5 rfl rfl (flagCode_lt _)).trans (flagCode_not_estopClear s)

end Sys2Proof.Proofs.Force

/-! # The set-point beside the sequencer and the head owner (R73)

Only a load sample in APPROACH or RAMP raises the set-point.  Whatever else the part does leaves it as it was, in the state it was in,
or sets it to zero (`Eased`). -/

namespace Sys2Proof.Proofs.Force
open Sys2Proof Sys2Proof.Machine Sys2Proof.Proofs.Orders

variable {a s t u : State} {o : Order}

/-! ## The set-point eased -/

/-- Every order of `t` is one of `s`, by its id and its force code. -/
def OrdersKept (s t : State) : Prop := ∀ o ∈ t.table.orders, ∃ x ∈ s.table.orders, x.id = o.id ∧ x.forceCode = o.forceCode

theorem OrdersKept.trans (h : OrdersKept s t) (k : OrdersKept t u) : OrdersKept s u := by
  intro o ho
  obtain ⟨x, hx, id, code⟩ := k o ho
  obtain ⟨y, hy, id', code'⟩ := h x hx
  exact ⟨y, hy, id'.trans id, code'.trans code⟩

theorem ordersKept_of_subset (h : t.table.orders ⊆ s.table.orders) : OrdersKept s t := fun o ho => ⟨o, h ho, rfl, rfl⟩

theorem ordersKept_of_eq (e : t.table.orders = s.table.orders) : OrdersKept s t := ordersKept_of_subset (e ▸ List.Subset.refl _)

theorem ordersKept_of_map {g : Order → Order} (hg : ∀ x, (g x).id = x.id ∧ (g x).forceCode = x.forceCode)
    (e : t.table.orders = s.table.orders.map g) : OrdersKept s t := by
  intro o ho
  rw [e] at ho
  obtain ⟨x, hx, rfl⟩ := List.mem_map.1 ho
  exact ⟨x, hx, (hg x).1.symm, (hg x).2.symm⟩

/-- `t` holds the head and drives the force as `s` does. -/
@[simp] abbrev SameDrive (s t : State) : Prop :=
  t.force.setPoint = s.force.setPoint ∧ t.seq.state = s.seq.state ∧ t.arb.owner = s.arb.owner

/-- On the way from `s` to `t` no order gains a force code, and the set-point becomes zero or stands as it was, in the sequencer state it
was in; it stands for the owner it stood for, or for one granted a free head. -/
structure Eased (s t : State) : Prop where
  orders : OrdersKept s t
  force : t.force.setPoint = 0 ∨ (t.force.setPoint = s.force.setPoint ∧ t.seq.state = s.seq.state
    ∧ (s.arb.owner = .none ∨ t.arb.owner = s.arb.owner))

theorem Eased.refl (s : State) : Eased s s := ⟨ordersKept_of_eq rfl, .inr ⟨rfl, rfl, .inr rfl⟩⟩

/-- The orders are kept, and the force is driven as before. -/
theorem Eased.drive (h : Eased a s) (ho : OrdersKept s t) (e : SameDrive s t) : Eased a t := by
  obtain ⟨point, state, owner⟩ := e
  refine ⟨h.orders.trans ho, ?_⟩
  rw [point, state, owner]
  exact h.force

theorem Eased.quiet (h : Eased a s) (e : t.table.orders = s.table.orders ∧ SameDrive s t) : Eased a t :=
  h.drive (ordersKept_of_eq e.1) e.2

theorem Eased.map {g : Order → Order} (h : Eased a s) (hg : ∀ x, (g x).id = x.id ∧ (g x).forceCode = x.forceCode)
    (e : t.table.orders = s.table.orders.map g) (k : SameDrive s t) : Eased a t := h.drive (ordersKept_of_map hg e) k

theorem Eased.updOrder {id : Nat} {f : Order → Order} (h : Eased a s) (hf : ∀ x, (f x).id = x.id ∧ (f x).forceCode = x.forceCode) :
    Eased a (updOrder id f s) :=
  h.map (fun x => by split; exacts [hf x, ⟨rfl, rfl⟩]) (updOrder_orders id f s) (by simp)

/-- The set-point becomes zero. -/
theorem Eased.zero (h : Eased a s) (e : t.table.orders = s.table.orders ∧ t.force.setPoint = 0) : Eased a t :=
  ⟨h.orders.trans (ordersKept_of_eq e.1), .inl e.2⟩

/-- A free head is granted. -/
theorem Eased.granted (h : Eased a s) (hn : s.arb.owner = .none) (e : t.table.orders = s.table.orders)
    (hf : t.force.setPoint = s.force.setPoint) (hs : t.seq.state = s.seq.state) : Eased a t := by
  refine ⟨h.orders.trans (ordersKept_of_eq e), ?_⟩
  rcases h.force with z | ⟨point, state, owner⟩
  · exact .inl (hf.trans z)
  · exact .inr ⟨hf.trans point, hs.trans state, .inl (owner.elim id fun e => e ▸ hn)⟩

theorem Eased.modPort (h : Eased a s) (p : Port) (f : LinkPort → LinkPort) : Eased a (s.modPort p f) := h.quiet (by simp)

theorem Eased.postTo (h : Eased a s) (p : Port) (n : Notice) : Eased a (postTo p n s) := h.quiet (by simp)

/-! ## States that do not force (R73) -/

@[simp] theorem enterPaused_setPoint (s : State) : (enterPaused s).force.setPoint = 0 := rfl
@[simp] theorem pauseWaiting_setPoint (s : State) : (pauseWaiting s).force.setPoint = 0 := rfl
@[simp] theorem enterAwaitPoints_setPoint (o : Order) (s : State) : (enterAwaitPoints o s).force.setPoint = 0 := rfl
@[simp] theorem enterStoreWait_setPoint (s : State) : (enterStoreWait s).force.setPoint = 0 := rfl
@[simp] theorem enterTare_setPoint (s : State) : (enterTare s).force.setPoint = 0 := rfl
@[simp] theorem enterApproach_setPoint (s : State) : (enterApproach s).force.setPoint = 0 := rfl
@[simp] theorem enterUnload_setPoint (s : State) : (enterUnload s).force.setPoint = 0 := rfl
@[simp] theorem enterRetract_setPoint (p : RetractPurpose) (s : State) : (enterRetract p s).force.setPoint = 0 := rfl
@[simp] theorem enterSettle_setPoint (o : Order) (s : State) : (enterSettle o s).force.setPoint = 0 := rfl

@[simp] theorem enterMoveIndent_setPoint (o : Order) (s : State) : (enterMoveIndent o s).force.setPoint = 0 := by
  simp [enterMoveIndent, SeqState.forcing]

@[simp] theorem enterMoveView_setPoint (o : Order) (s : State) : (enterMoveView o s).force.setPoint = 0 := by
  simp [enterMoveView, SeqState.forcing]

/-! ## Records written, and the end of an order -/

@[simp] theorem reportRecord_forceCode (r : Record) (o : Order) : (reportRecord r o).forceCode = o.forceCode := by
  unfold reportRecord evaluateCaseDepth caseDepthStep
  dsimp only
  repeat' split
  all_goals rfl

theorem Eased.writeRecord {r : Record} (h : Eased a s) : Eased a (writeRecord o r s) := by
  refine h.map (fun x => ?_) (writeRecord_orders o r s) (by simp)
  split
  · split <;> simp [noteSeq]
  · exact ⟨rfl, rfl⟩

theorem Eased.recordCurrent {st : RecState} {why : Reason} (h : Eased a s) : Eased a (recordCurrent o st why s) := by
  rcases recordCurrent_cases o st why s with ⟨-, e⟩ | ⟨c, -, e⟩ <;> rw [e]
  · exact h
  · exact h.writeRecord.quiet ⟨rfl, rfl, rfl, rfl⟩

theorem Eased.recordImpressions {why : Reason} (l : List Impression) (h : Eased a s) : Eased a (recordImpressions o why l s) := by
  induction l generalizing s with
  | nil => exact h
  | cons i l ih => exact ih h.writeRecord

theorem Eased.flushImpressions {why : Reason} (h : Eased a s) : Eased a (flushImpressions o why s) :=
  (h.recordImpressions s.seq.impressions).quiet ⟨rfl, rfl, rfl, rfl⟩

theorem Eased.discardPoints (h : Eased a s) : Eased a (discardPoints o s) :=
  Eased.updOrder (s := s.setPoolFree _) (h.quiet ⟨rfl, rfl, rfl, rfl⟩) fun _ => ⟨rfl, rfl⟩

theorem Eased.judgePointsLow (h : Eased a s) : Eased a (judgePointsLow s) := by
  obtain ⟨b, e⟩ := judgePointsLow_orders s
  exact h.map (g := fun x => { x with lowArmed := b x }) (fun _ => ⟨rfl, rfl⟩) e (by simp)

theorem Eased.endOrder {id : Nat} {out : OrderOutcome} {why : Option AbortReason} (h : Eased a s) :
    Eased a (endOrder id out why s) := by
  cases hf : findOrder id s with
  | none => simpa [Machine.endOrder, hf] using h
  | some o =>
    refine h.map (fun x => ?_) (endOrder_effect out why hf).1 (by simp)
    split <;> exact ⟨rfl, rfl⟩

theorem Eased.releaseHead (h : Eased a s) : Eased a (releaseHead s) := h.zero (by simp)

theorem Eased.considerGrant (h : Eased a s) : Eased a (considerGrant s).1 := by
  unfold Machine.considerGrant
  split
  · exact h
  · next hn =>
    split
    · exact h
    · next o _ =>
      have running : Eased a (Machine.updOrder o.id (fun o => { o with status := .running }) s) := h.updOrder fun _ => ⟨rfl, rfl⟩
      refine Eased.judgePointsLow (Eased.postTo ?_ _ _)
      exact running.granted hn rfl rfl rfl

theorem Eased.endOwner {id : Nat} {out : OrderOutcome} {why : Option AbortReason} (h : Eased a s) :
    Eased a (endOwner id out why s).1 := h.endOrder.releaseHead.considerGrant

/-- The impressions recorded, the points discarded and the owner ended (R27, R67). -/
theorem Eased.windUp {id : Nat} {reason : Reason} {out : OrderOutcome} {why : Option AbortReason} (h : Eased a s) :
    Eased a (Machine.endOwner id out why (Machine.discardPoints o (Machine.flushImpressions o reason s))).1 :=
  h.flushImpressions.discardPoints.endOwner

/-! ## The boundary (R48) -/

theorem applyPending_code (x : Order) : (applyPending x).id = x.id ∧ (applyPending x).forceCode = x.forceCode := ⟨rfl, rfl⟩

theorem Eased.takeImpression (h : Eased a s) : Eased a (takeImpression o s).1 := by
  unfold Machine.takeImpression
  split
  · exact h
  · next i rest _ =>
    have held : Eased a (s.modSeq fun q => { q with impressions := rest, cur := .some (CurPoint.ofImpression i) }) :=
      h.quiet ⟨rfl, rfl, rfl, rfl⟩
    dsimp only
    split
    · exact held.recordCurrent
    · exact held.zero (by simp)

theorem Eased.takePoint (h : Eased a s) : Eased a (takePoint o s).1 := by
  cases hp : o.points with
  | nil => simpa [Machine.takePoint, hp] using h
  | cons p rest =>
    have taking : Eased a (Machine.updOrder o.id (takingFront rest) s) := h.updOrder fun _ => ⟨rfl, rfl⟩
    have taken : Eased a (frontTaken o p rest s) := Eased.judgePointsLow (taking.quiet ⟨rfl, rfl, rfl, rfl⟩)
    rw [takePoint_cons hp]
    split
    · exact taken.zero (by simp)
    · exact taken.recordCurrent

theorem Eased.boundaryTake (h : Eased a s) : Eased a (boundaryTake o s).1 := by
  unfold Machine.boundaryTake
  split
  · split
    · exact h.endOwner
    · exact h.zero (by simp)
  · split
    · exact h.zero (by simp)
    · exact h.takePoint

theorem Eased.boundaryRun (h : Eased a s) : Eased a (boundaryRun o s).1 := by
  have round (r : RoundPhase) : Eased a (s.modSeq fun q => { q with round := r }) := h.quiet ⟨rfl, rfl, rfl, rfl⟩
  unfold Machine.boundaryRun
  split
  · exact h.boundaryTake
  · split
    · exact (round _).boundaryTake
    · split
      · exact h.takeImpression
      · split
        · exact (round _).takeImpression
        · exact h.boundaryTake

theorem Eased.boundaryStep (h : Eased a s) : Eased a (boundaryStep s).1 := by
  unfold Machine.boundaryStep
  split
  · exact h
  · next o _ =>
    have applied : Eased a (Machine.updOrder o.id applyPending s) := h.updOrder applyPending_code
    split
    · exact h.windUp
    · dsimp only
      split
      · exact applied.zero ⟨by simp, rfl⟩
      · exact applied.boundaryRun

theorem Eased.boundary (h : Eased a s) : Eased a (boundary s) := boundary_keeps (P := Eased a) (fun _ h => h.boundaryStep) s h

theorem Eased.afterGrant {r : State × Bool} (h : Eased a r.1) : Eased a (afterGrant r) := by
  unfold Machine.afterGrant
  split
  · exact h.boundary
  · exact h

theorem Eased.grant (h : Eased a s) : Eased a (grant s) := Eased.afterGrant (r := Machine.considerGrant s) h.considerGrant

theorem Eased.cancelNow (h : Eased a s) : Eased a (cancelNow o s) := Eased.afterGrant h.windUp

end Sys2Proof.Proofs.Force

/-! # The operations of the cycle and the desk ease the set-point -/

namespace Sys2Proof.Proofs.Force
open Sys2Proof Sys2Proof.Machine Sys2Proof.Proofs.Orders

variable {a s t : State} {o : Order} {p : Port} {src : Source}

/-! ## The review desk -/

theorem Eased.handleFailure {why : Reason} (h : Eased a s) : Eased a (handleFailure why s) := by
  unfold Machine.handleFailure
  split
  · exact h
  · split
    · exact (h.recordCurrent (o := ‹Order›) (st := .review) (why := why)).zero
        ⟨by simp [openReview], by simp [openReview, SeqState.forcing]⟩
    · exact h.recordCurrent.boundary

theorem Eased.closeReview {out : ReviewOutcome} {change : Record → Record} (h : Eased a s) : Eased a (closeReview out change s) := by
  cases hv : s.desk.review with
  | none => simpa [Machine.closeReview, hv] using h
  | some v =>
    obtain ⟨-, -, unreported, reported⟩ := closeReview_some (out := out) (change := change) hv
    cases hx : findRecord v.seq s with
    | none => exact h.quiet ⟨by rw [unreported hx], by simp⟩
    | some x => exact h.map (fun y => by split <;> simp) (reported x hx) (by simp)

theorem Eased.supersedeReview (h : Eased a s) : Eased a (supersedeReview o s) := by
  unfold Machine.supersedeReview
  split
  · exact h
  · split
    · exact h
    · exact h.zero (by simp)

theorem Eased.afterClose (h : Eased a s) : Eased a (afterClose s) := by
  unfold Machine.afterClose
  split
  · exact h.boundary
  · exact h

/-! ## The abort path, retracts, stops and unloads -/

theorem Eased.abortRecords {why : AbortReason} (h : Eased a s) : Eased a (abortRecords why s) := by
  cases ho : ownerOf s with
  | none => simpa [Machine.abortRecords, ho] using h
  | some o =>
    have gathering : Eased a (gathered s) := h.quiet ⟨rfl, rfl, rfl, rfl⟩
    rw [abortRecords_some why ho]
    exact gathering.recordCurrent.windUp.afterGrant

theorem Eased.abortPath {why : AbortReason} {spent : Bool} (h : Eased a s) : Eased a (abortPath why spent s) := by
  cases ho : ownerOf s with
  | none => simpa [Machine.abortPath, ho] using h
  | some o =>
    have halting : Eased a (halted s) := h.quiet (by simp [halted])
    have retracted : Eased a (Machine.abortPath why false s) := by
      rw [abortPath_false why ho]
      split
      · exact (halting.closeReview (out := .aborted) (change := Record.unmeasured .aborted)).zero (by simp)
      · exact halting.zero (by simp)
    cases spent
    · exact retracted
    · rw [abortPath_true why ho]
      exact retracted.abortRecords

theorem Eased.finishRetract (h : Eased a s) : Eased a (finishRetract s) := by
  have ended : Eased a (retractOver s) := h.quiet ⟨rfl, rfl, rfl, rfl⟩
  rw [finishRetract_eq]
  split
  · exact ended.recordCurrent.boundary
  · exact ended.recordCurrent.boundary
  · exact ended.abortRecords
  · exact ended

theorem rearmLowWater_code (x : Order) : (rearmLowWater x).id = x.id ∧ (rearmLowWater x).forceCode = x.forceCode := by
  unfold rearmLowWater
  split <;> exact ⟨rfl, rfl⟩

theorem Eased.returnPoint (h : Eased a s) : Eased a (returnPoint o s) := by
  cases hc : s.seq.cur with
  | none => simpa [Machine.returnPoint, hc] using h
  | some c =>
    have back : Eased a (Machine.updOrder o.id (takingBack c.toPoint) s) := h.updOrder fun _ => rearmLowWater_code _
    rw [returnPoint_some hc]
    exact back.quiet ⟨rfl, rfl, rfl, rfl⟩

theorem Eased.finishStop (h : Eased a s) : Eased a (finishStop s) := by
  have ended : Eased a (stopOver s) := h.quiet ⟨rfl, rfl, rfl, rfl⟩
  rw [finishStop_eq]
  split
  · exact ended
  · split
    · split
      · exact ended.recordCurrent.boundary
      · split
        · exact (ended.returnPoint (o := ‹Order›)).zero (by simp)
        · exact ended.returnPoint.boundary
    · split
      · exact ended.recordCurrent.boundary
      · split <;> exact ended.zero (by simp)

theorem Eased.finishUnload (h : Eased a s) : Eased a (finishUnload s) := by
  have ended : Eased a (unloadOver s) := h.quiet ⟨rfl, rfl, rfl, rfl⟩
  rw [finishUnload_eq]
  split
  · split
    · exact ended.recordCurrent.boundary
    · split
      · exact Eased.boundary (ended.quiet ⟨rfl, rfl, rfl, rfl⟩)
      · split
        · exact ended.recordCurrent.boundary
        · split <;> exact ended.zero (by simp)
  · exact ended

theorem Eased.judgeRest {motion : Bool} (h : Eased a s) : Eased a (judgeRest motion s) := by
  unfold Machine.judgeRest
  split
  · split
    · exact h.finishStop
    · exact h
  · split
    · split
      · exact h.finishRetract
      · exact h
    · split
      · exact h.finishUnload
      · exact h
    · exact h

/-! ## Moves, views and measurements -/

theorem Eased.judgeMove (h : Eased a s) : Eased a (judgeMove s) := by
  unfold Machine.judgeMove
  split
  · split
    · exact h.zero (by simp)
    · split
      · exact h
      · exact h.zero (by simp)
  · exact h

theorem Eased.judgeTurret (h : Eased a s) : Eased a (judgeTurret s) := by
  unfold Machine.judgeTurret
  split
  · exact h
  · split
    · exact Eased.judgeMove (h.quiet ⟨rfl, rfl, rfl, rfl⟩)
    · exact h

theorem Eased.captureFailure {why : Reason} (h : Eased a s) : Eased a (captureFailure why s) :=
  Eased.handleFailure (h.quiet ⟨rfl, rfl, rfl, rfl⟩)

theorem Eased.chooseBank {b : BankId} {soft : Bool} (h : Eased a s) : Eased a (chooseBank b soft o s) := h.zero ⟨rfl, rfl⟩

theorem Eased.judgeFocus {v : ViewParams} (h : Eased a s) : Eased a (judgeFocus v o s) := by
  unfold Machine.judgeFocus
  split
  · exact h
  · split
    · exact h.chooseBank
    · split
      · exact h
      · split
        · exact h.chooseBank
        · exact h.captureFailure

theorem Eased.takeReport {r : Except Reason Measured} (h : Eased a s) : Eased a (takeReport o r s) := by
  unfold Machine.takeReport
  split
  · exact h.handleFailure
  · exact Eased.boundary (h.writeRecord.quiet ⟨rfl, rfl, rfl, rfl⟩)
  · exact h

end Sys2Proof.Proofs.Force

/-! # The requests, the interlocks and the events ease the set-point, but for a load sample -/

namespace Sys2Proof.Proofs.Force
open Sys2Proof Sys2Proof.Machine Sys2Proof.Proofs.Orders

variable {a s t : State} {o : Order} {p : Port} {src : Source}

/-! ## Holds and their end -/

theorem Eased.pauseWaiting (h : Eased a s) : Eased a (pauseWaiting s) := h.zero (by simp)

theorem Eased.holdOwner {f : Holds → Holds} {g : PendingHolds → PendingHolds} (h : Eased a s) : Eased a (holdOwner o f g s) := by
  unfold Machine.holdOwner
  split
  · exact h.updOrder fun _ => ⟨rfl, rfl⟩
  · split
    · exact Eased.pauseWaiting (h.updOrder fun _ => ⟨rfl, rfl⟩)
    · exact h.updOrder fun _ => ⟨rfl, rfl⟩

theorem Eased.holdEffect (h : Eased a s) : Eased a (holdEffect o s) := by
  unfold Machine.holdEffect
  split
  · exact h
  · split
    · exact h.updOrder fun _ => ⟨rfl, rfl⟩
    · exact h.holdOwner

theorem Eased.holdAllEffect (h : Eased a s) : Eased a (holdAllEffect s) := by
  have held : Eased a (s.modArb fun b => { b with deviceHold := true }) := h.quiet ⟨rfl, rfl, rfl, rfl⟩
  unfold Machine.holdAllEffect
  split
  · exact h
  · dsimp only
    split
    · exact held
    · split
      · exact held
      · exact held.holdOwner

theorem Eased.resumeOwner (h : Eased a s) : Eased a (resumeOwner o s) := by
  have running : Eased a (Machine.updOrder o.id (fun o => { o with status := .running }) s) := h.updOrder fun _ => ⟨rfl, rfl⟩
  unfold Machine.resumeOwner
  dsimp only
  split
  · split
    · exact running.zero (by simp)
    · exact running.boundary
  · exact running.supersedeReview
  · exact running

theorem Eased.resumeEffect (h : Eased a s) : Eased a (resumeEffect o s) := by
  have dropped : Eased a (Machine.updOrder o.id dropOwn s) := h.updOrder fun _ => ⟨rfl, rfl⟩
  unfold Machine.resumeEffect
  split
  · exact h
  · dsimp only
    split
    · exact dropped
    · split
      · exact dropped.resumeOwner
      · split
        · exact dropped.grant
        · exact dropped

theorem Eased.resumeAllEffect (h : Eased a s) : Eased a (resumeAllEffect s) := by
  have dropped : Eased a (deviceDropped s) := h.map (g := dropDevice) (fun _ => ⟨rfl, rfl⟩) rfl ⟨rfl, rfl, rfl⟩
  unfold Machine.resumeAllEffect
  refine Eased.grant ?_
  split
  · exact dropped
  · split
    · exact dropped.resumeOwner
    · exact dropped

/-! ## Requests of the order table, the store and the desk -/

theorem Eased.afterAppend {id n : Nat} (h : Eased a s) : Eased a (afterAppend id n s) := by
  unfold Machine.afterAppend
  split
  · exact h
  · split
    · split
      · exact h.endOrder
      · split
        · exact h
        · exact h.grant
    · split
      · exact Eased.boundary (h.quiet (by simp))
      · exact h

theorem appendPoints_code (r : AddPointsReq) (x : Order) :
    (appendPoints r x).id = x.id ∧ (appendPoints r x).forceCode = x.forceCode := rearmLowWater_code _

theorem Eased.decideAddPoints {r : AddPointsReq} (h : Eased a s) : Eased a (decideAddPoints src r s).state := by
  unfold Machine.decideAddPoints
  split
  · exact h
  · next o _ =>
    have appended : Eased a (Machine.updOrder o.id (appendPoints r) s) := h.updOrder (appendPoints_code r)
    split
    · exact h
    · exact Eased.afterAppend (appended.quiet ⟨rfl, rfl, rfl, rfl⟩)

theorem Eased.cancelOwner (h : Eased a s) : Eased a (cancelOwner o s) := by
  have marked : Eased a (markCancel o s) := h.updOrder fun _ => ⟨rfl, rfl⟩
  unfold Machine.cancelOwner
  dsimp only
  split
  · exact marked
  · cases s.seq.state with
    | moveIndent | tare | approach | ramp | dwell => exact marked.zero (by simp)
    | unload | moveView | settle | focus | measure | retract | idle => exact marked
    | reviewWait => exact marked.closeReview.cancelNow
    | awaitPoints => exact Eased.cancelNow (marked.quiet (by simp))
    | storeWait => exact marked.cancelNow
    | paused => exact marked.recordCurrent.cancelNow

theorem Eased.cancelEffect (h : Eased a s) : Eased a (cancelEffect o s) := by
  unfold Machine.cancelEffect
  split
  · exact h.discardPoints.endOrder
  · split
    · exact h
    · exact h.cancelOwner

theorem Eased.decideCancel {id : Nat} (h : Eased a s) : Eased a (decideCancel src id s).state := by
  unfold Machine.decideCancel
  split
  · exact h
  · exact h.cancelEffect

theorem Eased.decideHold {id : Nat} (h : Eased a s) : Eased a (decideHold src id s).state := by
  unfold Machine.decideHold
  split
  · exact h
  · exact h.holdEffect

theorem Eased.decideResume {id : Nat} (h : Eased a s) : Eased a (decideResume src id s).state := by
  unfold Machine.decideResume
  split
  · exact h
  · split
    · exact h.resumeEffect
    · exact h

theorem Eased.setLock {holder : Option Port} (h : Eased a s) : Eased a (setLock holder s) := Eased.grant (h.quiet (by simp))

theorem Eased.decideTakeHead (h : Eased a s) : Eased a (decideTakeHead src s).state := by
  unfold Machine.decideTakeHead
  split
  · exact h.setLock
  · split <;> exact h

theorem Eased.decideFreeHead (h : Eased a s) : Eased a (decideFreeHead src s).state := by
  unfold Machine.decideFreeHead
  split
  · exact h
  · split
    · exact h.setLock
    · exact h

theorem Eased.decideReleaseResults {through : Nat} (h : Eased a s) : Eased a (decideReleaseResults src through s).state := by
  have released : Eased a (s.modStore (releaseFrom src.port through)) := h.quiet ⟨rfl, rfl, rfl, rfl⟩
  unfold Machine.decideReleaseResults
  dsimp only
  split
  · exact released.boundary
  · exact released

theorem Eased.decideReadSummary {id : Nat} (h : Eased a s) : Eased a (decideReadSummary src id s).state := by
  unfold Machine.decideReadSummary
  split
  · exact h
  · split
    · exact h
    · split
      · exact h.drive (ordersKept_of_subset fun _ => List.mem_of_mem_filter) ⟨rfl, rfl, rfl⟩
      · exact h

theorem Eased.decideEnter {seq d1 d2 : Nat} (h : Eased a s) : Eased a (decideEnter src seq d1 d2 s).state := by
  unfold Machine.decideEnter
  split
  · exact h
  · split
    · exact h
    · split
      · exact h
      · exact h.closeReview.afterClose

theorem Eased.decideReject {seq : Nat} (h : Eased a s) : Eased a (decideReject src seq s).state := by
  unfold Machine.decideReject
  split
  · exact h
  · exact h.closeReview.afterClose

theorem Eased.decideWriteCalibration {rec : Nat} {f : CalFields} (h : Eased a s) :
    Eased a (decideWriteCalibration src rec f s).state := by
  have written : Eased a (s.modCal (writeTable rec f src.port)) := h.quiet ⟨rfl, rfl, rfl, rfl⟩
  unfold Machine.decideWriteCalibration
  split
  · exact h
  · dsimp only
    split
    · exact written.grant
    · exact written

/-! ## The interlocks and the links -/

theorem Eased.gainInterlock (h : Eased a s) : Eased a (gainInterlock s) := by
  unfold Machine.gainInterlock
  split
  · exact h
  · exact h.updOrder fun _ => ⟨rfl, rfl⟩

theorem Eased.beginStop (h : Eased a s) : Eased a (beginStop s) := h.quiet (by simp)

theorem Eased.doorAction (h : Eased a s) : Eased a (doorAction s) := by
  have viewed : Eased a (stopView s) := h.quiet ⟨rfl, rfl, rfl, rfl⟩
  unfold Machine.doorAction
  split
  · exact h
  · cases s.seq.state with
    | idle | unload | reviewWait | retract | paused => exact h
    | awaitPoints | storeWait => exact h.pauseWaiting
    | moveIndent | tare | approach | moveView => exact h.beginStop
    | ramp | dwell => exact h.zero ⟨rfl, rfl⟩
    | settle | focus | measure => exact viewed.beginStop

theorem Eased.postInterlock {e : InterlockEvent} (h : Eased a s) : Eased a (postInterlock e s) := h.quiet (by simp)

theorem Eased.afterDoor {was : Option DoorLevel} {now : DoorLevel} (h : Eased a s) : Eased a (afterDoor was now s) := by
  unfold Machine.afterDoor
  split
  · exact h
  · exact h.grant
  · exact h.postInterlock.gainInterlock.doorAction
  · exact h.postInterlock.grant

theorem Eased.afterEstop {was : Option EstopLevel} {now : EstopLevel} (h : Eased a s) : Eased a (afterEstop was now s) := by
  unfold Machine.afterEstop estopPressed
  split
  · exact h
  · exact h.grant
  · split
    · exact h.postInterlock
    · exact h.postInterlock.abortPath
  · exact h.postInterlock.grant

theorem Eased.takeShared {f : RxFrame} (h : Eased a s) : Eased a (takeShared p f s) := by
  unfold Machine.takeShared
  split
  · next e =>
    unfold sharedEffect at e
    split at e
    · simp at e
    · split at e
      · obtain rfl := Option.some.inj e; exact h.holdAllEffect
      · split at e
        · obtain rfl := Option.some.inj e; exact h.resumeAllEffect
        · split at e
          · rw [setLampEffect_frame e]; exact h.quiet ⟨rfl, rfl, rfl, rfl⟩
          · simp at e
  · exact h.modPort _ _

theorem Eased.resetPort (h : Eased a s) : Eased a (resetPort p s) := by
  have cleared : Eased a (portCleared p s) := h.quiet (by simp [portCleared])
  unfold Machine.resetPort dropLock
  split
  · exact cleared.setLock
  · exact cleared

/-! ## The events -/

theorem Eased.frameTaken (h : Eased a s) (e : execFrameTaken p s = .next t) : Eased a t := by
  obtain rfl := Host.Outcome.next.inj e
  split
  · exact h
  · split
    · dsimp only
      split
      · exact (h.modPort _ _).takeShared
      · exact h.quiet (by simp)
    · exact h

theorem Eased.portReset (h : Eased a s) (e : execPortReset p s = .next t) : Eased a t := by
  obtain rfl := Host.Outcome.next.inj e
  split
  · exact h.resetPort
  · exact h

theorem Eased.stabilityTimerExpiry {i : InputName} (h : Eased a s) (e : execStabilityTimerExpiry i s = .next t) : Eased a t := by
  obtain rfl := Host.Outcome.next.inj e
  have accepted (f : Inputs → Inputs) : Eased a (s.modInputs f) := h.quiet ⟨rfl, rfl, rfl, rfl⟩
  cases i with
  | door =>
    dsimp only
    split
    · exact h
    · exact (accepted _).afterDoor
  | estop =>
    dsimp only
    split
    · exact h
    · exact (accepted _).afterEstop
  | station =>
    dsimp only
    split
    · exact h
    · exact (accepted _).judgeTurret

theorem Eased.stageDone (h : Eased a s) : Eased a (stageDone s) := h.quiet ⟨rfl, rfl, rfl, rfl⟩

theorem Eased.turretDone (h : Eased a s) : Eased a (turretDone s) := h.quiet ⟨rfl, rfl, rfl, rfl⟩

theorem Eased.stgDone (h : Eased a s) (e : execStgDone s = .next t) : Eased a t := by
  obtain rfl := Host.Outcome.next.inj e
  split
  · exact h
  · split
    · exact Eased.judgeMove (h.quiet ⟨rfl, rfl, rfl, rfl⟩)
    · exact h.stageDone.judgeRest

theorem Eased.stgFault (h : Eased a s) (e : execStgFault s = .next t) : Eased a t := by
  obtain rfl := Host.Outcome.next.inj e
  split
  · exact h
  · split
    · exact h.stageDone
    · exact h.stageDone.abortPath

theorem Eased.turDone (h : Eased a s) (e : execTurDone s = .next t) : Eased a t := by
  obtain rfl := Host.Outcome.next.inj e
  split
  · exact h
  · split
    · exact h.turretDone.judgeTurret
    · exact h.turretDone.judgeRest

theorem Eased.stageTimerExpiry (h : Eased a s) (e : execStageTimerExpiry s = .next t) : Eased a t := by
  obtain rfl := Host.Outcome.next.inj e
  split
  · exact h
  · exact h.stageDone.abortPath

theorem Eased.turretTimerExpiry (h : Eased a s) (e : execTurretTimerExpiry s = .next t) : Eased a t := by
  obtain rfl := Host.Outcome.next.inj e
  split
  · exact h
  · exact h.abortPath

theorem Eased.actRaised {level : Bool} (h : Eased a s) (e : execActRaised level s = .next t) : Eased a t := by
  obtain rfl := Host.Outcome.next.inj e
  split
  · exact h
  · exact Eased.judgeRest (h.quiet ⟨rfl, rfl, rfl, rfl⟩)

theorem Eased.approachTimerExpiry (h : Eased a s) (e : execApproachTimerExpiry s = .next t) : Eased a t := by
  obtain rfl := Host.Outcome.next.inj e
  split
  · exact h
  · split
    · exact h.zero ⟨rfl, rfl⟩
    · exact h

theorem Eased.unloadTimerExpiry (h : Eased a s) (e : execUnloadTimerExpiry s = .next t) : Eased a t := by
  obtain rfl := Host.Outcome.next.inj e
  split
  · exact h
  · exact h.abortPath

theorem Eased.retractTimerExpiry (h : Eased a s) (e : execRetractTimerExpiry s = .next t) : Eased a t := by
  obtain rfl := Host.Outcome.next.inj e
  split
  · exact h
  · split
    · exact h.abortRecords
    · exact h.abortPath

theorem Eased.starvationTimerExpiry (h : Eased a s) (e : execStarvationTimerExpiry s = .next t) : Eased a t := by
  obtain rfl := Host.Outcome.next.inj e
  split
  · next o _ _ =>
    have yielded : Eased a (Machine.updOrder o.id yielding (stopStarvation s)) :=
      Eased.updOrder (h.quiet ⟨rfl, rfl, rfl, rfl⟩) fun _ => ⟨rfl, rfl⟩
    split
    · exact (yielded.postTo _ _).releaseHead.grant
    · exact h
  · exact h

theorem Eased.frameCompletion (h : Eased a s) (e : execFrameCompletion s = .next t) : Eased a t := by
  obtain rfl := Host.Outcome.next.inj e
  split
  · exact h
  · dsimp only
    split
    · exact h.quiet ⟨rfl, rfl, rfl, rfl⟩
    · unfold followFocus
      split
      · exact h.zero ⟨rfl, rfl⟩
      · exact h.quiet ⟨rfl, rfl, rfl, rfl⟩

theorem Eased.scoreReady (h : Eased a s) (e : execScoreReady s = .next t) : Eased a t := by
  obtain rfl := Host.Outcome.next.inj e
  split
  · split
    · exact Eased.judgeFocus (h.quiet ⟨rfl, rfl, rfl, rfl⟩)
    · exact h
  · exact h

theorem Eased.frameTimerExpiry (h : Eased a s) (e : execFrameTimerExpiry s = .next t) : Eased a t := by
  obtain rfl := Host.Outcome.next.inj e
  split
  · exact h
  · split
    · exact h.captureFailure
    · exact h

theorem Eased.measurementReport (h : Eased a s) (e : execMeasurementReport s = .next t) : Eased a t := by
  obtain rfl := Host.Outcome.next.inj e
  split
  · split
    · exact Eased.takeReport (h.quiet ⟨rfl, rfl, rfl, rfl⟩)
    · exact h
  · exact h

theorem Eased.windowTimerExpiry (h : Eased a s) (e : execWindowTimerExpiry s = .next t) : Eased a t := by
  obtain rfl := Host.Outcome.next.inj e
  split
  · exact h.closeReview.afterClose
  · exact h

/-! ## A command -/

/-- An empty table and a set-point of zero, as a cold reset leaves them. -/
theorem eased_reset (ht : t.table.orders = []) (hf : t.force.setPoint = 0) : Eased a t :=
  ⟨fun o ho => by simp [ht] at ho, .inl hf⟩

/-- A request answered by what its owner decided. -/
theorem Eased.served {cmd : Instr} {d : State → Answer} (h : Eased a s) (e : Host.Outcome.next (serve cmd src d s)
    = (.next t : Host.Outcome State Fault Refusal)) (hd : Eased a (d s).state) : Eased a t := by
  obtain rfl := Host.Outcome.next.inj e
  unfold serve
  dsimp only
  split
  · exact (h.modPort _ _).modPort _ _
  · exact (hd.modPort _ _).modPort _ _

/-- The commands that may raise the set-point, or bring in an order. -/
def raises : Instr → Bool
  | .loadSample _ => true
  | .openOrder _ _ => true
  | _ => false

/-- Every other command eases the set-point; most leave the table, the head and the force alone, as their frames say. -/
theorem Eased.exec {i : Instr} (h : Eased a s) (hi : raises i = false) (e : exec i s = .next t) : Eased a t := by
  have frame := everyCommandKeepsItsFrame i s t e
  cases i with
  | loadSample _ | openOrder _ _ => simp [raises] at hi
  | coldReset pins =>
    obtain rfl := Host.Outcome.next.inj e
    exact eased_reset rfl rfl
  | startupLoadComplete _ | commitComplete _ | frameReceived _ _ | receiveGap _ | responseSent _ | lineBreak _ | readState _
  | readNotices _ | setLink _ _ | claimReview _ _ | readResults _ _ _ | readCalibration _ _
  | setLamp _ _ _ _ | setInputs _ _ _ _ | inputChange _ | frameStart | lampTimebaseTick | lineMarker _ | pixelTaken _ =>
    have frame : t = _ := frame
    rw [frame]
    exact h.quiet (by simp)
  | frameTaken p => exact h.frameTaken e
  | portReset p => exact h.portReset e
  | addPoints src r => exact h.served e h.decideAddPoints
  | cancelOrder src id => exact h.served e h.decideCancel
  | holdOrder src id => exact h.served e h.decideHold
  | resumeOrder src id => exact h.served e h.decideResume
  | holdAll src => exact h.served e h.holdAllEffect
  | resumeAll src => exact h.served e h.resumeAllEffect
  | takeHead src => exact h.served e h.decideTakeHead
  | freeHead src => exact h.served e h.decideFreeHead
  | enterDiagonals src seq d1 d2 => exact h.served e h.decideEnter
  | rejectImpression src seq => exact h.served e h.decideReject
  | releaseResults src through => exact h.served e h.decideReleaseResults
  | readSummary src id => exact h.served e h.decideReadSummary
  | writeCalibration src rec f => exact h.served e h.decideWriteCalibration
  | stabilityTimerExpiry input => exact h.stabilityTimerExpiry e
  | stgDone => exact h.stgDone e
  | stgFault => exact h.stgFault e
  | turDone => exact h.turDone e
  | stageTimerExpiry => exact h.stageTimerExpiry e
  | turretTimerExpiry => exact h.turretTimerExpiry e
  | actRaised level => exact h.actRaised e
  | approachTimerExpiry => exact h.approachTimerExpiry e
  | unloadTimerExpiry => exact h.unloadTimerExpiry e
  | retractTimerExpiry => exact h.retractTimerExpiry e
  | starvationTimerExpiry => exact h.starvationTimerExpiry e
  | frameCompletion => exact h.frameCompletion e
  | scoreReady => exact h.scoreReady e
  | frameTimerExpiry => exact h.frameTimerExpiry e
  | measurementReport => exact h.measurementReport e
  | windowTimerExpiry => exact h.windowTimerExpiry e

end Sys2Proof.Proofs.Force

/-! # A load sample and a new order beside the set-point (R3, R54, R70, R73 to R75) -/

namespace Sys2Proof.Proofs.Force
open Sys2Proof Sys2Proof.Machine Sys2Proof.Proofs.Orders

variable {a s t : State} {o : Order} {count : Int} {src : Source}

/-! ## The set-point of a code (R70, R74) -/

theorem contactThreshold_le {code : Nat} (h : code ≤ 11) : contactThreshold code ≤ nominalForce code := by
  obtain ⟨-, below, above⟩ := forceCodesAsTabled.2 code h
  omega

/-- A step of the ramp stays below the nominal force. -/
theorem rampSetPoint_le {code nr k : Nat} (h : code ≤ 11) (hk : k ≤ nr) : rampSetPoint code nr k ≤ nominalForce code := by
  have contact := contactThreshold_le h
  have share : (nominalForce code - contactThreshold code) * k / nr ≤ nominalForce code - contactThreshold code :=
    Nat.div_le_of_le_mul (by rw [Nat.mul_comm]; exact Nat.mul_le_mul_right _ hk)
  unfold rampSetPoint
  omega

/-! ## A sample that drives the force -/

/-- On the way from `s` to `t` the force is driven for the owner `o`, within the nominal force of its code. -/
structure Driven (o : Order) (s t : State) : Prop where
  orders : OrdersKept s t
  owner : t.arb.owner = s.arb.owner
  forcing : t.seq.state.forcing = true
  bound : o.forceCode ≤ 11 → t.force.setPoint ≤ nominalForce o.forceCode

/-- The order `o` holds the head, and the force is driven for it. -/
def OwnerDriven (s t : State) : Prop := ∃ o, ownerOf s = .some o ∧ Driven o s t

theorem Eased.tareSample (h : Eased a s) : Eased a (tareSample count s) := by
  unfold Machine.tareSample
  dsimp only
  split
  · exact h.quiet ⟨rfl, rfl, rfl, rfl⟩
  · exact h.zero ⟨rfl, rfl⟩

theorem approachSample_drives (h : Eased a s) : Eased a (approachSample o s) ∨ Driven o s (approachSample o s) := by
  by_cases hf : (contactThreshold o.forceCode : Int) ≤ s.force.lastForce
  · cases hc : s.seq.cur with
    | none => exact .inl (by simpa [approachSample, hf, contactMade, hc] using h)
    | some c =>
      rw [approachSample_contact hc hf]
      exact .inr ⟨ordersKept_of_map (fun x => by split <;> exact ⟨rfl, rfl⟩) rfl, rfl, rfl, contactThreshold_le⟩
  · rw [approachSample_below (not_le.1 hf)]
    exact .inl h

theorem rampSample_drives (hs : s.seq.state = .ramp) : Driven o s (rampSample o s) := by
  by_cases hk : s.force.rampStep + 1 < o.ramp * 100
  · rw [rampSample_short hk]
    exact ⟨ordersKept_of_eq rfl, rfl, by simp [hs, SeqState.forcing], fun h => rampSetPoint_le h hk.le⟩
  · rw [rampSample_last (not_lt.1 hk)]
    exact ⟨ordersKept_of_eq rfl, rfl, rfl, fun _ => le_rfl⟩

theorem Eased.forceLost (h : Eased a s) : Eased a (forceLost s) := h.zero ⟨rfl, rfl⟩

theorem Eased.dwellSample (h : Eased a s) : Eased a (dwellSample o s) := by
  unfold Machine.dwellSample dwellGate
  dsimp only
  split
  · exact Eased.forceLost (h.quiet ⟨rfl, rfl, rfl, rfl⟩)
  · split
    · split
      · exact h.zero ⟨rfl, rfl⟩
      · exact h.quiet ⟨rfl, rfl, rfl, rfl⟩
    · split
      · exact Eased.forceLost (h.quiet ⟨rfl, rfl, rfl, rfl⟩)
      · exact h.quiet ⟨rfl, rfl, rfl, rfl⟩

/-- A sample eases the set-point, or drives it for the owner. -/
theorem judgeSample_drives (h : Eased a s) : Eased a (judgeSample count s) ∨ OwnerDriven s (judgeSample count s) := by
  unfold judgeSample
  split
  · exact .inl h.judgeRest
  · split
    · exact .inl h.tareSample
    · next o _ ho => exact (approachSample_drives h).imp_right fun k => ⟨o, ho, k⟩
    · next o hs ho => exact .inr ⟨o, ho, rampSample_drives hs⟩
    · exact .inl h.dwellSample
    · exact .inl h.judgeRest
    · exact .inl h.judgeRest
    · exact .inl h

theorem loadSample_drives (e : execLoadSample count s = .next t) : Eased s t ∨ OwnerDriven s t := by
  obtain rfl := Host.Outcome.next.inj e
  have start : Eased s (s.modForce fun f => { f with lastForce := sampleForce count f.tare (gainInUse s) }) :=
    (Eased.refl s).quiet ⟨rfl, rfl, rfl, rfl⟩
  rcases judgeSample_drives (count := count) start with h | ⟨o, ho, h⟩
  · exact .inl (h.quiet ⟨rfl, rfl, rfl, rfl⟩)
  · exact .inr ⟨o, ho, h.orders, h.owner, h.forcing, h.bound⟩

/-! ## A new order -/

theorem slotsFor_subset (u : OrderTable) : slotsFor u ⊆ u.orders := by
  unfold slotsFor
  split
  · exact List.Subset.refl _
  · split
    · exact List.Subset.refl _
    · exact List.filter_subset_self _

theorem openOrderCheck_forceCode {r : OpenOrderReq} (h : openOrderCheck r s = .none) : r.forceCode ≤ 11 := by
  by_contra hn
  have bad : BadValue r := .inr (.inr (.inr (.inl (not_le.1 hn))))
  simp [openOrderCheck_badValue bad] at h

/-- The orders after OPEN ORDER are those there were and an OPEN one with a force code of R70. -/
theorem openOrder_orders {r : OpenOrderReq} (e : exec (.openOrder src r) s = .next t) :
    ∀ o ∈ t.table.orders, o ∈ s.table.orders ∨ (o.status = .opened ∧ o.forceCode ≤ 11) := by
  obtain rfl := Host.Outcome.next.inj e
  have decided : ∀ o ∈ (decideOpenOrder src r s).state.table.orders,
      o ∈ s.table.orders ∨ (o.status = .opened ∧ o.forceCode ≤ 11) := by
    unfold decideOpenOrder
    split
    · exact fun o ho => .inl ho
    · next hc =>
      intro o ho
      rcases List.mem_append.1 ho with ho | ho
      · exact .inl (slotsFor_subset _ ho)
      · obtain rfl := List.mem_singleton.1 ho
        exact .inr ⟨rfl, openOrderCheck_forceCode hc⟩
  obtain ⟨-, table, -⟩ := serve_rest (.openOrder src r) src (decideOpenOrder src r) s
  rw [table]
  split
  · exact fun o ho => .inl ho
  · exact decided

/-! ## The set-point within its bounds -/

theorem Eased.forceOk (h : Eased s t) (hs : s.ForceOk) : t.ForceOk := fun hq => by
  rcases h.force with z | ⟨point, state, -⟩
  · exact z
  · exact point.trans (hs (state ▸ hq))

theorem OrdersKept.codes (h : OrdersKept s t) (hs : ∀ o ∈ s.table.orders, o.forceCode ≤ 11) :
    ∀ o ∈ t.table.orders, o.forceCode ≤ 11 := by
  intro o ho
  obtain ⟨x, hx, -, code⟩ := h o ho
  exact code ▸ hs x hx

/-- A free head leaves the sequencer idle, so the set-point of an order just granted is zero. -/
theorem Eased.setPointOk (h : Eased s t) (ht : t.HeadOk) (hs : s.SetPointOk) : t.SetPointOk := by
  obtain ⟨head, force, codes, bound⟩ := hs
  refine ⟨ht, h.forceOk force, h.orders.codes codes, fun o ho own => ?_⟩
  rcases h.force with z | ⟨point, -, free | owner⟩
  · exact z ▸ Nat.zero_le _
  · have idle : s.seq.state = .idle := (headOk_iff.1 head).seq.idle.1 free
    rw [point, force (by rw [idle]; rfl)]
    exact Nat.zero_le _
  · obtain ⟨x, hx, id, code⟩ := h.orders o ho
    rw [point, ← code]
    exact bound x hx (by rw [← owner, own, id])

theorem OwnerDriven.setPointOk (h : OwnerDriven s t) (ht : t.HeadOk) (hs : s.SetPointOk) : t.SetPointOk := by
  obtain ⟨o, ho, drive⟩ := h
  obtain ⟨head, -, codes, -⟩ := hs
  obtain ⟨mem, owned⟩ := ownerOf_some ho
  refine ⟨ht, fun hq => by simp [drive.forcing] at hq, drive.orders.codes codes, fun x hx own => ?_⟩
  obtain ⟨y, hy, id, code⟩ := drive.orders x hx
  have same : y.id = o.id := by
    rw [drive.owner, owned] at own
    rw [id, Option.some.inj own]
  obtain rfl : y = o := eq_of_id_eq (headOk_iff.1 head).books.head.ids hy mem same
  exact code ▸ drive.bound (codes y mem)

/-- OPEN ORDER leaves the force monitor, the sequencer and the arbiter alone. -/
theorem openOrder_keeps {r : OpenOrderReq} (e : exec (.openOrder src r) s = .next t) :
    t.force = s.force ∧ t.seq = s.seq ∧ t.arb = s.arb := by
  have frame : t = { s.withPort src.port t with table := t.table } := everyCommandKeepsItsFrame _ s t e
  exact ⟨(congrArg State.force frame).trans (by simp), (congrArg State.seq frame).trans (by simp),
    (congrArg State.arb frame).trans (by simp)⟩

theorem openOrder_forceOk {r : OpenOrderReq} (e : exec (.openOrder src r) s = .next t) (hs : s.ForceOk) : t.ForceOk := by
  obtain ⟨force, seq, -⟩ := openOrder_keeps e
  unfold State.ForceOk
  rwa [force, seq]

/-- The new order is OPEN, so it does not hold the head. -/
theorem openOrder_setPointOk {r : OpenOrderReq} (e : exec (.openOrder src r) s = .next t) (ht : t.HeadOk) (hs : s.SetPointOk) :
    t.SetPointOk := by
  obtain ⟨-, quiet, codes, bound⟩ := hs
  have orders := openOrder_orders e
  obtain ⟨force, -, arb⟩ := openOrder_keeps e
  refine ⟨ht, openOrder_forceOk e quiet, fun o ho => (orders o ho).elim (codes o) And.right, fun o ho own => ?_⟩
  rcases orders o ho with old | ⟨opened, -⟩
  · exact force ▸ bound o old (arb ▸ own)
  · have active := ((headOk_iff.1 ht).books.head.fits o ho).active.2 own
    simp [opened] at active

/-! ## Every command -/

theorem OwnerDriven.forceOk (h : OwnerDriven s t) : t.ForceOk := by
  obtain ⟨o, -, drive⟩ := h
  exact fun hq => by simp [drive.forcing] at hq

theorem exec_forceOk {i : Instr} (e : exec i s = .next t) (hs : s.ForceOk) : t.ForceOk := by
  cases hi : raises i with
  | false => exact (Eased.exec (Eased.refl s) hi e).forceOk hs
  | true =>
    cases i with
    | loadSample count => exact (loadSample_drives e).elim (·.forceOk hs) (·.forceOk)
    | openOrder src r => exact openOrder_forceOk e hs
    | _ => cases hi

theorem exec_setPointOk {i : Instr} (e : exec i s = .next t) (ht : t.HeadOk) (hs : s.SetPointOk) : t.SetPointOk := by
  cases hi : raises i with
  | false => exact (Eased.exec (Eased.refl s) hi e).setPointOk ht hs
  | true =>
    cases i with
    | loadSample count => exact (loadSample_drives e).elim (·.setPointOk ht hs) (·.setPointOk ht hs)
    | openOrder src r => exact openOrder_setPointOk e ht hs
    | _ => cases hi

end Sys2Proof.Proofs.Force

/-! # The inputs and the calibration table in shape (R155, R156, R160 to R163, R166 to R168) -/

namespace Sys2Proof.Proofs.Devices
open Sys2Proof Sys2Proof.Machine Sys2Proof.Proofs.Orders

variable {s t : State} {src : Source}

/-! ## The inputs -/

section Debounce
variable {α : Type} [DecidableEq α] {d : Debounced α}

theorem debounced_starting (raw : α) {time : Nat} (h : time ∈ [1, 4, 16, 64]) : (Debounced.starting raw time).Ok :=
  ⟨.inr nofun, rfl, h⟩

theorem debounced_judge (h : d.Ok) (raw : α) : (d.judge raw).Ok := by
  obtain ⟨-, -, time⟩ := id h
  unfold Debounced.judge
  split
  · exact ⟨.inl rfl, rfl, time⟩
  · next level =>
    split
    · exact h
    · exact ⟨.inr (Ne.symm level), rfl, time⟩

theorem debounced_accept (h : d.Ok) : d.accept.Ok := ⟨.inl rfl, rfl, h.2.2⟩

theorem debounced_time (h : d.Ok) {time : Nat} (ht : time ∈ [1, 4, 16, 64]) : Debounced.Ok { d with time := time } :=
  ⟨h.1, h.2.1, ht⟩

end Debounce

/-- The inputs in order, said of the block. -/
abbrev InputsFit (i : Inputs) : Prop := i.door.Ok ∧ i.estop.Ok ∧ i.station.Ok

theorem inputsFit_starting (pins : ResetPins) : InputsFit (Inputs.starting pins) :=
  ⟨debounced_starting _ (by decide), debounced_starting _ (by decide), debounced_starting _ (by decide)⟩

/-- A setting of SET INPUTS leaves the time or names one of the four (R168). -/
theorem debounceSetting_mem {n time : Nat} {x : Option Nat} (hx : debounceSetting n = .some x) (ht : time ∈ [1, 4, 16, 64]) :
    x.getD time ∈ [1, 4, 16, 64] := by
  unfold debounceSetting at hx
  split at hx
  case h_1 =>
    cases hx
    exact ht
  case h_6 => cases hx
  all_goals
    cases hx
    simp

theorem inputsFit_inputsAfter {door estop station : Nat} {i j : Inputs} (h : InputsFit i) (e : inputsAfter door estop station i = .some j) :
    InputsFit j := by
  obtain ⟨hdoor, hestop, hstation⟩ := h
  unfold inputsAfter at e
  split at e
  · next d e' c =>
    obtain rfl := Option.some.inj e
    exact ⟨debounced_time hdoor (debounceSetting_mem d hdoor.2.2), debounced_time hestop (debounceSetting_mem e' hestop.2.2),
      debounced_time hstation (debounceSetting_mem c hstation.2.2)⟩
  · cases e

/-- What holds of a block before and after the owner of a request decides holds of it once the request is answered. -/
theorem serve_inputs {P : Inputs → Prop} {cmd : Instr} {d : State → Answer} (hs : P s.inputs) (hd : P (d s).state.inputs) :
    P (serve cmd src d s).inputs := by
  obtain ⟨-, -, -, -, -, -, -, -, -, -, -, inputs, -⟩ := serve_rest cmd src d s
  rw [inputs]
  split <;> assumption

theorem serve_cal {P : CalTable → Prop} {cmd : Instr} {d : State → Answer} (hs : P s.cal) (hd : P (d s).state.cal) :
    P (serve cmd src d s).cal := by
  obtain ⟨-, -, -, -, -, -, -, -, -, -, cal, -⟩ := serve_rest cmd src d s
  rw [cal]
  split <;> assumption

theorem inputsFit_decideSetInputs {door estop station : Nat} (h : s.InputsOk) :
    InputsFit (decideSetInputs door estop station s).state.inputs := by
  unfold decideSetInputs
  split
  · exact h
  · next e => exact inputsFit_inputsAfter h e

theorem inputsOk_inputChange {c : LineChange} (h : s.InputsOk) (e : execInputChange c s = .next t) : t.InputsOk := by
  obtain rfl := Host.Outcome.next.inj e
  obtain ⟨door, estop, station⟩ := h
  cases c with
  | door high => exact ⟨debounced_judge door _, estop, station⟩
  | estop high => exact ⟨door, debounced_judge estop _, station⟩
  | station code => exact ⟨door, estop, debounced_judge station _⟩

theorem inputsOk_stabilityTimerExpiry {i : InputName} (h : s.InputsOk) (e : execStabilityTimerExpiry i s = .next t) : t.InputsOk := by
  obtain rfl := Host.Outcome.next.inj e
  obtain ⟨door, estop, station⟩ := id h
  have of_inputs {u v : State} (inputs : u.inputs = v.inputs) (fit : InputsFit v.inputs) : InputsFit u.inputs := inputs ▸ fit
  cases i with
  | door =>
    dsimp only
    split
    · exact h
    · exact of_inputs (afterDoor_frame _ _ _).2.2.1 ⟨debounced_accept door, estop, station⟩
  | estop =>
    dsimp only
    split
    · exact h
    · exact of_inputs (afterEstop_frame _ _ _).2.2.1 ⟨door, debounced_accept estop, station⟩
  | station =>
    dsimp only
    split
    · exact h
    · have turned (u : State) : (judgeTurret u).inputs = u.inputs := by simp
      exact of_inputs (turned _) ⟨door, estop, debounced_accept station⟩

theorem exec_inputsOk {i : Instr} (e : exec i s = .next t) (h : s.InputsOk) : t.InputsOk := by
  cases i with
  | coldReset pins =>
    obtain rfl := Host.Outcome.next.inj e
    exact inputsFit_starting pins
  | inputChange c => exact inputsOk_inputChange h e
  | stabilityTimerExpiry i => exact inputsOk_stabilityTimerExpiry h e
  | setInputs src door estop station =>
    obtain rfl := Host.Outcome.next.inj e
    exact serve_inputs h (inputsFit_decideSetInputs h)
  | _ =>
    have frame : t = _ := everyCommandKeepsItsFrame _ s t e
    have inputs : t.inputs = s.inputs := (congrArg State.inputs frame).trans (by simp [State.withCycle, State.withView, State.withPort])
    exact (congrArg InputsFit inputs).mpr h

/-! ## The calibration table -/

/-- The calibration table in order, said of the block. -/
abbrev CalFits (c : CalTable) : Prop :=
  c.nvBusy = c.commit.isSome ∧ c.generation ≤ Config.generationMax ∧ c.stations.length = 6
    ∧ c.conditions.length = 7 ∧ c.nv.length = 7

theorem calFits_starting {nv : List NvRecord} (h : nv.length = 7) : CalFits (CalTable.starting nv) :=
  ⟨rfl, Nat.zero_le _, rfl, rfl, h⟩

theorem calFits_loadTable {c : CalTable} (h : CalFits c) (l : List Nat) : CalFits (loadTable l c) := by
  obtain ⟨busy, generation, -, -, nv⟩ := h
  exact ⟨busy, generation, by simp [loadTable], by simp [loadTable], nv⟩

theorem calFits_commitTable {c : CalTable} (h : CalFits c) (k : Commit) (n : NvSlot) : CalFits (commitTable k n c) := by
  obtain ⟨-, generation, stations, conditions, nv⟩ := h
  refine ⟨rfl, generation, stations, ?_, (List.length_set ..).trans nv⟩
  unfold commitTable
  dsimp only
  split
  · exact conditions
  · exact (List.length_set ..).trans conditions

theorem nextGeneration_le (n : Nat) : nextGeneration n ≤ Config.generationMax := by
  unfold nextGeneration
  split
  · assumption
  · decide

theorem calFits_writeTable {c : CalTable} (h : CalFits c) (rec : Nat) (f : CalFields) (p : Port) : CalFits (writeTable rec f p c) := by
  obtain ⟨-, -, stations, conditions, nv⟩ := h
  have replaced : (replaceRecord rec f c).stations.length = 6 ∧ (replaceRecord rec f c).nv = c.nv := by
    unfold replaceRecord
    split
    · exact ⟨stations, rfl⟩
    · exact ⟨(List.length_set ..).trans stations, rfl⟩
  obtain ⟨stations', nv'⟩ := replaced
  exact ⟨rfl, nextGeneration_le _, stations', (List.length_set ..).trans conditions, nv' ▸ nv⟩

theorem calFits_decideWriteCalibration {rec : Nat} {f : CalFields} (h : s.CalOk) :
    CalFits (decideWriteCalibration src rec f s).state.cal := by
  have written : CalFits (s.modCal (writeTable rec f src.port)).cal := calFits_writeTable h rec f src.port
  unfold decideWriteCalibration
  split
  · exact h
  · dsimp only
    split
    · simpa only [(grant_frame _).2.2.2.2.1] using written
    · exact written

theorem calOk_startupLoadComplete {l : List Nat} (h : s.CalOk) (e : execStartupLoadComplete l s = .next t) : t.CalOk := by
  obtain rfl := Host.Outcome.next.inj e
  split
  · exact h
  · have cal : (postLoadFaults (List.range 7) (s.modCal (loadTable l))).cal = loadTable l s.cal := by simp
    exact (congrArg CalFits cal).mpr (calFits_loadTable h l)

theorem calOk_commitComplete {r : ReadBack} (h : s.CalOk) (e : execCommitComplete r s = .next t) : t.CalOk := by
  obtain rfl := Host.Outcome.next.inj e
  split
  · exact h
  · next c _ =>
    have done := calFits_commitTable h c (committedSlot c r)
    dsimp only
    split <;> simpa [postCalFault, State.CalOk] using done

theorem exec_calOk {i : Instr} (e : exec i s = .next t) (h : s.CalOk) : t.CalOk := by
  cases i with
  | coldReset pins =>
    obtain rfl := Host.Outcome.next.inj e
    exact calFits_starting h.2.2.2.2
  | startupLoadComplete l => exact calOk_startupLoadComplete h e
  | commitComplete r => exact calOk_commitComplete h e
  | writeCalibration src rec f =>
    obtain rfl := Host.Outcome.next.inj e
    exact serve_cal h (calFits_decideWriteCalibration h)
  | _ =>
    have frame : t = _ := everyCommandKeepsItsFrame _ s t e
    have cal : t.cal = s.cal := (congrArg State.cal frame).trans (by simp [State.withCycle, State.withView, State.withPort])
    exact (congrArg CalFits cal).mpr h

end Sys2Proof.Proofs.Devices

/-! # The capture unit in shape (R85 to R98) -/

namespace Sys2Proof.Proofs.Devices
open Sys2Proof Sys2Proof.Machine Sys2Proof.Proofs.Orders

variable {s t : State} {o : Order} {k : Bank} {b : BankId} {c : CaptureUnit}

/-! ## A bank -/

theorem bankOk_release (h : k.Ok) : k.release.Ok := by
  obtain ⟨columns, rows, lines, pixels, -⟩ := h
  exact ⟨columns, rows, lines, pixels, nofun⟩

theorem bankOk_dropFilling (h : k.Ok) : k.dropFilling.Ok := by
  unfold Bank.dropFilling
  split
  · exact bankOk_release h
  · exact h

theorem bankOk_reset : Bank.reset.Ok := ⟨List.length_replicate, List.length_replicate, Nat.zero_le _, Nat.zero_le _, nofun⟩

theorem bankOk_begin (k : Bank) : k.begin.Ok := bankOk_reset

/-- A pixel is taken while its line has room for it (R88, R89). -/
theorem bankOk_takePixel (h : k.Ok) (hp : k.pixels < Config.columns) (w p : Nat) : (k.takePixel w p).Ok := by
  obtain ⟨columns, rows, lines, -, inLine⟩ := h
  refine ⟨?_, ?_, lines, hp, inLine⟩
  · unfold Bank.takePixel
    dsimp only
    split
    · rwa [addSample, List.length_modify]
    · exact columns
  · unfold Bank.takePixel
    dsimp only
    split
    · rwa [addSample, List.length_modify]
    · exact rows

/-! ## The unit -/

/-- The capture unit in order, said of the block. -/
abbrev CaptureFits (c : CaptureUnit) : Prop :=
  c.bank0.Ok ∧ c.bank1.Ok ∧ c.frameErrors ≤ Config.counterMax ∧ c.dropped ≤ Config.counterMax

theorem captureFits_reset : CaptureFits CaptureUnit.reset :=
  ⟨bankOk_reset, bankOk_reset, Nat.zero_le _, Nat.zero_le _⟩

theorem CaptureFits.bank (h : CaptureFits c) (b : BankId) : (c.bank b).Ok := by
  obtain ⟨zero, one, -⟩ := h
  cases b
  · exact zero
  · exact one

theorem CaptureFits.modBank (h : CaptureFits c) {f : Bank → Bank} (hf : (c.bank b).Ok → (f (c.bank b)).Ok) :
    CaptureFits (c.modBank b f) := by
  obtain ⟨zero, one, counts⟩ := h
  cases b
  · exact ⟨hf zero, one, counts⟩
  · exact ⟨zero, hf one, counts⟩

theorem CaptureFits.startFrame (h : CaptureFits c) : CaptureFits c.startFrame := by
  obtain ⟨zero, one, errors, dropped⟩ := id h
  unfold CaptureUnit.startFrame
  split
  · split
    · exact h.modBank fun _ => bankOk_begin _
    · exact ⟨zero, one, errors, saturatingSucc_le dropped⟩
  · exact h

theorem CaptureFits.frameError (h : CaptureFits c) : CaptureFits (c.frameError b) := by
  obtain ⟨-, -, errors, -⟩ := id h
  obtain ⟨zero, one, -, dropped⟩ := h.modBank (b := b) bankOk_release
  exact ⟨zero, one, saturatingSucc_le errors, dropped⟩

theorem CaptureFits.lineRise (h : CaptureFits c) : CaptureFits (c.lineRise b) := by
  unfold CaptureUnit.lineRise
  split
  · exact h.frameError
  · next room =>
    exact h.modBank fun ⟨columns, rows, lines, _, _⟩ => ⟨columns, rows, lines, Nat.zero_le _, fun _ => not_le.1 room⟩

theorem CaptureFits.lineFall (h : CaptureFits c) : CaptureFits (c.lineFall b) := by
  unfold CaptureUnit.lineFall
  split
  · exact h
  · next inLine =>
    split
    · exact h.frameError
    · exact h.modBank fun ⟨columns, rows, _, _, room⟩ => ⟨columns, rows, room (by simpa using inLine), Nat.zero_le _, nofun⟩

theorem CaptureFits.line (h : CaptureFits c) (rise : Bool) : CaptureFits (c.line rise) := by
  unfold CaptureUnit.line
  split
  · exact h
  · split
    · exact h.lineRise
    · exact h.lineFall

theorem CaptureFits.pixel (h : CaptureFits c) (p : Nat) : CaptureFits (c.pixel p) := by
  unfold CaptureUnit.pixel
  split
  · exact h
  · split
    · exact h
    · split
      · exact h.frameError
      · next room => exact h.modBank fun ok => bankOk_takePixel ok (not_le.1 room) _ p

theorem CaptureFits.endFrame (h : CaptureFits c) (lineHigh : Bool) : CaptureFits (c.endFrame lineHigh b) := by
  unfold CaptureUnit.endFrame
  split
  · exact h.frameError
  · split
    · exact h.modBank bankOk_release
    · exact h.modBank id
    · exact h
    · exact h

theorem CaptureFits.stop (h : CaptureFits c) : CaptureFits c.stop := by
  unfold CaptureUnit.stop
  split
  · exact h
  · exact ⟨bankOk_release h.1, bankOk_release h.2.1, h.2.2⟩

theorem CaptureFits.decideRole (h : CaptureFits c) (score : Nat) : CaptureFits (c.decideRole b score) := by
  have best (x : Nat) : CaptureFits (c.modBank b fun k => { k with role := .best, score := .some x, closed := false }) := h.modBank id
  unfold CaptureUnit.decideRole
  split
  · split
    · exact (best score).modBank bankOk_release
    · exact h.modBank bankOk_release
  · exact best score

theorem CaptureFits.enterScore (h : CaptureFits c) (v : ViewParams) : CaptureFits (c.enterScore b v) := h.decideRole _

theorem CaptureFits.endFocus (h : CaptureFits c) : CaptureFits c.endFocus :=
  ⟨bankOk_dropFilling h.1, bankOk_dropFilling h.2.1, h.2.2⟩

theorem CaptureFits.handOver (h : CaptureFits c) : CaptureFits (c.handOver b) := h.endFocus.modBank id

theorem CaptureFits.failView (h : CaptureFits c) : CaptureFits c.failView :=
  ⟨bankOk_release h.1, bankOk_release h.2.1, h.2.2⟩

theorem CaptureFits.freeReading (h : CaptureFits c) : CaptureFits c.freeReading := by
  unfold CaptureUnit.freeReading
  split
  · exact h
  · exact h.modBank bankOk_release

/-! ## The operations that end, start and judge a view -/

/-- The abort path stops the view and leaves the capture unit alone besides (R67, R98). -/
theorem abortPath_cap (why : AbortReason) (spent : Bool) (s : State) :
    (abortPath why spent s).cap = s.cap ∨ (abortPath why spent s).cap = s.cap.stop := by
  cases ho : ownerOf s with
  | none => exact .inl (by simp [abortPath, ho])
  | some o =>
    have retract : (abortPath why false s).cap = s.cap.stop := by
      rw [abortPath_false why ho]
      split <;> simp [halted]
    cases spent
    · exact .inr retract
    · exact .inr (by rw [abortPath_true why ho, (abortRecords_frame _ _).2.1, retract])

theorem captureOk_abortPath {why : AbortReason} {spent : Bool} (h : s.CaptureOk) : (abortPath why spent s).CaptureOk := by
  rcases abortPath_cap why spent s with e | e
  · exact (congrArg CaptureFits e).mpr h
  · exact (congrArg CaptureFits e).mpr (CaptureFits.stop h)

/-- An open door stops the view that it interrupts (R62, R169). -/
theorem doorAction_cap (s : State) : (doorAction s).cap = s.cap ∨ (doorAction s).cap = s.cap.stop := by
  unfold doorAction interruptPoint
  split
  · exact .inl rfl
  · split <;> simp

theorem captureOk_afterDoor {was : Option DoorLevel} {now : DoorLevel} (h : s.CaptureOk) : (afterDoor was now s).CaptureOk := by
  unfold afterDoor
  split
  · exact h
  · exact (congrArg CaptureFits (grant_frame s).2.1).mpr h
  · have same : (gainInterlock (postInterlock .doorOpened s)).cap = s.cap := by simp
    rcases doorAction_cap (gainInterlock (postInterlock .doorOpened s)) with e | e
    · exact (congrArg CaptureFits (e.trans same)).mpr h
    · exact (congrArg CaptureFits (e.trans (congrArg CaptureUnit.stop same))).mpr (CaptureFits.stop h)
  · have same : (doorShut s).cap = s.cap := by simp [doorShut]
    exact (congrArg CaptureFits same).mpr h

theorem captureOk_afterEstop {was : Option EstopLevel} {now : EstopLevel} (h : s.CaptureOk) : (afterEstop was now s).CaptureOk := by
  have posted (e : InterlockEvent) : (postInterlock e s).cap = s.cap := by simp
  unfold afterEstop
  split
  · exact h
  · exact (congrArg CaptureFits (grant_frame s).2.1).mpr h
  · unfold estopPressed
    split
    · exact (congrArg CaptureFits (posted _)).mpr h
    · exact captureOk_abortPath ((congrArg CaptureFits (posted _)).mpr h)
  · have same : (estopFreed s).cap = s.cap := by simp [estopFreed]
    exact (congrArg CaptureFits same).mpr h

theorem captureOk_judgeMove (h : s.CaptureOk) : (judgeMove s).CaptureOk := by
  unfold judgeMove
  split
  · split
    · exact h
    · split
      · exact h
      · exact h
  · exact h

theorem captureOk_judgeTurret (h : s.CaptureOk) : (judgeTurret s).CaptureOk := by
  unfold judgeTurret
  split
  · exact h
  · split
    · exact captureOk_judgeMove h
    · exact h

theorem captureOk_captureFailure {why : Reason} (h : s.CaptureOk) : (captureFailure why s).CaptureOk := by
  have failed : (captureFailure why s).cap = s.cap.failView := by simp [captureFailure, noteFrames]
  exact (congrArg CaptureFits failed).mpr (CaptureFits.failView h)

theorem captureOk_judgeFocus {v : ViewParams} (h : s.CaptureOk) : (judgeFocus v o s).CaptureOk := by
  have chosen (b : BankId) (soft : Bool) : (chooseBank b soft o s).CaptureOk := CaptureFits.handOver h
  unfold judgeFocus
  split
  · exact h
  · split
    · exact chosen _ _
    · split
      · exact h
      · split
        · exact chosen _ _
        · exact captureOk_captureFailure h

theorem takeReport_cap (o : Order) (r : Except Reason Measured) (s : State) : (takeReport o r s).cap = s.cap := by
  unfold takeReport
  split <;> simp

/-! ## The events -/

theorem captureOk_stabilityTimerExpiry {i : InputName} (h : s.CaptureOk) (e : execStabilityTimerExpiry i s = .next t) : t.CaptureOk := by
  obtain rfl := Host.Outcome.next.inj e
  cases i with
  | door =>
    dsimp only
    split
    · exact h
    · exact captureOk_afterDoor h
  | estop =>
    dsimp only
    split
    · exact h
    · exact captureOk_afterEstop h
  | station =>
    dsimp only
    split
    · exact h
    · exact captureOk_judgeTurret h

theorem captureOk_judgeRest {motion : Bool} (h : s.CaptureOk) : (judgeRest motion s).CaptureOk := by
  have same : (judgeRest motion s).cap = s.cap := by simp
  exact (congrArg CaptureFits same).mpr h

theorem captureOk_stgDone (h : s.CaptureOk) (e : execStgDone s = .next t) : t.CaptureOk := by
  obtain rfl := Host.Outcome.next.inj e
  split
  · exact h
  · split
    · exact captureOk_judgeMove h
    · exact captureOk_judgeRest h

theorem captureOk_turDone (h : s.CaptureOk) (e : execTurDone s = .next t) : t.CaptureOk := by
  obtain rfl := Host.Outcome.next.inj e
  split
  · exact h
  · split
    · exact captureOk_judgeTurret h
    · exact captureOk_judgeRest h

theorem captureOk_stgFault (h : s.CaptureOk) (e : execStgFault s = .next t) : t.CaptureOk := by
  obtain rfl := Host.Outcome.next.inj e
  split
  · exact h
  · split
    · exact h
    · exact captureOk_abortPath h

theorem captureOk_stageTimerExpiry (h : s.CaptureOk) (e : execStageTimerExpiry s = .next t) : t.CaptureOk := by
  obtain rfl := Host.Outcome.next.inj e
  split
  · exact h
  · exact captureOk_abortPath h

theorem captureOk_turretTimerExpiry (h : s.CaptureOk) (e : execTurretTimerExpiry s = .next t) : t.CaptureOk := by
  obtain rfl := Host.Outcome.next.inj e
  split
  · exact h
  · exact captureOk_abortPath h

theorem captureOk_unloadTimerExpiry (h : s.CaptureOk) (e : execUnloadTimerExpiry s = .next t) : t.CaptureOk := by
  obtain rfl := Host.Outcome.next.inj e
  split
  · exact h
  · exact captureOk_abortPath h

theorem captureOk_retractTimerExpiry (h : s.CaptureOk) (e : execRetractTimerExpiry s = .next t) : t.CaptureOk := by
  obtain rfl := Host.Outcome.next.inj e
  split
  · exact h
  · split
    · next why _ => exact (congrArg CaptureFits (abortRecords_frame why s).2.1).mpr h
    · exact captureOk_abortPath h

theorem captureOk_frameStart (h : s.CaptureOk) (e : execFrameStart s = .next t) : t.CaptureOk := by
  obtain rfl := Host.Outcome.next.inj e
  split
  · exact h
  · exact CaptureFits.startFrame h

theorem captureOk_lineMarker {rise : Bool} (h : s.CaptureOk) (e : execLineMarker rise s = .next t) : t.CaptureOk := by
  obtain rfl := Host.Outcome.next.inj e
  split
  · exact h
  · dsimp only
    split
    · exact CaptureFits.line h rise
    · exact h

theorem captureOk_pixelTaken {value : Nat} (h : s.CaptureOk) (e : execPixelTaken value s = .next t) : t.CaptureOk := by
  obtain rfl := Host.Outcome.next.inj e
  split
  · exact CaptureFits.pixel h value
  · exact h

theorem captureOk_frameCompletion (h : s.CaptureOk) (e : execFrameCompletion s = .next t) : t.CaptureOk := by
  obtain rfl := Host.Outcome.next.inj e
  split
  · exact h
  · dsimp only
    split
    · exact h
    · next b _ =>
      have followed (u : State) : (followFocus u).cap = u.cap := by simp
      exact (congrArg CaptureFits (followed _)).mpr (CaptureFits.endFrame h _)

theorem captureOk_scoreReady (h : s.CaptureOk) (e : execScoreReady s = .next t) : t.CaptureOk := by
  obtain rfl := Host.Outcome.next.inj e
  split
  · split
    · exact captureOk_judgeFocus (CaptureFits.enterScore h _)
    · exact h
  · exact h

theorem captureOk_frameTimerExpiry (h : s.CaptureOk) (e : execFrameTimerExpiry s = .next t) : t.CaptureOk := by
  obtain rfl := Host.Outcome.next.inj e
  split
  · exact h
  · split
    · exact captureOk_captureFailure h
    · exact h

theorem captureOk_measurementReport (h : s.CaptureOk) (e : execMeasurementReport s = .next t) : t.CaptureOk := by
  obtain rfl := Host.Outcome.next.inj e
  split
  · split
    · exact (congrArg CaptureFits (takeReport_cap _ _ _)).mpr (CaptureFits.freeReading h)
    · exact h
  · exact h

theorem exec_captureOk {i : Instr} (e : exec i s = .next t) (h : s.CaptureOk) : t.CaptureOk := by
  cases i with
  | coldReset pins =>
    obtain rfl := Host.Outcome.next.inj e
    exact captureFits_reset
  | stabilityTimerExpiry i => exact captureOk_stabilityTimerExpiry h e
  | stgDone => exact captureOk_stgDone h e
  | stgFault => exact captureOk_stgFault h e
  | turDone => exact captureOk_turDone h e
  | stageTimerExpiry => exact captureOk_stageTimerExpiry h e
  | turretTimerExpiry => exact captureOk_turretTimerExpiry h e
  | unloadTimerExpiry => exact captureOk_unloadTimerExpiry h e
  | retractTimerExpiry => exact captureOk_retractTimerExpiry h e
  | frameStart => exact captureOk_frameStart h e
  | lineMarker rise => exact captureOk_lineMarker h e
  | pixelTaken value => exact captureOk_pixelTaken h e
  | frameCompletion => exact captureOk_frameCompletion h e
  | scoreReady => exact captureOk_scoreReady h e
  | frameTimerExpiry => exact captureOk_frameTimerExpiry h e
  | measurementReport => exact captureOk_measurementReport h e
  | _ =>
    have frame : t = _ := everyCommandKeepsItsFrame _ s t e
    have cap : t.cap = s.cap := (congrArg State.cap frame).trans (by simp [State.withCycle, State.withPort])
    exact (congrArg CaptureFits cap).mpr h

end Sys2Proof.Proofs.Devices

/-! # A step and the devices -/

namespace Sys2Proof.Proofs.Devices
open Sys2Proof Sys2Proof.Machine Sys2Proof.Proofs.Orders Sys2Proof.Proofs.Force

variable {s t : State} {i : Instr}

theorem exec_keepsDevices (e : exec i s = .next t) (head : s.HeadOk → t.HeadOk) :
    (s.InputsOk → t.InputsOk) ∧ (s.CalOk → t.CalOk) ∧ (s.CaptureOk → t.CaptureOk) ∧ (s.ForceOk → t.ForceOk)
      ∧ (s.SetPointOk → t.SetPointOk) :=
  ⟨exec_inputsOk e, exec_calOk e, exec_captureOk e, exec_forceOk e, fun h => exec_setPointOk e (head h.1) h⟩

/-- Settles O7: the idle step changes nothing, and a command keeps each device in shape; the set-point's owner is read from a head
that the step keeps in order. -/
theorem stepKeepsTheDevicesInShape : Obligations.StepKeepsTheDevicesInShape := by
  intro s t e
  have head : s.HeadOk → t.HeadOk := fun h => stepKeepsTheHeadInOrder s t h e
  unfold step at e
  split at e
  · obtain rfl := Host.Outcome.next.inj e
    exact ⟨id, id, id, id, id⟩
  · have kept := exec_keepsDevices e head
    exact kept

end Sys2Proof.Proofs.Devices

/-! # Frames, lines and pixels (R86 to R89) -/

namespace Sys2Proof.Proofs.Imaging
open Sys2Proof Sys2Proof.Machine Sys2Proof.Proofs.Indent

variable {s : State} {c : CaptureUnit} {b : BankId} {rise : Bool} {v w : Nat}

/-! ## A frame start (R86, R87) -/

theorem taking_iff {p : ViewPhase} : p.taking = true ↔ p ∈ [.settle, .focus] := by cases p <;> decide

theorem taking_eq_false_iff {p : ViewPhase} : p.taking = false ↔ p ∈ [.none, .handed] := by cases p <;> decide

section
variable {test : Bank → Bool}

theorem findBank_zero (h : test c.bank0 = true) : c.findBank test = .some .zero := if_pos h

theorem findBank_one (h0 : ¬test c.bank0 = true) (h1 : test c.bank1 = true) : c.findBank test = .some .one :=
  (if_neg h0).trans (if_pos h1)

theorem findBank_none (h0 : ¬test c.bank0 = true) (h1 : ¬test c.bank1 = true) : c.findBank test = .none :=
  (if_neg h0).trans (if_neg h1)

end

theorem startFrame_ignored (h : c.phase.taking = false) : c.startFrame = c := by
  simp [CaptureUnit.startFrame, h]

theorem startFrame_fills (h : c.phase.taking = true) (hb : c.findBank (·.role = .free) = .some b) :
    c.startFrame = c.modBank b Bank.begin := by
  simp [CaptureUnit.startFrame, h, hb]

theorem startFrame_drops (h : c.phase.taking = true) (hb : c.findBank (·.role = .free) = .none) :
    c.startFrame = { c with dropped := saturatingSucc c.dropped } := by
  simp [CaptureUnit.startFrame, h, hb]

theorem execFrameStart_high (h : s.pins.frameHigh = true) : execFrameStart s = .next s := by
  simp [execFrameStart, h]

theorem execFrameStart_low (h : s.pins.frameHigh = false) :
    execFrameStart s = .next { s with pins := { s.pins with frameHigh := true }, cap := s.cap.startFrame } := by
  simp [execFrameStart, h, State.modPins, State.modCap]

/-! ## A change of LINE (R86, R89) -/

theorem lineRise_begins (h : (c.bank b).lines < 1024) :
    c.lineRise b = c.modBank b fun k => { k with inLine := true, pixels := 0 } :=
  if_neg (Nat.not_le_of_lt h)

theorem lineRise_full (h : (c.bank b).lines = 1024) : c.lineRise b = c.frameError b := if_pos h.ge

theorem lineFall_outside (h : (c.bank b).inLine = false) : c.lineFall b = c := by
  simp [CaptureUnit.lineFall, h]

theorem lineFall_short (h : (c.bank b).inLine = true) (hp : (c.bank b).pixels < 1280) : c.lineFall b = c.frameError b := by
  simp [CaptureUnit.lineFall, h, Config.columns, hp]

theorem lineFall_whole (h : (c.bank b).inLine = true) (hp : (c.bank b).pixels = 1280) :
    c.lineFall b = c.modBank b fun k => { k with inLine := false, lines := k.lines + 1, pixels := 0 } := by
  simp [CaptureUnit.lineFall, h, Config.columns, hp]

theorem execLineMarker_same (h : s.pins.lineHigh = rise) : execLineMarker rise s = .next s := by
  simp [execLineMarker, h]

theorem execLineMarker_ignored (h : s.pins.lineHigh ≠ rise) (hf : s.pins.frameHigh = false ∨ s.cap.openBank = .none) :
    execLineMarker rise s = .next { s with pins := { s.pins with lineHigh := rise } } := by
  obtain hf | hb := hf
  · simp [execLineMarker, h, hf, State.modPins]
  · simp [execLineMarker, h, CaptureUnit.line, hb, State.modPins, State.modCap]

theorem execLineMarker_open (h : s.pins.lineHigh ≠ rise) (hf : s.pins.frameHigh = true) (hb : s.cap.openBank = .some b) :
    execLineMarker rise s = .next { s with
      pins := { s.pins with lineHigh := rise }, cap := if rise then s.cap.lineRise b else s.cap.lineFall b } := by
  simp [execLineMarker, h, hf, CaptureUnit.line, hb, State.modPins, State.modCap]

/-! ## A pixel (R86, R88, R89) -/

theorem addSample_eq_set (i p : Nat) (P : List Nat) : addSample i p P = P.set i (sampleAt P i + p) := by
  refine List.ext_getElem? fun j => ?_
  rw [addSample, List.getElem?_modify, List.getElem?_set]
  split
  · next same =>
    subst same
    by_cases h : i < P.length <;> simp [h, sampleAt]
  · simp

theorem inBandAt_iff {m i : Nat} : inBandAt m w i = true ↔ m - w / 2 ≤ i ∧ i < m + w / 2 := by
  simp [inBandAt]

/-- A pixel joins each profile whose band its line or its column lies in. -/
theorem takePixel_eq (w v : Nat) (k : Bank) : k.takePixel w v = { k with
    hProfile := if 512 - w / 2 ≤ k.lines ∧ k.lines < 512 + w / 2
      then k.hProfile.set k.pixels (sampleAt k.hProfile k.pixels + v) else k.hProfile
    vProfile := if 640 - w / 2 ≤ k.pixels ∧ k.pixels < 640 + w / 2
      then k.vProfile.set k.lines (sampleAt k.vProfile k.lines + v) else k.vProfile
    pixels := k.pixels + 1 } := by
  simp only [Bank.takePixel, inBandAt_iff, addSample_eq_set, Config.rows, Config.columns]

theorem pixel_outside (hb : c.openBank = .some b) (h : (c.bank b).inLine = false) : c.pixel v = c := by
  simp [CaptureUnit.pixel, hb, h]

theorem pixel_over (hb : c.openBank = .some b) (h : (c.bank b).inLine = true) (hp : (c.bank b).pixels = 1280) :
    c.pixel v = c.frameError b := by
  simp [CaptureUnit.pixel, hb, h, hp, Config.columns]

theorem pixel_taken (hb : c.openBank = .some b) (h : (c.bank b).inLine = true) (hp : (c.bank b).pixels < 1280) :
    c.pixel v = c.modBank b (Bank.takePixel c.bandWidth v) := by
  simp [CaptureUnit.pixel, hb, h, Config.columns, Nat.not_le_of_lt hp]

theorem execPixelTaken_ignored (h : s.pins.frameHigh = false ∨ s.pins.lineHigh = false ∨ s.cap.openBank = .none) :
    execPixelTaken v s = .next s := by
  obtain hf | hl | hb := h
  · simp [execPixelTaken, hf]
  · simp [execPixelTaken, hl]
  · simp [execPixelTaken, CaptureUnit.pixel, hb, State.modCap]

theorem execPixelTaken_high (hf : s.pins.frameHigh = true) (hl : s.pins.lineHigh = true) :
    execPixelTaken v s = .next { s with cap := s.cap.pixel v } := by
  simp [execPixelTaken, hf, hl, State.modCap]

/-! ## The commands -/

/-- A frame error frees the bank and raises the count (R89). -/
theorem frameError_eq (b : BankId) (c : CaptureUnit) : c.frameError b =
    { (if b = .zero then { c with bank0 := (c.bank b).release } else { c with bank1 := (c.bank b).release }) with
      frameErrors := saturatingSucc c.frameErrors } := by
  rw [CaptureUnit.frameError, modBank_eq]

/-- Settles O51: a frame start by the view's phase and the FREE banks, and LINE and pixels by the open bank's progress. -/
theorem framesAndPixelsAreTaken : Obligations.FramesAndPixelsAreTaken := by
  refine ⟨fun v s => ?_, fun v b params s hf hb hv _ _ => ?_⟩
  · intro k started filling
    have starts (c : CaptureUnit) (hf : s.pins.frameHigh = false) (h : s.cap.startFrame = c) : started c :=
      h ▸ execFrameStart_low hf
    refine ⟨execFrameStart_high, fun hf hp => starts _ hf (startFrame_ignored (taking_eq_false_iff.2 hp)), fun hf hp => ?_,
      fun rise => ⟨execLineMarker_same, execLineMarker_ignored⟩, execPixelTaken_ignored⟩
    have taking := taking_iff.2 hp
    refine ⟨fun h0 => starts _ hf ?_, fun h0 h1 => starts _ hf ?_, fun h0 h1 => starts _ hf ?_⟩
    · exact startFrame_fills taking (findBank_zero (decide_eq_true h0))
    · exact startFrame_fills taking (findBank_one (by simpa using h0) (decide_eq_true h1))
    · exact startFrame_drops taking (findBank_none (by simpa using h0) (by simpa using h1))
  · intro k put erred marks half rows columns
    have isOpen := openBank_some hb
    have error : s.cap.frameError b = erred := frameError_eq b s.cap
    have change (f : Bank → Bank) : s.cap.modBank b f = put (f k) := modBank_eq b f s.cap
    have rises (c : CaptureUnit) (hl : s.pins.lineHigh = false) (h : s.cap.lineRise b = c) : marks true c :=
      h ▸ execLineMarker_open (by simp [hl]) hf isOpen
    have falls (c : CaptureUnit) (hl : s.pins.lineHigh = true) (h : s.cap.lineFall b = c) : marks false c :=
      h ▸ execLineMarker_open (by simp [hl]) hf isOpen
    have takes (c : CaptureUnit) (hl : s.pins.lineHigh = true) (h : s.cap.pixel v = c) :
        exec (.pixelTaken v) s = .next { s with cap := c } := h ▸ execPixelTaken_high hf hl
    have width : s.cap.bandWidth = params.bandW := by simp [CaptureUnit.bandWidth, hv]
    refine ⟨fun hl room => rises _ hl ((lineRise_begins room).trans (change _)),
      fun hl full => rises _ hl ((lineRise_full full).trans error),
      fun hl out => ⟨falls _ hl (lineFall_outside out), takes _ hl (pixel_outside isOpen out)⟩,
      fun hl inLine whole => falls _ hl ((lineFall_whole inLine whole).trans (change _)),
      fun hl inLine short => falls _ hl ((lineFall_short inLine short).trans error),
      fun hl inLine room => takes _ hl ?_,
      fun hl inLine whole => takes _ hl ((pixel_over isOpen inLine whole).trans error)⟩
    rw [pixel_taken isOpen inLine room, change, width, takePixel_eq]

end Sys2Proof.Proofs.Imaging

/-! # The focus score and the best bank (R92, R93) -/

namespace Sys2Proof.Proofs.Imaging
open Sys2Proof Sys2Proof.Machine Sys2Proof.Proofs.Indent

variable {c : CaptureUnit} {b : BankId} {n : Nat}

/-! ## The score (R92) -/

theorem absDiff_eq_natAbs (a b : Nat) : absDiff a b = ((a : Int) - (b : Int)).natAbs := by
  unfold absDiff
  omega

/-- The steps of a run of samples are those between each sample but the last and the one after it. -/
theorem stepSum_eq_sum : ∀ L : List Nat, stepSum L
    = ((List.range (L.length - 1)).map fun i => ((sampleAt L (i + 1) : Int) - (sampleAt L i : Int)).natAbs).sum
  | [] => rfl
  | [_] => rfl
  | a :: b :: rest => by
    have tail := stepSum_eq_sum (b :: rest)
    simp only [List.length_cons, Nat.add_sub_cancel] at tail ⊢
    rw [stepSum, tail, List.range_succ_eq_map, List.map_cons, List.sum_cons, List.map_map, absDiff_eq_natAbs]
    rfl

/-- A search region that ends before the last sample of the profile is complete. -/
theorem length_searchRegion {n r : Nat} {P : List Nat} (hP : P.length = n) (hr : r + 1 ≤ n / 2) :
    (searchRegion n r P).length = 2 * r + 1 := by
  rw [searchRegion, List.length_take, List.length_drop]
  omega

theorem sampleAt_searchRegion {n r i : Nat} (P : List Nat) (h : i ≤ 2 * r) :
    sampleAt (searchRegion n r P) i = sampleAt P (n / 2 - r + i) := by
  simp [sampleAt, searchRegion, Nat.lt_succ_of_le h]

theorem focusScore_eq_sum (w : Nat) {rh : Nat} {P : List Nat} (hP : P.length = 1280) (hr : rh ≤ 639) : focusScore w rh P
    = ((List.range (2 * rh)).map fun i =>
        ((sampleAt P (640 - rh + i + 1) : Int) - (sampleAt P (640 - rh + i) : Int)).natAbs).sum / w := by
  have complete : (searchRegion Config.columns rh P).length = 2 * rh + 1 := length_searchRegion hP (Nat.succ_le_succ hr)
  rw [focusScore, stepSum_eq_sum, complete, Nat.add_sub_cancel]
  congr 2
  refine List.map_congr_left fun i hi => ?_
  have inside : i < 2 * rh := List.mem_range.1 hi
  rw [sampleAt_searchRegion P inside, sampleAt_searchRegion P inside.le]
  rfl

/-! ## The roles (R93) -/

/-- A bank that takes the score `n` and is BEST with it. -/
def crowned (n : Nat) (k : Bank) : Bank := { k with role := .best, score := .some n, closed := false }

theorem decideRole_first (h : (c.bank b.other).role ≠ .best) : c.decideRole b n = c.modBank b (crowned n) := if_neg h

theorem decideRole_greater (h : (c.bank b.other).role = .best) (hn : (c.bank b.other).score.getD 0 < n) :
    c.decideRole b n = (c.modBank b (crowned n)).modBank b.other Bank.release :=
  (if_pos h).trans (if_pos hn)

theorem decideRole_notGreater (h : (c.bank b.other).role = .best) (hn : n ≤ (c.bank b.other).score.getD 0) :
    c.decideRole b n = c.modBank b Bank.release :=
  (if_pos h).trans (if_neg (Nat.not_lt_of_le hn))

theorem bank_other (b : BankId) (c : CaptureUnit) : c.bank b.other = if b = .zero then c.bank1 else c.bank0 := by
  cases b <;> rfl

/-- The two banks of `c` by the name of one of them. -/
def withBanks (b : BankId) (k other : Bank) (c : CaptureUnit) : CaptureUnit :=
  { c with bank0 := if b = .zero then k else other, bank1 := if b = .zero then other else k }

theorem modBank_eq_withBanks (b : BankId) (f : Bank → Bank) (c : CaptureUnit) :
    c.modBank b f = withBanks b (f (c.bank b)) (c.bank b.other) c := by
  cases b <;> rfl

theorem modBank_modBank_eq_withBanks (b : BankId) (f g : Bank → Bank) (c : CaptureUnit) :
    (c.modBank b f).modBank b.other g = withBanks b (f (c.bank b)) (g (c.bank b.other)) c := by
  cases b <;> rfl

/-- Settles O53: the score is the sum over the search region's steps, and the roles go by the other bank's role and score. -/
theorem bestScoreIsKept : Obligations.BestScoreIsKept := by
  refine ⟨fun w rh P => focusScore_eq_sum w, fun b v c _ => ?_⟩
  intro k other S scored best free
  have beside : c.bank b.other = other := bank_other b c
  have decided (k' other' : Bank) (h : c.decideRole b S = withBanks b k' other' c) : scored k' other' := by
    show CaptureUnit.enterScore b v c = _
    rw [CaptureUnit.enterScore, h]
    rfl
  rw [← beside]
  refine ⟨fun h => decided _ _ ?_, fun h hn => decided _ _ ?_, fun h hn => decided _ _ ?_⟩
  · exact (decideRole_first h).trans (modBank_eq_withBanks ..)
  · exact (decideRole_greater h hn).trans (modBank_modBank_eq_withBanks ..)
  · exact (decideRole_notGreater h hn).trans (modBank_eq_withBanks ..)

end Sys2Proof.Proofs.Imaging

/-! # The evaluation of a diagonal pair (R113 to R119) -/

namespace Sys2Proof.Proofs.Measuring
open Sys2Proof Sys2Proof.Machine Sys2Proof.Proofs.Imaging

/-! ## The hardness and its clamp (R115, R117, R118) -/

theorem clampHardness_eq (raw : Nat) : clampHardness raw = max 1 (min raw 99999) := by
  unfold clampHardness Config.hardnessMax
  split
  · omega
  · split <;> omega

/-- OVERRANGE tells of a hardness that the clamp moved. -/
theorem isOverrange_eq_decide (raw : Nat) : isOverrange raw = decide (max 1 (min raw 99999) ≠ raw) := by
  unfold isOverrange Config.hardnessMax
  rw [← Bool.decide_or, decide_eq_decide]
  omega

theorem rawHardness_vickers (f d1 d2 : Nat) : rawHardness .vickers f d1 d2
    = (189092 * f * 10 ^ 4 + ((d1 + d2 + 1) / 2) ^ 2 / 2) / ((d1 + d2 + 1) / 2) ^ 2 := by
  rw [sq]
  rfl

theorem rawHardness_knoop (f d1 d2 : Nat) :
    rawHardness .knoop f d1 d2 = (145095 * f * 10 ^ 5 + d1 ^ 2 / 2) / d1 ^ 2 := by
  rw [sq]
  rfl

/-! ## The flags (R114, R116) -/

theorem isAsymmetric_eq_decide (limit d1 d2 : Nat) : isAsymmetric limit d1 d2
    = decide (limit ≠ 0 ∧ limit < ((d1 : Int) - d2).natAbs * 1000 / ((d1 + d2 + 1) / 2)) := by
  rw [Bool.decide_and, ← absDiff_eq_natAbs]
  rfl

theorem isAspect_eq_decide (d1 d2 : Nat) :
    isAspect d1 d2 = decide (d1 * 100 / d2 < 650 ∨ 770 < d1 * 100 / d2) :=
  (Bool.decide_or ..).symm

/-! ## The verdict (R119) -/

theorem verdictOf_unlimited (h : Nat) : verdictOf .none .none h = .none := rfl

theorem verdictOf_lower (l h : Nat) : verdictOf (.some l) .none h = if h < l then .low else .inBand := by
  simp [verdictOf]

theorem verdictOf_upper (u h : Nat) : verdictOf .none (.some u) h = if u < h then .high else .inBand := by
  simp [verdictOf]

theorem verdictOf_band (l u h : Nat) :
    verdictOf (.some l) (.some u) h = if h < l then .low else if u < h then .high else .inBand := by
  simp [verdictOf]

/-! ## The pair -/

/-- Settles O58: the hardness by its method, then clamp, flags and verdict by the equation of each. -/
theorem pairIsEvaluated : Obligations.PairIsEvaluated := by
  intro f asymmetry d1 d2 lower upper _ _ d hv hk clamp verdict
  have judged (h : Nat) : verdictOf lower upper h = verdict h := by
    cases lower with
    | none =>
      cases upper with
      | none => exact verdictOf_unlimited h
      | some u => exact verdictOf_upper u h
    | some l =>
      cases upper with
      | none => exact verdictOf_lower l h
      | some u => exact verdictOf_band l u h
  constructor
  · rw [evaluatePair, rawHardness_vickers, clampHardness_eq, isOverrange_eq_decide, isAsymmetric_eq_decide, judged]
    rfl
  · rw [evaluatePair, rawHardness_knoop, clampHardness_eq, isOverrange_eq_decide, isAspect_eq_decide, judged]
    rfl

end Sys2Proof.Proofs.Measuring

/-! # The work on a profile (R103 to R112) and the report of a measurement (R102, R113, R120, R121) -/

namespace Sys2Proof.Proofs.Measuring
open Sys2Proof Sys2Proof.Machine Sys2Proof.Proofs.Imaging

/-! ## The minimum of the search region (R103 to R105) -/

theorem leastOf_cons (a b : Nat) (rest : List Nat) : leastOf (a :: b :: rest) = min a (leastOf (b :: rest)) := rfl

theorem leastOf_mem : ∀ {L : List Nat}, L ≠ [] → leastOf L ∈ L
  | [a], _ => List.mem_singleton_self a
  | a :: b :: rest, _ => by
    rw [leastOf_cons]
    rcases min_choice a (leastOf (b :: rest)) with first | later
    · rw [first]
      exact List.mem_cons_self
    · rw [later]
      exact List.mem_cons_of_mem a (leastOf_mem (List.cons_ne_nil b rest))

theorem leastOf_le : ∀ {L : List Nat} {x : Nat}, x ∈ L → leastOf L ≤ x
  | [_], _, h => (List.mem_singleton.1 h).ge
  | a :: b :: rest, x, h => by
    rw [leastOf_cons]
    rcases List.mem_cons.1 h with rfl | later
    · exact min_le_left ..
    · exact (min_le_right ..).trans (leastOf_le later)

theorem background_eq {n : Nat} {P : List Nat} (hP : P.length = n) :
    background n P = ((P.take 64).sum + (P.drop (n - 64)).sum) / 128 := by
  have ends : (P.drop (n - 64)).length ≤ 64 := by
    rw [List.length_drop]
    omega
  rw [background, List.take_of_length_le ends]

theorem getElem_searchRegion {n r p : Nat} {P : List Nat} (inside : p < (searchRegion n r P).length) :
    (searchRegion n r P)[p] = sampleAt P (n / 2 - r + p) := by
  have le : p ≤ 2 * r := Nat.le_of_lt_succ (inside.trans_le (List.length_take_le ..))
  rw [← sampleAt_searchRegion P le, sampleAt, List.getD_eq_getElem _ _ inside]

section Minimum
variable {n r i : Nat} {P : List Nat} (hP : P.length = n) (hr : r + 1 ≤ n / 2)
include hP hr

theorem leastOf_searchRegion_mem : leastOf (searchRegion n r P) ∈ searchRegion n r P :=
  leastOf_mem (List.ne_nil_of_length_pos (by rw [length_searchRegion hP hr]; omega))

theorem minimumIndex_le : minimumIndex n r P ≤ n / 2 + r := by
  have inside := List.idxOf_lt_length_of_mem (leastOf_searchRegion_mem hP hr)
  rw [length_searchRegion hP hr] at inside
  unfold minimumIndex
  omega

theorem sampleAt_minimumIndex : sampleAt P (minimumIndex n r P) = leastOf (searchRegion n r P) := by
  have inside := List.idxOf_lt_length_of_mem (leastOf_searchRegion_mem hP hr)
  rw [minimumIndex, ← getElem_searchRegion inside, List.getElem_idxOf]

/-- No sample of the search region is below its minimum. -/
theorem leastOf_searchRegion_le (lo : n / 2 - r ≤ i) (hi : i ≤ n / 2 + r) :
    leastOf (searchRegion n r P) ≤ sampleAt P i := by
  obtain ⟨p, rfl⟩ := Nat.exists_eq_add_of_le lo
  have inside : p < (searchRegion n r P).length := by
    rw [length_searchRegion hP hr]
    omega
  rw [← getElem_searchRegion inside]
  exact leastOf_le (List.getElem_mem inside)

/-- And before the index of the minimum every one is above it. -/
theorem leastOf_searchRegion_lt (lo : n / 2 - r ≤ i) (before : i < minimumIndex n r P) :
    leastOf (searchRegion n r P) < sampleAt P i := by
  have last := minimumIndex_le hP hr
  refine lt_of_le_of_ne (leastOf_searchRegion_le hP hr lo (by omega)) fun same => ?_
  obtain ⟨p, rfl⟩ := Nat.exists_eq_add_of_le lo
  have earlier : p < (searchRegion n r P).idxOf (leastOf (searchRegion n r P)) := by
    unfold minimumIndex at before
    omega
  have inside : p < (searchRegion n r P).length := earlier.trans_le List.idxOf_le_length
  rw [← getElem_searchRegion inside] at same
  exact absurd same.symm (by simpa using List.not_of_lt_findIdx earlier)

end Minimum

/-! ## The edges (R108, R109) -/

section Edges
variable {P : List Nat} {lo c hi t j k : Nat}

theorem leftEdge_eq_none (below : ∀ i, lo ≤ i → i < c → sampleAt P i < t) : leftEdge P lo c t = .none := by
  simp only [leftEdge, List.find?_eq_none, List.mem_map, List.mem_reverse, List.mem_range, decide_eq_true_eq, Nat.not_le]
  rintro _ ⟨i, hi, rfl⟩
  exact below _ (Nat.le_add_right ..) (by omega)

theorem leftEdge_eq_some (first : lo ≤ j) (before : j < c) (at_j : t ≤ sampleAt P j)
    (below : ∀ i, j < i → i < c → sampleAt P i < t) : leftEdge P lo c t = .some j := by
  refine List.find?_eq_some_iff_getElem.2 ⟨decide_eq_true at_j, c - 1 - j, ?_, ?_, fun i hi => ?_⟩
  · simp only [List.length_map, List.length_reverse, List.length_range]
    omega
  · simp only [List.getElem_map, List.getElem_reverse, List.getElem_range, List.length_range]
    omega
  · simp only [List.getElem_map, List.getElem_reverse, List.getElem_range, List.length_range, Bool.not_eq_eq_eq_not,
      Bool.not_true, decide_eq_false_iff_not, Nat.not_le]
    exact below _ (by omega) (by omega)

theorem rightEdge_eq_none (below : ∀ i, c < i → i ≤ hi → sampleAt P i < t) : rightEdge P c hi t = .none := by
  simp only [rightEdge, List.find?_eq_none, List.mem_map, List.mem_range, decide_eq_true_eq, Nat.not_le]
  rintro _ ⟨i, hi, rfl⟩
  exact below _ (by omega) (by omega)

theorem rightEdge_eq_some (after : c < k) (last : k ≤ hi) (at_k : t ≤ sampleAt P k)
    (below : ∀ i, c < i → i < k → sampleAt P i < t) : rightEdge P c hi t = .some k := by
  refine List.find?_eq_some_iff_getElem.2 ⟨decide_eq_true at_k, k - (c + 1), ?_, ?_, fun i hi => ?_⟩
  · simp only [List.length_map, List.length_range]
    omega
  · simp only [List.getElem_map, List.getElem_range]
    omega
  · simp only [List.getElem_map, List.getElem_range, Bool.not_eq_eq_eq_not, Bool.not_true, decide_eq_false_iff_not,
      Nat.not_le]
    exact below _ (by omega) (by omega)

/-- A threshold crossed between two samples lies less than a pixel from the higher one. -/
theorem crossing_lt {p q : Nat} (above : t ≤ p) (below : q < t) : 16 * (p - t) / (p - q) < 16 :=
  Nat.div_lt_of_lt_mul (by omega)

/-- The edge positions lie on their sides of a sample between the edges. -/
theorem leftPosition_le_rightPosition (before : j < c) (after : c < k)
    (at_j : t ≤ sampleAt P j) (next : sampleAt P (j + 1) < t) (at_k : t ≤ sampleAt P k) (prev : sampleAt P (k - 1) < t) :
    leftPosition P j t ≤ rightPosition P k t := by
  have left := crossing_lt at_j next
  have right := crossing_lt at_k prev
  unfold leftPosition rightPosition
  omega

end Edges

/-! ## The profile measured (R106 to R112) -/

theorem withResult_eq (w : EngineWork) (a : Axis) (d : Nat) (off : Int) (flag : Bool) : w.withResult a d off flag
    = { w with
        d1 := if a = .horizontal then .some d else w.d1, dx := if a = .horizontal then .some off else w.dx
        d2 := if a = .vertical then .some d else w.d2, dy := if a = .vertical then .some off else w.dy
        offCentre := w.offCentre || flag } := by
  cases a <;> rfl

/-- The minimum of a profile's search region (R105). -/
def dipMinimum (inp : EngineInputs) (a : Axis) (P : List Nat) : Nat :=
  leastOf (searchRegion (axisSamples a) (axisHalfWidth inp a) P)

/-- The lowest index of the region that holds the minimum of a profile (R105). -/
def dipIndex (inp : EngineInputs) (a : Axis) (P : List Nat) : Nat := minimumIndex (axisSamples a) (axisHalfWidth inp a) P

/-- The threshold, midway between the background and the minimum (R107). -/
def dipThreshold (inp : EngineInputs) (a : Axis) (P : List Nat) : Nat :=
  (background (axisSamples a) P + dipMinimum inp a P) / 2

/-- The minimum of a profile lies the contrast below its background (R106). -/
def DipFound (inp : EngineInputs) (a : Axis) (P : List Nat) : Prop :=
  dipMinimum inp a P + inp.contrast * inp.bandW ≤ background (axisSamples a) P

/-- The left edge sample of a profile (R108). -/
def dipLeftEdge (inp : EngineInputs) (a : Axis) (P : List Nat) : Option Nat :=
  leftEdge P (axisSamples a / 2 - axisHalfWidth inp a) (dipIndex inp a P) (dipThreshold inp a P)

/-- The right edge sample of a profile (R109). -/
def dipRightEdge (inp : EngineInputs) (a : Axis) (P : List Nat) : Option Nat :=
  rightEdge P (dipIndex inp a P) (axisSamples a / 2 + axisHalfWidth inp a) (dipThreshold inp a P)

/-- The working values that a profile with the edges `xL` and `xR`, at the samples `j` and `k`, leaves (R110 to R112). -/
def dipWork (inp : EngineInputs) (a : Axis) (P : List Nat) (w : EngineWork) (j k xL xR : Nat) : EngineWork :=
  EngineWork.withResult
    { w with
      profile := a, background := .some (background (axisSamples a) P), minimum := .some (dipMinimum inp a P)
      minIndex := .some (dipIndex inp a P), threshold := .some (dipThreshold inp a P)
      leftIndex := .some j, rightIndex := .some k, xL := .some xL, xR := .some xR
      length16 := .some (xR - xL), centre16 := .some ((xL + xR) / 2) }
    a (diagonalNm inp.scale inp.diagOffset (xR - xL)).toNat
    (offCentreNm inp.scale (displacement16 (axisSamples a) ((xL + xR) / 2)))
    (inp.offCentre ≠ 0 && 16 * inp.offCentre < (displacement16 (axisSamples a) ((xL + xR) / 2)).natAbs)

section Profile
variable {inp : EngineInputs} {a : Axis} {P : List Nat} {w : EngineWork} {j k : Nat}

theorem measureProfile_notFound (h : ¬ DipFound inp a P) : measureProfile inp a P w = .error .notFound :=
  if_pos (Nat.not_le.1 h)

theorem measureProfile_edgeLost (found : DipFound inp a P)
    (lost : dipLeftEdge inp a P = .none ∨ dipRightEdge inp a P = .none) : measureProfile inp a P w = .error .edgeLost := by
  refine (if_neg (Nat.not_lt.2 found)).trans ?_
  unfold dipLeftEdge dipRightEdge dipIndex dipThreshold dipMinimum at lost
  rcases lost with left | right
  · simp only [left]
  · simp only [right]
    split <;> rfl

theorem measureProfile_edges (found : DipFound inp a P) (left : dipLeftEdge inp a P = .some j)
    (right : dipRightEdge inp a P = .some k) : measureProfile inp a P w =
      let xL := leftPosition P j (dipThreshold inp a P)
      let xR := rightPosition P k (dipThreshold inp a P)
      if xR - xL < 128 then .error .tooSmall
      else if diagonalNm inp.scale inp.diagOffset (xR - xL) < 1 then .error .tooSmall
      else .ok (dipWork inp a P w j k xL xR) := by
  refine (if_neg (Nat.not_lt.2 found)).trans ?_
  rw [dipLeftEdge, dipIndex, dipThreshold, dipMinimum] at left
  rw [dipRightEdge, dipIndex, dipThreshold, dipMinimum] at right
  simp only [left, right]
  rfl

/-- The working values field by field. -/
theorem dipWork_eq (xL xR : Nat) :
    let away : Int := ((xL + xR) / 2 : Nat) - (8 * axisSamples a : Nat)
    let d : Int := (((xR - xL) * inp.scale + 8000) / 16000 : Nat) + inp.diagOffset
    let far : Bool := decide (inp.offCentre ≠ 0 ∧ 16 * inp.offCentre < away.natAbs)
    let off := roundAway (away * inp.scale) 16000
    dipWork inp a P w j k xL xR =
      { w with
        profile := a, background := .some (background (axisSamples a) P), minimum := .some (dipMinimum inp a P)
        minIndex := .some (dipIndex inp a P), threshold := .some (dipThreshold inp a P)
        leftIndex := .some j, rightIndex := .some k, xL := .some xL, xR := .some xR
        length16 := .some (xR - xL), centre16 := .some ((xL + xR) / 2)
        d1 := if a = .horizontal then .some d.toNat else w.d1
        dx := if a = .horizontal then .some off else w.dx
        d2 := if a = .vertical then .some d.toNat else w.d2
        dy := if a = .vertical then .some off else w.dy
        offCentre := w.offCentre || far } := by
  intro away d far off
  have flag : far = (decide (inp.offCentre ≠ 0) && decide (16 * inp.offCentre < away.natAbs)) := Bool.decide_and ..
  rw [dipWork, withResult_eq, flag]
  rfl

end Profile

/-! ## The report (R102, R113, R120, R121) -/

section Report
variable {m : Measurement} {H V : List Nat} {w1 w2 : EngineWork} {why : Reason}

theorem measureReport_firstFailure (h : measureProfile m.inputs .horizontal H m.work = .error why) :
    measureReport m H V = .error why := by
  rw [measureReport, h]

theorem measureReport_secondFailure (h1 : measureProfile m.inputs .horizontal H m.work = .ok w1)
    (h2 : measureProfile m.inputs .vertical V w1 = .error why) : measureReport m H V = .error why := by
  rw [measureReport, h1]
  simp only [h2]

/-- The report of two measured profiles is of their pair. -/
theorem measureReport_pair {d1 d2 : Nat} {dx dy : Int} (h1 : measureProfile m.inputs .horizontal H m.work = .ok w1)
    (h2 : measureProfile m.inputs .vertical V w1 = .ok w2)
    (hd1 : w2.d1 = .some d1) (hd2 : w2.d2 = .some d2) (hdx : w2.dx = .some dx) (hdy : w2.dy = .some dy) :
    let e := evaluatePair m.inputs.method m.inputs.nominal m.inputs.asymmetry m.inputs.lower m.inputs.upper d1 d2
    measureReport m H V = .ok
      { d1 := d1, d2 := d2, hardness := e.hardness, verdict := e.verdict, offCentre := w2.offCentre
        asymmetric := e.asymmetric, aspect := e.aspect, overrange := e.overrange, dx := dx, dy := dy
        generation := m.inputs.generation } := by
  simp only [measureReport, h1, h2, hd1, hd2, hdx, hdy, Option.getD_some]

end Report

/-- Settles O59: the minimum is the leftmost least sample of the region, the edges are the nearest samples at or above the
threshold on its two sides, and the report takes the profiles in their order. -/
theorem profileIsMeasured : Obligations.ProfileIsMeasured := by
  constructor
  · intro inp a P w n R hP _ hR _ _ B fails
    have hn : n = axisSamples a := by cases a <;> rfl
    have hRa : R = axisHalfWidth inp a := by cases a <;> rfl
    have hB : B = background n P := (background_eq hP).symm
    clear_value n R B
    subst hn hRa hB
    have hr : axisHalfWidth inp a + 1 ≤ axisSamples a / 2 := by omega
    refine ⟨dipIndex inp a P, dipMinimum inp a P, Nat.le_add_right .., minimumIndex_le hP hr,
      sampleAt_minimumIndex hP hr,
      fun i lo hi => ⟨leastOf_searchRegion_le hP hr lo hi, leastOf_searchRegion_lt hP hr lo⟩,
      fun h => measureProfile_notFound (Nat.not_le.2 h), fun found => ?_⟩
    refine ⟨fun below => measureProfile_edgeLost found (.inl (leftEdge_eq_none below)),
      fun below => measureProfile_edgeLost found (.inr (rightEdge_eq_none below)), ?_⟩
    intro j k first before at_j belowJ after last at_k belowK xL xR away d far off
    have left : dipLeftEdge inp a P = .some j :=
      leftEdge_eq_some first before at_j fun i hj hi => belowJ i hj hi.le
    have right : dipRightEdge inp a P = .some k :=
      rightEdge_eq_some after last at_k fun i hi hk => belowK i hi.le hk
    have measured := measureProfile_edges (w := w) found left right
    have ordered : xL ≤ xR := leftPosition_le_rightPosition before after
      at_j (belowJ _ j.lt_succ_self before) at_k (belowK _ (Nat.le_sub_one_of_lt after) (Nat.sub_one_lt_of_lt after))
    refine ⟨ordered, fun short => ?_, fun long small => ?_, fun long large => ?_⟩
    · exact measured.trans (if_pos (Nat.sub_lt_left_of_lt_add ordered short))
    · exact measured.trans ((if_neg (Nat.le_sub_of_add_le' long).not_gt).trans (if_pos small))
    · exact measured.trans ((if_neg (Nat.le_sub_of_add_le' long).not_gt).trans ((if_neg large.not_gt).trans
        (congrArg Except.ok (dipWork_eq xL xR))))
  · exact fun m H V => ⟨fun why => measureReport_firstFailure, fun w1 h1 => ⟨fun why => measureReport_secondFailure h1,
      fun w2 d1 d2 dx dy h2 => measureReport_pair h1 h2⟩⟩

end Sys2Proof.Proofs.Measuring

/-! # The review desk's requests and the close of a review (R126 to R131, R141) -/

namespace Sys2Proof.Proofs.Review
open Sys2Proof Sys2Proof.Machine Sys2Proof.Proofs.Orders

variable {s : State} {src : Source} {seq d1 d2 : Nat} {v : Review} {o : Order} {x : Record}

/-! ## The open review of a seq, and the claim on it (R127, R128) -/

theorem reviewOf_closed (h : s.desk.review = .none) : reviewOf seq s = .none := by simp [reviewOf, h]

theorem reviewOf_otherSeq (hv : s.desk.review = .some v) (h : v.seq ≠ seq) : reviewOf seq s = .none := by
  simp [reviewOf, hv, Option.filter, h]

theorem reviewOf_open (hv : s.desk.review = .some v) (h : v.seq = seq) : reviewOf seq s = .some v := by
  simp [reviewOf, hv, Option.filter, h]

theorem claimCheck_closed (h : reviewOf seq s = .none) : claimCheck src seq s = .some .closed := by simp [claimCheck, h]

theorem claimCheck_unclaimed (h : reviewOf seq s = .some v) (hc : v.claimant = .none) :
    claimCheck src seq s = .some .badState := by simp [claimCheck, h, hc]

theorem claimCheck_taken (h : reviewOf seq s = .some v) (hc : v.claimant = .some src.port.other) :
    claimCheck src seq s = .some .taken := by simp [claimCheck, h, hc]

theorem claimCheck_claimant (h : reviewOf seq s = .some v) (hc : v.claimant = .some src.port) :
    claimCheck src seq s = .none := by simp [claimCheck, h, hc]

/-- A failed check refuses an entry and a rejection alike. -/
theorem refused_of_claimCheck {st : Status} (hl : s.cal.loaded = true) (h : claimCheck src seq s = .some st) :
    exec (.enterDiagonals src seq d1 d2) s = .next (answered (.enterDiagonals src seq d1 d2) src st [] s)
      ∧ exec (.rejectImpression src seq) s = .next (answered (.rejectImpression src seq) src st [] s) :=
  ⟨served hl (by simp only [decideEnter, h, Answer.refuse]), served hl (by simp only [decideReject, h, Answer.refuse])⟩

/-- A diagonal is in range from 1 to 3,000,000 (R128). -/
theorem diagonalInRange_iff {d : Nat} : diagonalInRange d = true ↔ 1 ≤ d ∧ d ≤ 3000000 := by
  rw [diagonalInRange, Bool.and_eq_true, decide_eq_true_eq, decide_eq_true_eq, Config.diagonalMax]

/-- Settles O36: each answer follows from the review found under the seq and its claimant. -/
theorem reviewIsClaimedAndChecked : Obligations.ReviewIsClaimedAndChecked := by
  refine ⟨fun src seq s hl => ?_, fun src seq d1 d2 s hl => ?_⟩
  · have closed (h : reviewOf seq s = .none) : decideClaim src seq s = Answer.refuse .closed s := by
      simp only [decideClaim, h]
    refine ⟨fun h => served hl (closed (reviewOf_closed h)),
      fun v hv => ⟨fun hs => ?_, fun hs hc => ?_, fun hs hc => ?_, fun hs hc => ?_⟩⟩
    · exact served hl (closed (reviewOf_otherSeq hv hs))
    · exact served hl (by simp only [decideClaim, reviewOf_open hv hs, hc]; rfl)
    · exact served hl (by simp only [decideClaim, reviewOf_open hv hs, hc, if_true]; rfl)
    · exact served hl (by simp only [decideClaim, reviewOf_open hv hs, hc, Port.other_ne, if_false]; rfl)
  · refine ⟨fun h => refused_of_claimCheck hl (claimCheck_closed (reviewOf_closed h)),
      fun v hv => ⟨fun hs => ?_, fun hs hc => ?_, fun hs hc => ?_, fun hs hc range => ?_⟩⟩
    · exact refused_of_claimCheck hl (claimCheck_closed (reviewOf_otherSeq hv hs))
    · exact refused_of_claimCheck hl (claimCheck_unclaimed (reviewOf_open hv hs) hc)
    · exact refused_of_claimCheck hl (claimCheck_taken (reviewOf_open hv hs) hc)
    · have bad : ¬(diagonalInRange d1 = true ∧ diagonalInRange d2 = true) := by
        rw [diagonalInRange_iff, diagonalInRange_iff]; omega
      refine served hl ?_
      simp only [decideEnter, claimCheck_claimant (reviewOf_open hv hs) hc, if_pos bad]
      rfl

/-! ## The close of a review over a desk in order (R131, R141) -/

/-- Steps 1 to 4 of a close: the review's record replaced in the store and reported to the owner, the desk cleared, and REVIEW
CLOSED behind the notices of both ports (R131). -/
def closedOver (v : Review) (o : Order) (out : ReviewOutcome) (x : Record) (s : State) : State :=
  let n : Notice := { kind := .reviewClosed, orderId := o.id, origin := .some o.origin, seq := v.seq
                      value := reviewOutcomeCode out }
  let post (q : LinkPort) : LinkPort := { q with notices := q.notices ++ [n], attention := true }
  { s with
    portA := post s.portA, portB := post s.portB, desk := { review := .none, window := .none }
    table := { s.table with orders := s.table.orders.map fun y => if y.id = o.id then reportRecord x y else y }
    store := { s.store with records := s.store.records.map fun y => if y.seq = v.seq then x else y } }

/-- Over a store in order a change under a record's seq replaces that record alone. -/
theorem changeRecord_eq_replace {change : Record → Record} (h : StoreFits s.store) (hx : x ∈ s.store.records) :
    s.store.records.map (fun y => if y.seq = x.seq then change y else y)
      = s.store.records.map fun y => if y.seq = x.seq then change x else y :=
  List.map_congr_left fun y hy => by
    split
    · next same =>
      have found := findRecord_eq h hy
      rw [same, findRecord_eq h hx] at found
      rw [Option.some.inj found]
    · rfl

/-- Over a desk in order a close that is a boundary runs steps 1 to 4 and then the boundary steps (R131). -/
theorem afterClose_closeReview {out : ReviewOutcome} {change : Record → Record} (hok : s.ReviewOk)
    (hv : s.desk.review = .some v) (ho : ownerOf s = .some o) (hx : x ∈ s.store.records) (hxv : x.seq = v.seq)
    (hA : s.portA.notices.length < 32) (hB : s.portB.notices.length < 32) :
    afterClose (closeReview out change s) = boundary (closedOver v o out (change x) s) := by
  obtain ⟨-, storeOk, waits, -, -, desk⟩ := hok
  have store := storeOk_iff.1 storeOk
  obtain ⟨hown, -⟩ := desk v hv
  obtain ⟨-, hid⟩ := ownerOf_some ho
  have hvo : v.orderId = o.id := Option.some.inj (hown.symm.trans hid)
  have order : findOrder v.orderId s = .some o := by simpa [ownerOf, hown] using ho
  have closed : closeReview out change s = closedOver v o out (change x) s := by
    rw [closeReview_eq hv (hxv ▸ findRecord_eq store hx) order hA hB, ← hxv, changeRecord_eq_replace store hx, hvo]
    simp only [closedOver, hxv]
  rw [afterClose, closed]
  exact if_pos (waits.1 (by simp [hv]))

/-- Settles O37: a claimant's entry and rejection, and the expiry of the window that an open review has, each close over the desk. -/
theorem reviewClosesInOrder : Obligations.ReviewClosesInOrder := by
  intro src v o x d1 d2 s hl hok hv ho hx hxv hA hB e closed
  have closes (out : ReviewOutcome) (change : Record → Record) :
      afterClose (closeReview out change s) = boundary (closed (reviewOutcomeCode out) (change x)) :=
    afterClose_closeReview hok hv ho hx hxv hA hB
  have claimed (hc : v.claimant = .some src.port) : claimCheck src v.seq s = .none :=
    claimCheck_claimant (reviewOf_open hv rfl) hc
  refine ⟨fun hc l1 u1 l2 u2 => served hl ?_, fun hc => served hl ?_, ?_⟩
  · have good : diagonalInRange d1 = true ∧ diagonalInRange d2 = true :=
      ⟨diagonalInRange_iff.2 ⟨l1, u1⟩, diagonalInRange_iff.2 ⟨l2, u2⟩⟩
    simp only [decideEnter, claimed hc, if_neg (not_not_intro good), ho, closes]
    rfl
  · simp only [decideReject, claimed hc, closes]
    rfl
  · obtain ⟨-, -, -, window, -⟩ := hok
    obtain ⟨k, hk⟩ := Option.isSome_iff_exists.1 (window.trans (by simp [hv]))
    simp only [exec, execWindowTimerExpiry, hk, hv, closes]
    rfl

end Sys2Proof.Proofs.Review

/-! # READ RESULTS (R142) -/

namespace Sys2Proof.Proofs.Results
open Sys2Proof Sys2Proof.Machine Sys2Proof.Proofs.Orders

/-- A max n of 0 is the record limit, and any other is held to it. -/
theorem readLimit_eq (longFrames : Bool) (maxN : Nat) :
    readLimit longFrames maxN
      = if maxN = 0 then (if longFrames then 18 else 4) else min maxN (if longFrames then 18 else 4) := by
  unfold readLimit Config.recordLimit
  generalize (if longFrames then 18 else 4) = limit
  by_cases h0 : maxN = 0
  · simp [h0]
  · simp only [h0, false_or, if_false]
    split <;> omega

/-- The next-from value follows the last record returned, and is the greater of the two seqs where none is. -/
theorem nextFrom_eq (first nextSeq : Nat) (out : List Record) :
    nextFrom first nextSeq out = (out.getLast?.map (·.seq + 1)).getD (max first nextSeq) := by
  unfold nextFrom
  cases out.getLast? <;> rfl

/-- The more flag is set where a record held has the next-from seq or a later one. -/
theorem flagCode_any_seq (records : List Record) (next : Nat) :
    flagCode (records.any fun r => decide (next ≤ r.seq)) = if ∃ r ∈ records, next ≤ r.seq then 1 else 0 := by
  simp only [flagCode, List.any_eq_true, decide_eq_true_eq]

/-- Settles O34: the records, their number, the next-from value and the more flag that the store decides on. -/
theorem readResultsReturnsTheRecords : Obligations.ReadResultsReturnsTheRecords := by
  intro src first maxN s hl limit out next
  have hout : readRecords (s.port src.port).options.longFrames first maxN s.store.records = out :=
    congrArg (fun n => List.take n _) (readLimit_eq _ maxN)
  refine served hl ?_
  simp only [decideReadResults, hout, nextFrom_eq, flagCode_any_seq]
  rfl

end Sys2Proof.Proofs.Results

/-! # Requests over the wire (R184, R192 to R194) -/

namespace Sys2Proof.Proofs.Results
open Sys2Proof Sys2Proof.Machine Sys2Proof.Proofs.Force

variable {src : Source} {k i w n : Nat} {parts : List (List Byte)}

/-! ## Fields read back -/

/-- A part that holds a number fitting it reads back. -/
theorem field_fits (k : Nat) (h : parts[k]? = .some (bytesOf w n)) (hi : (parts.take k).flatten.length = i)
    (hn : fitsBytes w n = true) : field parts.flatten i w = n :=
  field_number k h hi (by simpa [fitsBytes] using hn)

/-- A payload of one number reads back. -/
theorem field_whole (hn : fitsBytes w n = true) : field (bytesOf w n) 0 w = n := by
  rw [field, List.drop_zero, List.take_of_length_le (length_bytesOf w n).le]
  exact natOf_bytes hn

/-! ## The structured payloads -/

theorem openOrderOf_bytes {r : OpenOrderReq} (h : r.wf = true) : openOrderOf (openOrderBytes r) = r := by
  obtain ⟨kind, method, code, indenter, objective, mode, dwell, ramp, window, starvation, lowWater, threshold, lower, upper, limit,
    rh, rv, offCentre, bandW, contrast, asymmetry, frameLimit, defaults⟩ := r
  simp only [OpenOrderReq.wf, Bool.and_eq_true, and_assoc] at h
  obtain ⟨h0, h1, h2, h3, h4, h5, h6, h7, h8, h9, h10, h11, h12, h13, h14, h15, h16, h17, h18, h19, h20, h21, h22⟩ := h
  simp only [openOrderOf, OpenOrderReq.mk.injEq]
  exact ⟨field_fits 0 rfl rfl h0, field_fits 1 rfl rfl h1, field_fits 2 rfl rfl h2, field_fits 3 rfl rfl h3,
    field_fits 4 rfl rfl h4, field_fits 5 rfl rfl h5, field_fits 6 rfl rfl h6, field_fits 7 rfl rfl h7,
    field_fits 8 rfl rfl h8, field_fits 9 rfl rfl h9, field_fits 10 rfl rfl h10, field_fits 11 rfl rfl h11,
    field_fits 12 rfl rfl h12, field_fits 13 rfl rfl h13, field_fits 14 rfl rfl h14, field_fits 15 rfl rfl h15,
    field_fits 16 rfl rfl h16, field_fits 17 rfl rfl h17, field_fits 18 rfl rfl h18, field_fits 19 rfl rfl h19,
    field_fits 20 rfl rfl h20, field_fits 21 rfl rfl h21, field_fits 22 rfl rfl h22⟩

/-- The calibration fields read back behind the record number. -/
theorem calFieldsOf_bytes {rec : Nat} {f : CalFields} (h : f.wf = true) :
    calFieldsOf (bytesOf 1 rec ++ calFieldsBytes f) 1 = f := by
  obtain ⟨kind, x, y, scale, diagOffset, focus, gain⟩ := f
  simp only [CalFields.wf, Bool.and_eq_true, and_assoc] at h
  obtain ⟨h1, h2, h3, h4, h5, h6, h7⟩ := h
  simp only [calFieldsBytes, ← List.flatten_cons, calFieldsOf, CalFields.mk.injEq]
  exact ⟨field_fits 1 rfl rfl h1, signedField_number 2 rfl rfl h2, signedField_number 3 rfl rfl h3, field_fits 4 rfl rfl h4,
    signedField_number 5 rfl rfl h5, field_fits 6 rfl rfl h6, field_fits 7 rfl rfl h7⟩

theorem pointEntryOf_bytes {e : PointEntry} (h : e.wf = true) : pointEntryOf (pointEntryBytes e) = e := by
  obtain ⟨tag, x, y, depth⟩ := e
  simp only [PointEntry.wf, Bool.and_eq_true, and_assoc] at h
  obtain ⟨h1, h2, h3, h4⟩ := h
  have parts : pointEntryBytes ⟨tag, x, y, depth⟩
      = [bytesOf 2 tag, bytesOf 2 0, signedBytes 4 x, signedBytes 4 y, bytesOf 4 depth].flatten := by simp [pointEntryBytes]
  simp only [parts, pointEntryOf, PointEntry.mk.injEq]
  exact ⟨field_fits 0 rfl rfl h1, signedField_number 2 rfl rfl h2, signedField_number 3 rfl rfl h3, field_fits 4 rfl rfl h4⟩

/-- Every entry takes 16 bytes, so a run of entries is cut where its entries end. -/
theorem pointEntriesOf_bytes {l : List PointEntry} (h : ∀ e ∈ l, e.wf = true) :
    pointEntriesOf l.length (l.flatMap pointEntryBytes) = l := by
  induction l with
  | nil => rfl
  | cons e l ih =>
    have len : (pointEntryBytes e).length = 16 := rfl
    rw [List.flatMap_cons, List.length_cons, pointEntriesOf, List.take_left' len, List.drop_left' len,
      pointEntryOf_bytes (h e List.mem_cons_self), ih fun x hx => h x (List.mem_cons_of_mem e hx)]

theorem addPoints_survives {r : AddPointsReq} (h : r.wf = true) :
    requestOf src 0x05 (payloadOf (.addPoints src r)) = .some (.addPoints src r) := by
  obtain ⟨id, last, points⟩ := r
  simp only [AddPointsReq.wf, Bool.and_eq_true, and_assoc, List.all_eq_true] at h
  obtain ⟨hid, hlen, hpoints⟩ := h
  have parts : payloadOf (.addPoints src ⟨id, last, points⟩)
      = [bytesOf 2 id, bytesOf 1 points.length, bytesOf 1 (flagCode last), points.flatMap pointEntryBytes].flatten := by
    simp [payloadOf]
  have hdrop : (payloadOf (.addPoints src ⟨id, last, points⟩)).drop 4 = points.flatMap pointEntryBytes := rfl
  have count : field (payloadOf (.addPoints src ⟨id, last, points⟩)) 2 1 = points.length := by
    rw [parts]; exact field_fits 1 rfl rfl hlen
  have flag : field (payloadOf (.addPoints src ⟨id, last, points⟩)) 3 1 = flagCode last := by
    rw [parts]; exact field_number 2 rfl rfl (flagCode_lt last)
  simp only [requestOf, count, flag, hdrop, pointEntriesOf_bytes hpoints, Option.some.injEq, Instr.addPoints.injEq,
    AddPointsReq.mk.injEq, true_and, and_true]
  refine ⟨?_, by cases last <;> rfl⟩
  rw [parts]; exact field_fits 0 rfl rfl hid

theorem setLink_survives {r : SetLinkReq} (h : r.wf = true) :
    requestOf src 0x03 (payloadOf (.setLink src r)) = .some (.setLink src r) := by
  obtain ⟨longFrames, broadcast, group, overrunClear, clearCounters⟩ := r
  simp only [SetLinkReq.wf, Bool.and_eq_true, and_assoc] at h
  obtain ⟨h0, h1, h2, h3, h4⟩ := h
  have parts : payloadOf (.setLink src ⟨longFrames, broadcast, group, overrunClear, clearCounters⟩)
      = [bytesOf 1 longFrames, bytesOf 1 broadcast, bytesOf 1 group, bytesOf 1 overrunClear, bytesOf 1 clearCounters].flatten := by
    simp [payloadOf]
  simp only [parts, requestOf, Option.some.injEq, Instr.setLink.injEq, SetLinkReq.mk.injEq, true_and]
  exact ⟨field_fits 0 rfl rfl h0, field_fits 1 rfl rfl h1, field_fits 2 rfl rfl h2, field_fits 3 rfl rfl h3,
    field_fits 4 rfl rfl h4⟩

/-- Three numbers of one width read back in order. -/
theorem fields_three {a b c : Nat} (ha : fitsBytes w a = true) (hb : fitsBytes w b = true) (hc : fitsBytes w c = true) :
    field (bytesOf w a ++ bytesOf w b ++ bytesOf w c) 0 w = a ∧ field (bytesOf w a ++ bytesOf w b ++ bytesOf w c) w w = b
      ∧ field (bytesOf w a ++ bytesOf w b ++ bytesOf w c) (2 * w) w = c := by
  have parts : bytesOf w a ++ bytesOf w b ++ bytesOf w c = [bytesOf w a, bytesOf w b, bytesOf w c].flatten := by simp
  rw [parts]
  exact ⟨field_fits 0 rfl rfl ha, field_fits 1 rfl (by simp) hb, field_fits 2 rfl (by simp; omega) hc⟩

theorem readResults_survives {first maxN : Nat} (h1 : fitsBytes 4 first = true) (h2 : fitsBytes 1 maxN = true) :
    requestOf src 0x10 (payloadOf (.readResults src first maxN)) = .some (.readResults src first maxN) := by
  have parts : payloadOf (.readResults src first maxN) = [bytesOf 4 first, bytesOf 1 maxN].flatten := by simp [payloadOf]
  simp only [parts, requestOf, Option.some.injEq, Instr.readResults.injEq, true_and]
  exact ⟨field_fits 0 rfl rfl h1, field_fits 1 rfl rfl h2⟩

theorem writeCalibration_survives {rec : Nat} {f : CalFields} (h1 : fitsBytes 1 rec = true) (h2 : f.wf = true) :
    requestOf src 0x14 (payloadOf (.writeCalibration src rec f)) = .some (.writeCalibration src rec f) := by
  simp only [payloadOf, requestOf, calFieldsOf_bytes h2, Option.some.injEq, Instr.writeCalibration.injEq, true_and, and_true]
  simp only [calFieldsBytes, ← List.flatten_cons]
  exact field_fits 0 rfl rfl h1

/-! ## Every request -/

/-- The KIND and the payload of a well-formed request spell it again. -/
theorem requestOf_payloadOf {i : Instr} (hw : i.wf = true) (hk : kindOf i = .some k) (hs : sourceOf i = .some src) :
    requestOf src k (payloadOf i) = .some i := by
  cases i <;> simp only [kindOf, sourceOf, reduceCtorEq, Option.some.injEq] at hk hs
  all_goals subst hk hs; simp only [Instr.wf, Bool.and_eq_true, and_assoc] at hw
  case readState | readNotices | holdAll | resumeAll | takeHead | freeHead => rfl
  case cancelOrder | holdOrder | resumeOrder | claimReview | rejectImpression | releaseResults | readSummary | readCalibration =>
    simp only [payloadOf, requestOf, field_whole hw.2]
  case setLink => exact setLink_survives hw.2
  case openOrder => simp only [payloadOf, requestOf, openOrderOf_bytes hw.2]
  case addPoints => exact addPoints_survives hw.2
  case readResults => exact readResults_survives hw.2.1 hw.2.2
  case writeCalibration => exact writeCalibration_survives hw.2.1 hw.2.2
  case enterDiagonals | setLamp | setInputs =>
    obtain ⟨-, ha, hb, hc⟩ := hw
    obtain ⟨e1, e2, e3⟩ := fields_three ha hb hc
    simp only [payloadOf, requestOf, e1, e2, e3]

open Sys2Proof.Laws in
theorem payloadOf_length (i : Instr) : PayloadLength.Statement i := by
  cases i with
  | readState => exact PayloadLength.readState _
  | readNotices => exact PayloadLength.readNotices _
  | setLink => exact PayloadLength.setLink _ _
  | openOrder => exact PayloadLength.openOrder _ _
  | addPoints => exact PayloadLength.addPoints _ _
  | cancelOrder => exact PayloadLength.cancelOrder _ _
  | holdOrder => exact PayloadLength.holdOrder _ _
  | resumeOrder => exact PayloadLength.resumeOrder _ _
  | holdAll => exact PayloadLength.holdAll _
  | resumeAll => exact PayloadLength.resumeAll _
  | takeHead => exact PayloadLength.takeHead _
  | freeHead => exact PayloadLength.freeHead _
  | claimReview => exact PayloadLength.claimReview _ _
  | enterDiagonals => exact PayloadLength.enterDiagonals _ _ _ _
  | rejectImpression => exact PayloadLength.rejectImpression _ _
  | readResults => exact PayloadLength.readResults _ _ _
  | releaseResults => exact PayloadLength.releaseResults _ _
  | readSummary => exact PayloadLength.readSummary _ _
  | readCalibration => exact PayloadLength.readCalibration _ _
  | writeCalibration => exact PayloadLength.writeCalibration _ _ _
  | setLamp => exact PayloadLength.setLamp _ _ _ _
  | setInputs => exact PayloadLength.setInputs _ _ _ _
  | _ => exact fun _ _ hk => nomatch hk

end Sys2Proof.Proofs.Results

/-! # The layouts of records, notices and summaries (11.8) -/

namespace Sys2Proof.Proofs.Results
open Sys2Proof Sys2Proof.Machine Sys2Proof.Proofs.Force

variable {parts : List (List Byte)} {i : Nat}

/-! ## Codes and their fields -/

/-- A one-byte code reads back. -/
theorem field_code (k : Nat) {c : Nat} (h : parts[k]? = .some (bytesOf 1 c)) (hi : (parts.take k).flatten.length = i)
    (hc : c < 256) : field parts.flatten i 1 = c := field_number k h hi (by omega)

theorem recStateCode_spec (q : RecState) : recStateCode q < 256
    ∧ (recStateCode q, q) ∈ [(1, .auto), (2, .manual), (3, .unmeasured), (4, .skipped), (5, RecState.review)] := by
  cases q <;> decide

theorem reasonCode_spec (w : Reason) : reasonCode w < 256
    ∧ (reasonCode w, w) ∈ [(0, .none), (1, .spacing), (2, .noContact), (3, .forceLost), (4, .interrupted), (5, .noImage),
        (6, .focusFail), (7, .notFound), (8, .edgeLost), (9, .tooSmall), (10, .rejected), (11, .reviewExpired),
        (12, .cancelled), (13, Reason.aborted)] := by
  cases w <;> decide

theorem verdictCode_spec (v : Verdict) : verdictCode v < 256
    ∧ (verdictCode v, v) ∈ [(0, .none), (1, .inBand), (2, .low), (3, Verdict.high)] := by
  cases v <;> decide

theorem methodCode_spec (m : Method) : methodCode m < 256 ∧ methodCode m = if m = .vickers then 0 else 1 := by
  cases m <;> decide

theorem noticeCode_spec (k : NoticeKind) : noticeCode k < 256
    ∧ (noticeCode k, k) ∈ [(1, .orderStarted), (2, .orderYielded), (3, .orderEnded), (4, .pointsLow), (5, .resultsWaiting),
        (6, .reviewOpen), (7, .reviewClosed), (8, .interlock), (9, .headLock), (10, .calWritten), (11, .calFault),
        (12, NoticeKind.linkOverrun)] := by
  cases k <;> decide

theorem portCode_eq (p : Option Port) : portCode p = if p = .none then 0 else if p = .some .A then 1 else 2 := by
  rcases p with _ | _ | _ <;> rfl

theorem orderKindCode_spec (k : OrderKind) : orderKindCode k < 256
    ∧ (orderKindCode k, k) ∈ [(0, .single), (1, .pattern), (2, OrderKind.traverse)] := by
  cases k <;> decide

theorem outcomeCode_spec (o : OrderOutcome) : outcomeCode o < 256
    ∧ (outcomeCode o, o) ∈ [(1, .completed), (2, .cancelled), (3, OrderOutcome.aborted)] := by
  cases o <;> decide

theorem abortCode_spec (a : Option AbortReason) : abortCode a < 256
    ∧ (abortCode a, a) ∈ [(0, .none), (1, .some .motionFault), (2, .some .turretFault), (3, .some AbortReason.estop)] := by
  rcases a with _ | a
  · decide
  · cases a <;> decide

/-- PENDING, which no summary carries, has no code of its own. -/
theorem caseStatusCode_spec (c : CaseStatus) : caseStatusCode c < 256
    ∧ (c ≠ .pending → (caseStatusCode c, c)
        ∈ [(0, .none), (1, .found), (2, .surfaceBelow), (3, .notReached), (4, CaseStatus.noResult)]) := by
  cases c <;> decide

/-- The flags word holds one bit for each flag. -/
theorem flagsWord_spec (f : RecFlags) : flagsWord f < 256 ^ 2 ∧
    let bit (b : Bool) (n : Nat) : Nat := if b then 2 ^ n else 0
    flagsWord f = bit f.asymmetric 0 + bit f.aspect 1 + bit f.offCentre 2 + bit f.overrange 3 + bit f.deviation 4
      + bit f.softFocus 5 := by
  have le (b : Bool) : flagCode b ≤ 1 := by cases b <;> decide
  have shifted (b : Bool) (n : Nat) : 2 ^ n * flagCode b = if b then 2 ^ n else 0 := by cases b <;> simp [flagCode]
  refine ⟨?_, ?_⟩
  · have := le f.asymmetric; have := le f.aspect; have := le f.offCentre
    have := le f.overrange; have := le f.deviation; have := le f.softFocus
    unfold flagsWord; omega
  · simp only [← shifted, flagsWord]; omega

/-- An absent depth is sent as all ones. -/
theorem orOnes_lt {v : Option Nat} (h : v.getD 0 < 2 ^ 32) : orOnes v < 256 ^ 4 := by
  cases v with
  | none => decide
  | some n => exact h

theorem fitsSigned_four {v : Int} (h : -2 ^ 31 ≤ v ∧ v < 2 ^ 31) : fitsSigned 4 v = true := by
  simp only [fitsSigned, Bool.and_eq_true, decide_eq_true_eq]; omega

/-- A name stands under the code that its one-byte field holds. -/
theorem field_named {α : Type} {names : List (Nat × α)} {x : α} {c : Nat} (k : Nat) (h : parts[k]? = .some (bytesOf 1 c))
    (hi : (parts.take k).flatten.length = i) (hc : c < 256 ∧ (c, x) ∈ names) : (field parts.flatten i 1, x) ∈ names := by
  rw [field_code k h hi hc.1]; exact hc.2

theorem signedField_four (k : Nat) {v : Int} (h : parts[k]? = .some (signedBytes 4 v)) (hi : (parts.take k).flatten.length = i)
    (hv : -2 ^ 31 ≤ v ∧ v < 2 ^ 31) : signedField parts.flatten i 4 = v := signedField_number k h hi (fitsSigned_four hv)

/-- The parts of a notice, joined. -/
theorem noticeBytes_parts (n : Notice) : noticeBytes n
    = [bytesOf 1 (noticeCode n.kind), bytesOf 1 (portCode n.origin), bytesOf 2 n.orderId, bytesOf 4 n.seq,
        bytesOf 4 n.value].flatten := by
  simp [noticeBytes]

/-! ## The layouts -/

/-- Settles O14: a request reads back part by part, and each value of a record, a notice and a summary stands in the part of its
place, and fits it. -/
theorem requestsSurviveTheWire : Obligations.RequestsSurviveTheWire := by
  refine ⟨?request, ?record, ?notice, ?summary⟩
  case request =>
    intro i src k hw hk hs
    obtain ⟨kind, length⟩ := payloadOf_length i hw k hk
    exact ⟨kind, length, requestOf_payloadOf hw hk hs⟩
  case record =>
    intro r hseq hid htag hcode hframes hdepth hd1 hd2 hh hachieved hgen hsigned b bit
    simp only [List.forall_mem_cons] at hsigned
    obtain ⟨hx, hy, hpeak, hdx, hdy, -⟩ := hsigned
    obtain ⟨flagsFit, flags⟩ := flagsWord_spec r.flags
    obtain ⟨methodFit, method⟩ := methodCode_spec r.method
    exact ⟨rfl, field_number 0 rfl rfl hseq, field_number 1 rfl rfl hid, field_number 2 rfl rfl htag,
      field_named 3 rfl rfl (recStateCode_spec _), field_named 4 rfl rfl (reasonCode_spec _),
      (field_code 5 rfl rfl methodFit).trans method, field_code 6 rfl rfl hcode,
      field_named 7 rfl rfl (verdictCode_spec _), field_code 8 rfl rfl hframes,
      (field_number 9 rfl rfl flagsFit).trans flags, signedField_four 10 rfl rfl hx, signedField_four 11 rfl rfl hy,
      field_number 12 rfl rfl (orOnes_lt hdepth), field_number 13 rfl rfl hd1, field_number 14 rfl rfl hd2,
      field_number 15 rfl rfl hh, signedField_four 16 rfl rfl hpeak, field_number 17 rfl rfl hachieved,
      field_number 18 rfl rfl hgen, signedField_four 19 rfl rfl hdx, signedField_four 20 rfl rfl hdy⟩
  case notice =>
    intro n hid hseq hvalue b
    simp only [b, noticeBytes_parts]
    exact ⟨rfl, field_named 0 rfl rfl (noticeCode_spec _), (field_code 1 rfl rfl (portCode_lt _)).trans (portCode_eq _),
      field_number 2 rfl rfl hid, field_number 3 rfl rfl hseq, field_number 4 rfl rfl hvalue⟩
  case summary =>
    intro m hid hcode hcounts hoptional b
    simp only [List.forall_mem_cons] at hcounts hoptional
    obtain ⟨htaken, hauto, hmanual, hunmeasured, hskipped, hdiscarded, hin, hlow, hhigh, -⟩ := hcounts
    obtain ⟨hmin, hmax, hmean, hcase, hfirst, hlast, -⟩ := hoptional
    obtain ⟨methodFit, method⟩ := methodCode_spec m.method
    obtain ⟨statusFit, status⟩ := caseStatusCode_spec m.caseStatus
    have origin : portCode (.some m.origin) = if m.origin = .A then 1 else 2 := by cases m.origin <;> rfl
    exact ⟨rfl, field_number 0 rfl rfl hid, (field_code 1 rfl rfl (portCode_lt _)).trans origin,
      field_named 2 rfl rfl (orderKindCode_spec _), (field_code 3 rfl rfl methodFit).trans method,
      field_code 4 rfl rfl hcode, field_named 5 rfl rfl (outcomeCode_spec _), field_named 6 rfl rfl (abortCode_spec _),
      field_number 7 rfl rfl htaken, field_number 8 rfl rfl hauto, field_number 9 rfl rfl hmanual,
      field_number 10 rfl rfl hunmeasured, field_number 11 rfl rfl hskipped, field_number 12 rfl rfl hdiscarded,
      field_number 13 rfl rfl hin, field_number 14 rfl rfl hlow, field_number 15 rfl rfl hhigh,
      field_number 16 rfl rfl hmin, field_number 17 rfl rfl hmax, field_number 18 rfl rfl hmean,
      fun pending => field_named 19 rfl rfl ⟨statusFit, status pending⟩, field_number 20 rfl rfl (flagCode_lt _),
      field_number 21 rfl rfl (by decide), field_number 22 rfl rfl (orOnes_lt hcase), field_number 23 rfl rfl hfirst,
      field_number 24 rfl rfl hlast⟩

end Sys2Proof.Proofs.Results

/-! # What becomes of the records on the way through a command (R131, R137, R139 to R141)

A command writes records under new seqs, changes the record of the open review in place or takes it back, and releases records.  Each
operation adds one of these to the way from the state `a` in which the command began; `RecordsKept` is what all of them keep. -/

namespace Sys2Proof.Proofs.Results
open Sys2Proof Sys2Proof.Machine Sys2Proof.Proofs.Orders Sys2Proof.Proofs.Store

variable {a s t : State} {o : Order}

/-! ## Where a record comes from -/

/-- The seq of the open review. -/
def openSeq (s : State) : Option Nat := s.desk.review.map (·.seq)

/-- State and reason are one of the pairs of R137. -/
def Paired (r : Record) : Prop := r.reason ∈ r.state.reasons

/-- Every record is one of the pairs of R137, and the one under review is in state REVIEW. -/
structure PairsFit (s : State) : Prop where
  paired : ∀ r ∈ s.store.records, Paired r
  review : ∀ r ∈ s.store.records, openSeq s = .some r.seq → r.state = .review

/-- A record held once the next seq is `n`: it was held in `a`, or it is the record of the review that was open in `a`, or it was
written since. -/
inductive Descent (a : State) (n : Nat) (r : Record) : Prop
  | same (held : r ∈ a.store.records)
  | reviewed (opened : openSeq a = .some r.seq) (held : r.seq ∈ a.store.records.map (·.seq))
  | written (given : a.store.nextSeq ≤ r.seq) (below : r.seq < n)

theorem Descent.mono {n m : Nat} {r : Record} (h : Descent a n r) (le : n ≤ m) : Descent a m r := by
  cases h with
  | same held => exact .same held
  | reviewed opened held => exact .reviewed opened held
  | written given below => exact .written given (below.trans_le le)

/-- What the way from `a` to `t` keeps of the records. -/
structure RecordsKept (a t : State) : Prop where
  below : ∀ r ∈ a.store.records, r.seq < a.store.nextSeq
  next : a.store.nextSeq ≤ t.store.nextSeq
  descent : ∀ r ∈ t.store.records, Descent a t.store.nextSeq r
  review : ∀ n, openSeq t = .some n → openSeq a = .some n ∨ a.store.nextSeq ≤ n
  pairs : PairsFit a → ∀ r ∈ t.store.records, Paired r

theorem RecordsKept.refl (h : ∀ r ∈ s.store.records, r.seq < s.store.nextSeq) : RecordsKept s s :=
  ⟨h, le_rfl, fun _ => .same, fun _ => .inl, PairsFit.paired⟩

/-- Records released or taken back, and a review closed without a record changed. -/
theorem RecordsKept.fewer (h : RecordsKept a s) (hr : t.store.records ⊆ s.store.records) (hn : t.store.nextSeq = s.store.nextSeq)
    (hd : ∀ n, openSeq t = .some n → openSeq s = .some n) : RecordsKept a t :=
  ⟨h.below, hn ▸ h.next, fun r hm => hn ▸ h.descent r (hr hm), fun n e => h.review n (hd n e),
    fun fit r hm => h.pairs fit r (hr hm)⟩

/-- The store and the desk stand. -/
theorem RecordsKept.quiet (h : RecordsKept a s) (e : t.store = s.store ∧ t.desk = s.desk) : RecordsKept a t := by
  obtain ⟨hs, hd⟩ := e
  exact h.fewer (by rw [hs]; exact List.Subset.refl _) (by rw [hs]) (by simp [openSeq, hd])

theorem RecordsKept.modPort (h : RecordsKept a s) (p : Port) (f : LinkPort → LinkPort) : RecordsKept a (s.modPort p f) :=
  h.quiet (by simp)

/-! ## Records written -/

theorem RecordsKept.writeRecord {r : Record} (h : RecordsKept a s) (hr : Paired r) : RecordsKept a (writeRecord o r s) := by
  obtain ⟨records, nextSeq, -⟩ := writeRecord_store o r s
  refine ⟨h.below, ?_, fun x hx => ?_, fun n e => h.review n (by simpa [openSeq] using e), fun fit x hx => ?_⟩
  · rw [nextSeq]; exact h.next.trans (Nat.le_succ _)
  · rw [records] at hx
    rw [nextSeq]
    rcases List.mem_append.1 hx with hx | hx
    · exact (h.descent x hx).mono (Nat.le_succ _)
    · obtain rfl := List.mem_singleton.1 hx
      exact .written h.next (Nat.lt_succ_self _)
  · rw [records] at hx
    rcases List.mem_append.1 hx with hx | hx
    · exact h.pairs fit x hx
    · obtain rfl := List.mem_singleton.1 hx
      exact hr

theorem RecordsKept.recordCurrent {st : RecState} {why : Reason} (h : RecordsKept a s) (hr : why ∈ st.reasons) :
    RecordsKept a (recordCurrent o st why s) := by
  rcases recordCurrent_cases o st why s with ⟨-, e⟩ | ⟨c, -, e⟩ <;> rw [e]
  · exact h
  · exact RecordsKept.quiet (h.writeRecord (o := o) (r := recordOf o c st why s) hr) ⟨rfl, rfl⟩

theorem RecordsKept.recordImpressions {why : Reason} (hr : why ∈ RecState.unmeasured.reasons) (l : List Impression)
    (h : RecordsKept a s) : RecordsKept a (recordImpressions o why l s) := by
  induction l generalizing s with
  | nil => exact h
  | cons i l ih => exact ih (h.writeRecord hr)

theorem RecordsKept.flushImpressions {why : Reason} (h : RecordsKept a s) (hr : why ∈ RecState.unmeasured.reasons) :
    RecordsKept a (flushImpressions o why s) :=
  (h.recordImpressions hr s.seq.impressions).quiet ⟨rfl, rfl⟩

theorem Mark.reason_unmeasured (m : Mark) : m.reason ∈ RecState.unmeasured.reasons := by cases m <;> decide

/-! ## The end of an order and the grant -/

theorem RecordsKept.endOrder {id : Nat} {out : OrderOutcome} {why : Option AbortReason} (h : RecordsKept a s) :
    RecordsKept a (endOrder id out why s) := by
  cases hf : findOrder id s with
  | none => simpa [Machine.endOrder, hf] using h
  | some o =>
    have hs := (endOrder_effect out why hf).2
    exact h.fewer (by simp [hs]) (by simp [hs]) (by simp [openSeq])

theorem RecordsKept.endOwner {id : Nat} {out : OrderOutcome} {why : Option AbortReason} (h : RecordsKept a s) :
    RecordsKept a (endOwner id out why s).1 :=
  RecordsKept.quiet (t := (considerGrant _).1) (h.endOrder (id := id) (out := out) (why := why)) (by simp)

/-- The impressions recorded, the points discarded and the owner ended (R27, R67). -/
theorem RecordsKept.windUp {id : Nat} {reason : Reason} {out : OrderOutcome} {why : Option AbortReason} (h : RecordsKept a s)
    (hr : reason ∈ RecState.unmeasured.reasons) :
    RecordsKept a (Machine.endOwner id out why (discardPoints o (Machine.flushImpressions o reason s))).1 :=
  RecordsKept.endOwner ((h.flushImpressions (o := o) hr).quiet (by simp))

/-! ## The boundary (R48) -/

theorem RecordsKept.takeImpression (h : RecordsKept a s) : RecordsKept a (takeImpression o s).1 := by
  unfold Machine.takeImpression
  split
  · exact h
  · next i rest _ =>
    have h1 : RecordsKept a (s.modSeq fun q => { q with impressions := rest, cur := .some (CurPoint.ofImpression i) }) :=
      h.quiet ⟨rfl, rfl⟩
    dsimp only
    split
    · exact h1.recordCurrent (Mark.reason_unmeasured _)
    · exact h1.quiet (by simp)

theorem RecordsKept.takePoint (h : RecordsKept a s) : RecordsKept a (takePoint o s).1 := by
  cases hp : o.points with
  | nil => simpa [Machine.takePoint, hp] using h
  | cons p rest =>
    have h1 : RecordsKept a (frontTaken o p rest s) := h.quiet (by simp)
    rw [takePoint_cons hp]
    split
    · exact h1.quiet (by simp)
    · exact h1.recordCurrent (by decide)

theorem RecordsKept.boundaryTake (h : RecordsKept a s) : RecordsKept a (boundaryTake o s).1 := by
  unfold Machine.boundaryTake
  split
  · split
    · exact h.endOwner
    · exact h.quiet (by simp)
  · split
    · exact h.quiet (by simp)
    · exact h.takePoint

theorem RecordsKept.boundaryRun (h : RecordsKept a s) : RecordsKept a (boundaryRun o s).1 := by
  have h1 (r : RoundPhase) : RecordsKept a (s.modSeq fun q => { q with round := r }) := h.quiet ⟨rfl, rfl⟩
  unfold Machine.boundaryRun
  split
  · exact h.boundaryTake
  · split
    · exact (h1 _).boundaryTake
    · split
      · exact h.takeImpression
      · split
        · exact (h1 _).takeImpression
        · exact h.boundaryTake

theorem RecordsKept.boundaryStep (h : RecordsKept a s) : RecordsKept a (boundaryStep s).1 := by
  unfold Machine.boundaryStep
  split
  · exact h
  · next o _ =>
    have h1 : RecordsKept a (updOrder o.id applyPending s) := h.quiet (by simp)
    split
    · exact h.windUp (by decide)
    · dsimp only
      split
      · exact h1.quiet (by simp)
      · exact h1.boundaryRun

theorem RecordsKept.boundary (h : RecordsKept a s) : RecordsKept a (boundary s) :=
  boundary_keeps (P := RecordsKept a) (fun _ h => h.boundaryStep) s h

theorem RecordsKept.afterGrant {r : State × Bool} (h : RecordsKept a r.1) : RecordsKept a (afterGrant r) := by
  unfold Machine.afterGrant
  split
  · exact h.boundary
  · exact h

theorem RecordsKept.grant (h : RecordsKept a s) : RecordsKept a (grant s) :=
  RecordsKept.afterGrant (r := considerGrant s) (h.quiet (by simp))

theorem RecordsKept.setLock {holder : Option Port} (h : RecordsKept a s) : RecordsKept a (setLock holder s) :=
  RecordsKept.grant (h.quiet (by simp))

theorem RecordsKept.cancelNow (h : RecordsKept a s) : RecordsKept a (cancelNow o s) :=
  RecordsKept.afterGrant (h.windUp (by decide))

/-! ## The review desk -/

/-- A failure opens a review over a record written in REVIEW, or writes the record UNMEASURED (R59, R125). -/
theorem RecordsKept.handleFailure {why : Reason} (h : RecordsKept a s) (hr : why ∈ failureReasons) :
    RecordsKept a (handleFailure why s) := by
  unfold Machine.handleFailure
  split
  · exact h
  · next o _ =>
    split
    · have written : RecordsKept a (Machine.recordCurrent o .review why s) := h.recordCurrent hr
      refine ⟨h.below, by simpa [openReview] using written.next, by simpa [openReview] using written.descent, fun n e => .inr ?_,
        by simpa [openReview] using written.pairs⟩
      obtain rfl : s.store.nextSeq = n := by simpa [openReview, openSeq] using e
      exact h.next
    · exact (h.recordCurrent (List.mem_append_right _ hr)).boundary

/-- A close changes the record of the review in place (R131, R141). -/
theorem RecordsKept.closeReview {out : ReviewOutcome} {change : Record → Record} (h : RecordsKept a s) (hc : Closes change)
    (hp : PairsFit a → ∀ x ∈ s.store.records, openSeq s = .some x.seq → Paired (change x)) :
    RecordsKept a (closeReview out change s) := by
  cases hv : s.desk.review with
  | none => simpa [Machine.closeReview, hv] using h
  | some v =>
    have hopen : openSeq s = .some v.seq := by simp [openSeq, hv]
    obtain ⟨hd, hs, -⟩ := closeReview_some (out := out) (change := change) hv
    refine ⟨h.below, by simpa [hs] using h.next, fun r hr => ?_, by simp [openSeq, hd], fun fit r hr => ?_⟩
    · rw [hs] at hr ⊢
      obtain ⟨x, hx, rfl⟩ := List.mem_map.1 hr
      split
      · next e =>
        cases h.descent x hx with
        | same held =>
          refine .reviewed ?_ (by rw [hc.seq]; exact List.mem_map_of_mem held)
          rw [hc.seq, e]
          refine (h.review _ hopen).resolve_right fun given => ?_
          have := h.below x held
          omega
        | reviewed opened held => exact .reviewed (by rwa [hc.seq]) (by rwa [hc.seq])
        | written given below => exact .written (by rwa [hc.seq]) (by rwa [hc.seq])
      · exact h.descent x hx
    · rw [hs] at hr
      obtain ⟨x, hx, rfl⟩ := List.mem_map.1 hr
      split
      · next e => exact hp fit x hx (e ▸ hopen)
      · exact h.pairs fit x hx

/-- A close UNMEASURED writes the reason it is given. -/
theorem RecordsKept.closeUnmeasured {out : ReviewOutcome} {why : Reason} (h : RecordsKept a s)
    (hr : why ∈ RecState.unmeasured.reasons) : RecordsKept a (Machine.closeReview out (Record.unmeasured why) s) :=
  h.closeReview (closes_unmeasured why) fun _ _ _ _ => hr

/-- A close MANUAL keeps the reason for which the review was opened. -/
theorem RecordsKept.closeManual {d1 d2 : Nat} (h : ∀ r ∈ s.store.records, r.seq < s.store.nextSeq) :
    RecordsKept s (Machine.closeReview .manual (manualRecord o d1 d2) s) := by
  refine (RecordsKept.refl h).closeReview (closes_manual o d1 d2) fun fit x hx e => ?_
  have paired := fit.paired x hx
  rw [Paired, fit.review x hx e] at paired
  exact paired

/-- A superseded review takes its record back (R134, R141). -/
theorem RecordsKept.supersedeReview (h : RecordsKept a s) : RecordsKept a (supersedeReview o s) := by
  cases hv : s.desk.review with
  | none => simpa [Machine.supersedeReview, hv] using h
  | some v =>
    cases hx : findRecord v.seq s with
    | none => simpa [Machine.supersedeReview, hv, hx] using h
    | some x =>
      have given : RecordsKept a (superseded v x s) := h.fewer (by simp) (by simp) (by simp [openSeq])
      rw [supersedeReview_some hv hx]
      exact given.quiet (by simp)

theorem RecordsKept.afterClose (h : RecordsKept a s) : RecordsKept a (afterClose s) := by
  unfold Machine.afterClose
  split
  · exact h.boundary
  · exact h

end Sys2Proof.Proofs.Results

/-! # The records through the cycle, the camera and the review desk -/

namespace Sys2Proof.Proofs.Results
open Sys2Proof Sys2Proof.Machine Sys2Proof.Proofs.Orders Sys2Proof.Proofs.Store

variable {a s t : State} {o : Order} {p : Port} {src : Source}

/-! ## The abort path, retracts, stops and unloads (R56, R61, R62, R66, R67) -/

theorem RecordsKept.abortRecords {why : AbortReason} (h : RecordsKept a s) : RecordsKept a (abortRecords why s) := by
  cases ho : ownerOf s with
  | none => simpa [Machine.abortRecords, ho] using h
  | some o =>
    have h1 : RecordsKept a (gathered s) := h.quiet ⟨rfl, rfl⟩
    have aborted : Reason.aborted ∈ (abortState s).reasons := by unfold abortState; split <;> decide
    rw [abortRecords_some why ho]
    exact RecordsKept.afterGrant ((h1.recordCurrent aborted).windUp (by decide))

theorem RecordsKept.abortPath {why : AbortReason} {spent : Bool} (h : RecordsKept a s) : RecordsKept a (abortPath why spent s) := by
  cases ho : ownerOf s with
  | none => simpa [Machine.abortPath, ho] using h
  | some o =>
    have h1 : RecordsKept a (halted s) := h.quiet (by simp [halted])
    have retracted : RecordsKept a (Machine.abortPath why false s) := by
      rw [abortPath_false why ho]
      split
      · exact (h1.closeUnmeasured (out := .aborted) (why := .aborted) (by decide)).quiet (by simp)
      · exact h1.quiet (by simp)
    cases spent
    · exact retracted
    · rw [abortPath_true why ho]
      exact retracted.abortRecords

theorem RecordsKept.finishRetract (h : RecordsKept a s) : RecordsKept a (finishRetract s) := by
  have h1 : RecordsKept a (retractOver s) := h.quiet ⟨rfl, rfl⟩
  rw [finishRetract_eq]
  split
  · exact (h1.recordCurrent (by decide)).boundary
  · exact (h1.recordCurrent (by decide)).boundary
  · exact h1.abortRecords
  · exact h1

theorem RecordsKept.finishStop (h : RecordsKept a s) : RecordsKept a (finishStop s) := by
  have h1 : RecordsKept a (stopOver s) := h.quiet ⟨rfl, rfl⟩
  rw [finishStop_eq]
  split
  · exact h1
  · split
    · split
      · exact (h1.recordCurrent (by decide)).boundary
      · split
        · exact h1.quiet (by simp)
        · exact RecordsKept.boundary (h1.quiet (by simp))
    · split
      · exact (h1.recordCurrent (by decide)).boundary
      · split <;> exact h1.quiet (by simp)

theorem RecordsKept.finishUnload (h : RecordsKept a s) : RecordsKept a (finishUnload s) := by
  have h1 : RecordsKept a (unloadOver s) := h.quiet ⟨rfl, rfl⟩
  rw [finishUnload_eq]
  split
  · split
    · exact (h1.recordCurrent (by decide)).boundary
    · split
      · exact RecordsKept.boundary (h1.quiet ⟨rfl, rfl⟩)
      · split
        · exact (h1.recordCurrent (Mark.reason_unmeasured _)).boundary
        · split <;> exact h1.quiet (by simp)
  · exact h1

theorem RecordsKept.judgeRest {motion : Bool} (h : RecordsKept a s) : RecordsKept a (judgeRest motion s) := by
  unfold Machine.judgeRest
  split
  · split
    · exact h.finishStop
    · exact h
  · split
    · split
      · exact h.finishRetract
      · exact h
    · split
      · exact h.finishUnload
      · exact h
    · exact h

/-! ## Samples, views and measurements -/

/-- Only a sample that ends an unload, a retract or a stop reaches the records. -/
theorem RecordsKept.judgeSample {count : Int} (h : RecordsKept a s) : RecordsKept a (judgeSample count s) := by
  unfold Machine.judgeSample
  split
  · exact h.judgeRest
  · split
    · exact h.quiet (by simp)
    · exact h.quiet (by simp)
    · exact h.quiet (by simp)
    · exact h.quiet (by simp)
    · exact h.judgeRest
    · exact h.judgeRest
    · exact h

theorem RecordsKept.chooseBank {b : BankId} {soft : Bool} (h : RecordsKept a s) : RecordsKept a (chooseBank b soft o s) :=
  h.quiet (by simp [Machine.chooseBank, noteFrames])

theorem RecordsKept.captureFailure {why : Reason} (h : RecordsKept a s) (hr : why ∈ failureReasons) :
    RecordsKept a (captureFailure why s) :=
  RecordsKept.handleFailure (h.quiet (by simp [noteFrames])) hr

theorem RecordsKept.judgeFocus {v : ViewParams} (h : RecordsKept a s) : RecordsKept a (judgeFocus v o s) := by
  unfold Machine.judgeFocus
  split
  · exact h
  · split
    · exact h.chooseBank
    · split
      · exact h
      · split
        · exact h.chooseBank
        · exact h.captureFailure (by decide)

/-- The work on a profile fails for one of the reasons of a measurement (R104 to R112). -/
theorem measureProfile_error {inp : EngineInputs} {axis : Axis} {l : List Nat} {w : EngineWork} {why : Reason}
    (h : measureProfile inp axis l w = .error why) : why ∈ failureReasons := by
  unfold measureProfile at h
  dsimp only at h
  repeat' split at h
  all_goals cases h
  all_goals decide

theorem measureReport_error {m : Measurement} {H V : List Nat} {why : Reason} (h : measureReport m H V = .error why) :
    why ∈ failureReasons := by
  unfold measureReport at h
  split at h
  · next he => cases h; exact measureProfile_error he
  · split at h
    · next he => cases h; exact measureProfile_error he
    · cases h

theorem RecordsKept.takeReport {r : Except Reason Measured} (h : RecordsKept a s)
    (hr : ∀ why, r = .error why → why ∈ failureReasons) : RecordsKept a (takeReport o r s) := by
  unfold Machine.takeReport
  split
  · exact h.handleFailure (hr _ rfl)
  · next m c _ =>
    have measured : Paired (measuredRecord o c m s) := by simp [Paired, measuredRecord, recordOf, RecState.reasons]
    exact RecordsKept.boundary ((h.writeRecord (o := o) measured).quiet ⟨rfl, rfl⟩)
  · exact h

/-! ## Holds and their end -/

theorem RecordsKept.resumeOwner (h : RecordsKept a s) : RecordsKept a (resumeOwner o s) := by
  have h1 : RecordsKept a (updOrder o.id (fun o => { o with status := .running }) s) := h.quiet (by simp)
  unfold Machine.resumeOwner
  dsimp only
  split
  · split
    · exact h1.quiet (by simp)
    · exact h1.boundary
  · exact h1.supersedeReview
  · exact h1

theorem RecordsKept.resumeEffect (h : RecordsKept a s) : RecordsKept a (resumeEffect o s) := by
  have h1 : RecordsKept a (updOrder o.id dropOwn s) := h.quiet (by simp)
  unfold Machine.resumeEffect
  split
  · exact h
  · dsimp only
    split
    · exact h1
    · split
      · exact h1.resumeOwner
      · split
        · exact h1.grant
        · exact h1

theorem RecordsKept.resumeAllEffect (h : RecordsKept a s) : RecordsKept a (resumeAllEffect s) := by
  have h1 : RecordsKept a (deviceDropped s) := h.quiet ⟨rfl, rfl⟩
  unfold Machine.resumeAllEffect
  refine RecordsKept.grant ?_
  split
  · exact h1
  · split
    · exact h1.resumeOwner
    · exact h1

/-! ## Requests of the order table, the store and the desk -/

theorem RecordsKept.afterAppend {id n : Nat} (h : RecordsKept a s) : RecordsKept a (afterAppend id n s) := by
  unfold Machine.afterAppend
  split
  · exact h
  · split
    · split
      · exact h.endOrder
      · split
        · exact h
        · exact h.grant
    · split
      · exact RecordsKept.boundary (h.quiet (by simp))
      · exact h

theorem RecordsKept.decideAddPoints {r : AddPointsReq} (h : RecordsKept a s) : RecordsKept a (decideAddPoints src r s).state := by
  unfold Machine.decideAddPoints
  split
  · exact h
  · split
    · exact h
    · exact RecordsKept.afterAppend (h.quiet (by simp))

theorem RecordsKept.cancelOwner (h : RecordsKept a s) : RecordsKept a (cancelOwner o s) := by
  have h1 : RecordsKept a (markCancel o s) := h.quiet ⟨rfl, rfl⟩
  unfold Machine.cancelOwner
  dsimp only
  split
  · exact h1
  · cases s.seq.state with
    | moveIndent | tare | approach | ramp | dwell => exact h1.quiet (by simp)
    | unload | moveView | settle | focus | measure | retract | idle => exact h1
    | reviewWait => exact (h1.closeUnmeasured (by decide)).cancelNow
    | awaitPoints => exact RecordsKept.cancelNow (h1.quiet (by simp))
    | storeWait => exact h1.cancelNow
    | paused => exact (h1.recordCurrent (by decide)).cancelNow

theorem RecordsKept.decideCancel {id : Nat} (h : RecordsKept a s) : RecordsKept a (decideCancel src id s).state := by
  unfold Machine.decideCancel
  split
  · exact h
  · unfold cancelEffect
    split
    · exact RecordsKept.endOrder (h.quiet (by simp))
    · split
      · exact h
      · exact h.cancelOwner

theorem RecordsKept.decideResume {id : Nat} (h : RecordsKept a s) : RecordsKept a (decideResume src id s).state := by
  unfold Machine.decideResume
  split
  · exact h
  · split
    · exact h.resumeEffect
    · exact h

theorem RecordsKept.decideTakeHead (h : RecordsKept a s) : RecordsKept a (decideTakeHead src s).state := by
  unfold Machine.decideTakeHead
  split
  · exact h.setLock
  · split <;> exact h

theorem RecordsKept.decideFreeHead (h : RecordsKept a s) : RecordsKept a (decideFreeHead src s).state := by
  unfold Machine.decideFreeHead
  split
  · exact h
  · split
    · exact h.setLock
    · exact h

theorem RecordsKept.decideReleaseResults {through : Nat} (h : RecordsKept a s) :
    RecordsKept a (decideReleaseResults src through s).state := by
  have h1 : RecordsKept a (s.modStore (releaseFrom src.port through)) :=
    h.fewer (by simp [releaseFrom]) (by simp [releaseFrom]) (by simp [openSeq])
  unfold Machine.decideReleaseResults
  dsimp only
  split
  · exact h1.boundary
  · exact h1

/-- A claim leaves the review its seq (R127). -/
theorem RecordsKept.decideClaim {seq : Nat} (h : RecordsKept a s) : RecordsKept a (decideClaim src seq s).state := by
  unfold Machine.decideClaim
  split
  · exact h
  · next v hv =>
    have hopen : openSeq s = .some v.seq := by
      obtain ⟨e, -⟩ := Option.filter_eq_some_iff.1 hv
      simp [openSeq, e]
    split
    · exact h.fewer (List.Subset.refl _) rfl fun n e => hopen.trans e
    · split <;> exact h

theorem recordsKept_decideEnter {seq d1 d2 : Nat} (h : ∀ r ∈ s.store.records, r.seq < s.store.nextSeq) :
    RecordsKept s (decideEnter src seq d1 d2 s).state := by
  unfold Machine.decideEnter
  split
  · exact .refl h
  · split
    · exact .refl h
    · split
      · exact .refl h
      · exact (RecordsKept.closeManual h).afterClose

theorem RecordsKept.decideReject {seq : Nat} (h : RecordsKept a s) : RecordsKept a (decideReject src seq s).state := by
  unfold Machine.decideReject
  split
  · exact h
  · exact (h.closeUnmeasured (by decide)).afterClose

theorem RecordsKept.decideWriteCalibration {rec : Nat} {f : CalFields} (h : RecordsKept a s) :
    RecordsKept a (decideWriteCalibration src rec f s).state := by
  have h1 : RecordsKept a (s.modCal (writeTable rec f src.port)) := h.quiet (by simp)
  unfold Machine.decideWriteCalibration
  split
  · exact h
  · dsimp only
    split
    · exact h1.grant
    · exact h1

end Sys2Proof.Proofs.Results

/-! # The records through every command (R137, R139) -/

namespace Sys2Proof.Proofs.Results
open Sys2Proof Sys2Proof.Machine Sys2Proof.Proofs.Orders Sys2Proof.Proofs.Store

variable {a s t : State} {o : Order} {p : Port} {src : Source}

/-! ## The interlocks and the links -/

theorem RecordsKept.afterDoor {was : Option DoorLevel} {now : DoorLevel} (h : RecordsKept a s) :
    RecordsKept a (afterDoor was now s) := by
  unfold Machine.afterDoor
  split
  · exact h
  · exact h.grant
  · exact h.quiet (by simp [doorOpened])
  · exact RecordsKept.grant (h.quiet (by simp))

theorem RecordsKept.afterEstop {was : Option EstopLevel} {now : EstopLevel} (h : RecordsKept a s) :
    RecordsKept a (afterEstop was now s) := by
  have posted (e : InterlockEvent) : RecordsKept a (postInterlock e s) := h.quiet (by simp)
  unfold Machine.afterEstop estopPressed
  split
  · exact h
  · exact h.grant
  · split
    · exact posted _
    · exact (posted _).abortPath
  · exact (posted _).grant

theorem RecordsKept.takeShared {f : RxFrame} (h : RecordsKept a s) : RecordsKept a (takeShared p f s) := by
  unfold Machine.takeShared
  split
  · next e =>
    unfold sharedEffect at e
    split at e
    · simp at e
    · split at e
      · obtain rfl := Option.some.inj e; exact h.quiet (by simp)
      · split at e
        · obtain rfl := Option.some.inj e; exact h.resumeAllEffect
        · split at e
          · rw [setLampEffect_frame e]; exact h.quiet ⟨rfl, rfl⟩
          · simp at e
  · exact h.modPort _ _

theorem RecordsKept.resetPort (h : RecordsKept a s) : RecordsKept a (resetPort p s) := by
  have cleared : RecordsKept a (portCleared p s) := by
    rw [portCleared, dropClaim_eq]
    refine h.fewer (by simp) (by simp) fun n e => ?_
    simp only [openSeq, State.setDesk_desk, State.modStore_desk, State.modPort_desk, Option.map_map] at e ⊢
    rw [← e]
    congr 1
    funext v
    dsimp only [Function.comp]
    split <;> rfl
  unfold Machine.resetPort dropLock
  split
  · exact cleared.setLock
  · exact cleared

/-! ## The events -/

theorem RecordsKept.frameTaken (h : RecordsKept a s) (e : execFrameTaken p s = .next t) : RecordsKept a t := by
  obtain rfl := Host.Outcome.next.inj e
  split
  · exact h
  · split
    · dsimp only
      split
      · exact (h.modPort _ _).takeShared
      · exact h.quiet (by simp)
    · exact h

theorem RecordsKept.portReset (h : RecordsKept a s) (e : execPortReset p s = .next t) : RecordsKept a t := by
  obtain rfl := Host.Outcome.next.inj e
  split
  · exact h.resetPort
  · exact h

theorem RecordsKept.stabilityTimerExpiry {i : InputName} (h : RecordsKept a s) (e : execStabilityTimerExpiry i s = .next t) :
    RecordsKept a t := by
  obtain rfl := Host.Outcome.next.inj e
  have h1 (f : Inputs → Inputs) : RecordsKept a (s.modInputs f) := h.quiet (by simp)
  cases i with
  | door =>
    dsimp only
    split
    · exact h
    · exact (h1 _).afterDoor
  | estop =>
    dsimp only
    split
    · exact h
    · exact (h1 _).afterEstop
  | station =>
    dsimp only
    split
    · exact h
    · exact h.quiet (by simp)

theorem RecordsKept.stgDone (h : RecordsKept a s) (e : execStgDone s = .next t) : RecordsKept a t := by
  have h1 : RecordsKept a (stageDone s) := h.quiet ⟨rfl, rfl⟩
  obtain rfl := Host.Outcome.next.inj e
  split
  · exact h
  · split
    · exact h1.quiet (by simp)
    · exact h1.judgeRest

theorem RecordsKept.stgFault (h : RecordsKept a s) (e : execStgFault s = .next t) : RecordsKept a t := by
  have h1 : RecordsKept a (stageDone s) := h.quiet ⟨rfl, rfl⟩
  obtain rfl := Host.Outcome.next.inj e
  split
  · exact h
  · split
    · exact h1
    · exact h1.abortPath

theorem RecordsKept.turDone (h : RecordsKept a s) (e : execTurDone s = .next t) : RecordsKept a t := by
  have h1 : RecordsKept a (turretDone s) := h.quiet ⟨rfl, rfl⟩
  obtain rfl := Host.Outcome.next.inj e
  split
  · exact h
  · split
    · exact h1.quiet (by simp)
    · exact h1.judgeRest

theorem RecordsKept.stageTimerExpiry (h : RecordsKept a s) (e : execStageTimerExpiry s = .next t) : RecordsKept a t := by
  have h1 : RecordsKept a (stageDone s) := h.quiet ⟨rfl, rfl⟩
  obtain rfl := Host.Outcome.next.inj e
  split
  · exact h
  · exact h1.abortPath

theorem RecordsKept.turretTimerExpiry (h : RecordsKept a s) (e : execTurretTimerExpiry s = .next t) : RecordsKept a t := by
  obtain rfl := Host.Outcome.next.inj e
  split
  · exact h
  · exact h.abortPath

theorem RecordsKept.loadSample {count : Int} (h : RecordsKept a s) (e : execLoadSample count s = .next t) : RecordsKept a t := by
  obtain rfl := Host.Outcome.next.inj e
  have sampled (f : ForceMonitor → ForceMonitor) : RecordsKept a (Machine.judgeSample count (s.modForce f)) :=
    RecordsKept.judgeSample (h.quiet (by simp))
  exact (sampled _).quiet ⟨rfl, rfl⟩

theorem RecordsKept.actRaised {level : Bool} (h : RecordsKept a s) (e : execActRaised level s = .next t) : RecordsKept a t := by
  obtain rfl := Host.Outcome.next.inj e
  split
  · exact h
  · exact RecordsKept.judgeRest (h.quiet (by simp))

theorem RecordsKept.unloadTimerExpiry (h : RecordsKept a s) (e : execUnloadTimerExpiry s = .next t) : RecordsKept a t := by
  obtain rfl := Host.Outcome.next.inj e
  split
  · exact h
  · exact h.abortPath

theorem RecordsKept.retractTimerExpiry (h : RecordsKept a s) (e : execRetractTimerExpiry s = .next t) : RecordsKept a t := by
  obtain rfl := Host.Outcome.next.inj e
  split
  · exact h
  · split
    · exact h.abortRecords
    · exact h.abortPath

theorem RecordsKept.starvationTimerExpiry (h : RecordsKept a s) (e : execStarvationTimerExpiry s = .next t) :
    RecordsKept a t := by
  obtain rfl := Host.Outcome.next.inj e
  split
  · split
    · exact RecordsKept.grant (h.quiet (by simp))
    · exact h
  · exact h

theorem RecordsKept.scoreReady (h : RecordsKept a s) (e : execScoreReady s = .next t) : RecordsKept a t := by
  obtain rfl := Host.Outcome.next.inj e
  split
  · split
    · exact RecordsKept.judgeFocus (h.quiet (by simp))
    · exact h
  · exact h

theorem RecordsKept.frameTimerExpiry (h : RecordsKept a s) (e : execFrameTimerExpiry s = .next t) : RecordsKept a t := by
  obtain rfl := Host.Outcome.next.inj e
  split
  · exact h
  · split
    · exact h.captureFailure (by decide)
    · exact h

theorem RecordsKept.measurementReport (h : RecordsKept a s) (e : execMeasurementReport s = .next t) : RecordsKept a t := by
  obtain rfl := Host.Outcome.next.inj e
  split
  · split
    · exact RecordsKept.takeReport (h.quiet (by simp)) fun _ => measureReport_error
    · exact h
  · exact h

theorem RecordsKept.windowTimerExpiry (h : RecordsKept a s) (e : execWindowTimerExpiry s = .next t) : RecordsKept a t := by
  obtain rfl := Host.Outcome.next.inj e
  split
  · exact (h.closeUnmeasured (by decide)).afterClose
  · exact h

/-! ## A command -/

/-- A request answered by what its owner decided. -/
theorem RecordsKept.served {cmd : Instr} {d : State → Answer} (h : RecordsKept a s) (e : Host.Outcome.next (serve cmd src d s)
    = (.next t : Host.Outcome State Fault Refusal)) (hd : RecordsKept a (d s).state) : RecordsKept a t := by
  obtain rfl := Host.Outcome.next.inj e
  unfold serve
  dsimp only
  split
  · exact (h.modPort _ _).modPort _ _
  · exact (hd.modPort _ _).modPort _ _

/-- Every command but COLD RESET keeps the records; most leave the store and the desk alone, as their frames say. -/
theorem recordsKept_exec {i : Instr} (below : ∀ r ∈ s.store.records, r.seq < s.store.nextSeq) (cold : ∀ pins, i ≠ .coldReset pins)
    (e : exec i s = .next t) : RecordsKept s t := by
  have h : RecordsKept s s := .refl below
  have frame := everyCommandKeepsItsFrame i s t e
  cases i with
  | coldReset pins => exact absurd rfl (cold pins)
  | startupLoadComplete _ | commitComplete _ | frameReceived _ _ | receiveGap _ | responseSent _ | lineBreak _ | readState _
  | readNotices _ | setLink _ _ | openOrder _ _ | holdOrder _ _ | holdAll _ | readResults _ _ _ | readSummary _ _
  | readCalibration _ _ | setLamp _ _ _ _ | setInputs _ _ _ _ | inputChange _ | approachTimerExpiry | frameStart
  | frameCompletion | lampTimebaseTick | lineMarker _ | pixelTaken _ =>
    have frame : t = _ := frame
    exact h.quiet ⟨(congrArg State.store frame).trans (by simp), (congrArg State.desk frame).trans (by simp)⟩
  | frameTaken p => exact h.frameTaken e
  | portReset p => exact h.portReset e
  | addPoints src r => exact h.served e h.decideAddPoints
  | cancelOrder src id => exact h.served e h.decideCancel
  | resumeOrder src id => exact h.served e h.decideResume
  | resumeAll src => exact h.served e h.resumeAllEffect
  | takeHead src => exact h.served e h.decideTakeHead
  | freeHead src => exact h.served e h.decideFreeHead
  | claimReview src seq => exact h.served e h.decideClaim
  | enterDiagonals src seq d1 d2 => exact h.served e (recordsKept_decideEnter below)
  | rejectImpression src seq => exact h.served e h.decideReject
  | releaseResults src through => exact h.served e h.decideReleaseResults
  | writeCalibration src rec f => exact h.served e h.decideWriteCalibration
  | stabilityTimerExpiry input => exact h.stabilityTimerExpiry e
  | stgDone => exact h.stgDone e
  | stgFault => exact h.stgFault e
  | turDone => exact h.turDone e
  | stageTimerExpiry => exact h.stageTimerExpiry e
  | turretTimerExpiry => exact h.turretTimerExpiry e
  | loadSample count => exact h.loadSample e
  | actRaised level => exact h.actRaised e
  | unloadTimerExpiry => exact h.unloadTimerExpiry e
  | retractTimerExpiry => exact h.retractTimerExpiry e
  | starvationTimerExpiry => exact h.starvationTimerExpiry e
  | scoreReady => exact h.scoreReady e
  | frameTimerExpiry => exact h.frameTimerExpiry e
  | measurementReport => exact h.measurementReport e
  | windowTimerExpiry => exact h.windowTimerExpiry e

/-! ## The records before and after (R137, R139) -/

/-- A record still held under its seq is the record it was, unless its review was open. -/
theorem RecordsKept.eq_of_seq_eq {r r' : Record} (h : RecordsKept a t) (increase : (a.store.records.map (·.seq)).Pairwise (· < ·))
    (hr : r ∈ a.store.records) (closed : openSeq a ≠ .some r.seq) (hr' : r' ∈ t.store.records) (e : r'.seq = r.seq) : r' = r := by
  cases h.descent r' hr' with
  | same held => exact List.inj_on_of_nodup_map (increase.imp Nat.ne_of_lt) held hr e
  | reviewed opened _ => exact absurd (e ▸ opened) closed
  | written given _ =>
    have := h.below r hr
    omega

theorem pairsFit_of_recordsOk (h : s.RecordsOk) : PairsFit s := by
  obtain ⟨⟨-, -, -, -, review, -⟩, paired⟩ := h
  exact ⟨paired, fun r hr => (review r hr).2⟩

/-- A command keeps the pairs; a cold reset leaves no record. -/
theorem paired_exec {i : Instr} (h : s.RecordsOk) (e : exec i s = .next t) : ∀ r ∈ t.store.records, Paired r := by
  obtain ⟨-, ⟨-, below, -⟩, -⟩ := h.1
  by_cases cold : ∃ pins, i = .coldReset pins
  · obtain ⟨pins, rfl⟩ := cold
    obtain rfl := Host.Outcome.next.inj e
    exact fun r hr => nomatch hr
  · exact (recordsKept_exec below (not_exists.1 cold) e).pairs (pairsFit_of_recordsOk h)

/-- Settles O13: each record held after a command was held before, or was under review, or was written by it. -/
theorem recordsKeepTheirSeqAndValues : Obligations.RecordsKeepTheirSeqAndValues := by
  refine ⟨fun i s t hs cold e => ?_, fun i s t hok cold e r hr final r' hr' same => ?_, fun s t h e => ?_⟩
  · obtain ⟨-, below, -⟩ := hs
    have kept := recordsKept_exec below cold e
    refine ⟨kept.next, fun r hr => ?_⟩
    cases kept.descent r hr with
    | same held => exact .inl (List.mem_map_of_mem held)
    | reviewed _ held => exact .inl held
    | written given below => exact .inr ⟨given, below⟩
  · obtain ⟨-, ⟨increase, below, -⟩, -, -, review, -⟩ := hok
    exact (recordsKept_exec below cold e).eq_of_seq_eq increase hr (mt (review r hr).2 final) hr' same
  · refine ⟨Indent.stepKeepsTheReviewInOrder s t h.1 e, ?_⟩
    unfold step at e
    split at e
    · obtain rfl := Host.Outcome.next.inj e
      exact h.2
    · next rest _ => exact paired_exec (s := { s with pending := rest }) h e

end Sys2Proof.Proofs.Results

/-! # The start-up load, the commit and the two requests of the calibration table (R155 to R163) -/

namespace Sys2Proof.Proofs.Calibration
open Sys2Proof Sys2Proof.Machine Sys2Proof.Proofs.Orders

variable {s : State} {src : Source} {rec : Nat} {f : CalFields}

/-! ## The start-up load (R157, R158) -/

/-- The condition of a record once the load has filled the table. -/
theorem conditionOf_loadTable (unreadable : List Nat) (s : State) (h : rec < 7) :
    conditionOf rec (s.modCal (loadTable unreadable)) = loadCondition unreadable s.cal rec := by
  simp [conditionOf, loadTable, h]

theorem loadCondition_fault {unreadable : List Nat} {c : CalTable} :
    loadCondition unreadable c rec = .loadFault ↔ loadPasses unreadable c rec = false := by
  unfold loadCondition
  split <;> simp [*]

/-- Posting a fault leaves the conditions by which the next record is judged. -/
@[simp] theorem conditionOf_postCalFault (k : Nat) (commit : Bool) (s : State) :
    conditionOf k (postCalFault rec commit s) = conditionOf k s := by
  simp [conditionOf, postCalFault]

/-- CAL FAULT, cause LOAD, carries the record's number alone (11.8). -/
theorem postCalFault_load (n : Nat) (s : State) : postCalFault n false s
    = postBoth { kind := .calFault, orderId := 0, origin := .none, seq := 0, value := n * 2 ^ 24 } s := by
  simp only [postCalFault, plainNotice, calFaultValue, flagCode, Nat.add_zero, Bool.false_eq_true, if_false]

/-- CAL FAULT, cause LOAD, for those of the listed records that are in LOAD_FAULT. -/
theorem postLoadFaults_eq_foldl (l : List Nat) (s : State) :
    postLoadFaults l s = (l.filter fun n => conditionOf n s = .loadFault).foldl (fun t n => postCalFault n false t) s := by
  induction l generalizing s with
  | nil => rfl
  | cons n rest ih =>
    rw [postLoadFaults, ih]
    split
    · next fault => simp [fault]
    · next sound => simp [sound]

/-- Settles O38: the conditions of the filled table say which records the faults are posted for. -/
theorem startupLoadFillsTheTable : Obligations.StartupLoadFillsTheTable := by
  refine fun unreadable s => ⟨fun loaded => ?_, fun loaded => ?_⟩
  · simp only [exec, execStartupLoadComplete, loaded, if_true]
  · have faulty : ((List.range 7).filter fun n => conditionOf n (s.modCal (loadTable unreadable)) = .loadFault)
        = (List.range 7).filter fun n => !loadPasses unreadable s.cal n :=
      List.filter_congr fun n hn => by
        simp [conditionOf_loadTable unreadable s (List.mem_range.1 hn), loadCondition_fault]
    intro active good faults filled
    have table : s.modCal (loadTable unreadable) = filled := rfl
    have posted : faults.foldl (fun t n => postBoth n t) filled
        = ((List.range 7).filter fun n => !good n).foldl (fun t n => postCalFault n false t) filled := by
      simp only [faults, List.foldl_map, postCalFault_load]
    rw [posted, exec, execStartupLoadComplete, if_neg (by simp [loaded]), postLoadFaults_eq_foldl, faulty, table]
    rfl

/-! ## The commit (R163) -/

/-- The fields that do not belong to a record are not examined. -/
theorem calFieldsInRange_own : calFieldsInRange rec (calFieldsOwn rec f) = calFieldsInRange rec f := by
  unfold calFieldsInRange calFieldsOwn
  split <;> rfl

/-- A slot written from fields in range passes its check. -/
theorem slotPasses_slotFor (h : calFieldsInRange rec f = true) : slotPasses rec (slotFor rec f) = true := by
  simp [slotPasses, slotFor, calFieldsInRange_own, h]

/-- The end of a commit as its writer is told of it, a fault not yet posted. -/
def commitTold (c : Commit) (slot : NvSlot) (s : State) : State :=
  postTo c.writer (plainNotice .calWritten (calWrittenValue c.record (!slotPasses c.record slot) c.generation))
    (s.modCal (commitTable c slot))

/-- A commit in progress completes by the check of what reads back. -/
theorem commit_ends {c : Commit} {rb : ReadBack} {slot : NvSlot} (h : s.cal.commit = .some c) (stored : committedSlot c rb = slot) :
    exec (.commitComplete rb) s = .next
      (if slotPasses c.record slot then commitTold c slot s else postCalFault c.record true (commitTold c slot s)) := by
  subst stored
  simp only [exec, execCommitComplete, h, commitTold]
  cases slotPasses c.record (committedSlot c rb) <;> rfl

/-- Settles O39: the slot passes or fails, and the slot as it was written passes. -/
theorem commitEndsInOneOfTwoWays : Obligations.CommitEndsInOneOfTwoWays := by
  refine fun rb s => ⟨fun none => ?_, fun c commit _ _ => ?_⟩
  · simp only [exec, execCommitComplete, none]
  · intro slot passed old new written fault done
    have stored : committedSlot c rb = slot := by cases rb <;> rfl
    have told : commitTold c slot s = postTo c.writer written done := by
      have notice : plainNotice .calWritten (calWrittenValue c.record (!passed) c.generation) = written := by
        simp only [written]
        cases passed <;> rfl
      exact congrArg (postTo c.writer · done) notice
    refine ⟨?_, fun as inRange => ?_⟩
    · rw [commit_ends commit stored, told]
      rfl
    · subst as
      exact slotPasses_slotFor inRange

/-! ## The ranges of the fields (R155, R161) -/

/-- The kinds stand in the order of their codes. -/
theorem stationKindOfCode_eq (n : Nat) :
    stationKindOfCode n = [StationKind.empty, .vickersIndenter, .knoopIndenter, .objective][n]? := by
  rcases n with _ | _ | _ | _ | n <;> rfl

theorem offsetInRange_iff {v : Int} : offsetInRange v = true ↔ -2000000 ≤ v ∧ v ≤ 2000000 := by
  rw [offsetInRange, Bool.and_eq_true, decide_eq_true_eq, decide_eq_true_eq]

/-- The fields of an objective in the ranges of R155. -/
def ObjectiveInRange (f : CalFields) : Prop :=
  20000 ≤ f.scale ∧ f.scale ≤ 2000000 ∧ -5000 ≤ f.diagOffset ∧ f.diagOffset ≤ 5000 ∧ 1 ≤ f.focus ∧ f.focus ≤ 1000000

/-- The fields of a station in the ranges of R155, the objective fields zero for every other kind (R161). -/
def StationInRange (f : CalFields) : Prop :=
  (-2000000 ≤ f.x ∧ f.x ≤ 2000000 ∧ -2000000 ≤ f.y ∧ f.y ≤ 2000000)
    ∧ f.kind ≤ 3 ∧ if f.kind = 3 then ObjectiveInRange f else f.scale = 0 ∧ f.diagOffset = 0 ∧ f.focus = 0

theorem calFieldsInRange_force : calFieldsInRange 6 f = true ↔ 1 ≤ f.gain ∧ f.gain ≤ 5000 := by
  simp [calFieldsInRange]

theorem calFieldsInRange_station (h : rec ≠ 6) : calFieldsInRange rec f = true ↔ StationInRange f := by
  obtain ⟨kind, x, y, scale, diagOffset, focus, gain⟩ := f
  rcases kind with _ | _ | _ | _ | kind <;>
    simp [calFieldsInRange, StationInRange, ObjectiveInRange, stationKindOfCode, offsetInRange_iff, h, and_assoc]

/-! ## READ CALIBRATION (R159) -/

theorem readCalibration_noRecord (loaded : s.cal.loaded = true) (h : 6 < rec) :
    exec (.readCalibration src rec) s = .next (answered (.readCalibration src rec) src .badValue [] s) :=
  served loaded (by simp only [decideReadCalibration, h, if_true, Answer.refuse])

theorem readCalibration_record (loaded : s.cal.loaded = true) (h : rec ≤ 6) :
    exec (.readCalibration src rec) s
      = .next (answered (.readCalibration src rec) src .accepted
          (bytesOf 1 rec ++ calFieldsBytes (workingFields rec s) ++ bytesOf 1 (conditionCode (conditionOf rec s))
            ++ bytesOf 2 s.cal.generation ++ bytesOf 1 (flagCode s.cal.nvBusy)) s) :=
  served loaded (by simp only [decideReadCalibration, Nat.not_lt.2 h, if_false])

/-! ## WRITE CALIBRATION (R160 to R162) -/

theorem writeCalibration_refused {st : Status} (loaded : s.cal.loaded = true) (h : writeCalibrationCheck rec f s = .some st) :
    exec (.writeCalibration src rec f) s = .next (answered (.writeCalibration src rec f) src st [] s) :=
  served loaded (by simp only [decideWriteCalibration, h, Answer.refuse])

theorem writeCalibration_accepted (loaded : s.cal.loaded = true) (h : writeCalibrationCheck rec f s = .none) :
    exec (.writeCalibration src rec f) s
      = .next (answered (.writeCalibration src rec f) src .accepted (bytesOf 2 (nextGeneration s.cal.generation))
          (if rec = 6 ∧ conditionOf 6 s = .loadFault then grant (s.modCal (writeTable rec f src.port))
            else s.modCal (writeTable rec f src.port))) :=
  served loaded (by simp only [decideWriteCalibration, h])

/-- The record is in use: an order that is not ENDED names the station, or an order holds the head (R160). -/
def RecordInUse (rec : Nat) (s : State) : Prop :=
  (rec ≠ 6 ∧ ∃ o ∈ s.table.orders, o.status ≠ .ended ∧ (o.indenter = rec ∨ o.objective = rec))
    ∨ (rec = 6 ∧ s.arb.owner ≠ .none)

theorem stationInUse_iff : stationInUse rec s = true
    ↔ ∃ o ∈ s.table.orders, o.status ≠ .ended ∧ (o.indenter = rec ∨ o.objective = rec) := by
  simp [stationInUse]

theorem writeCalibrationCheck_noRecord (h : 6 < rec) : writeCalibrationCheck rec f s = .some .badValue := if_pos h

theorem writeCalibrationCheck_busy (h : rec ≤ 6) (busy : s.cal.nvBusy = true) : writeCalibrationCheck rec f s = .some .busy := by
  simp [writeCalibrationCheck, Nat.not_lt.2 h, busy]

theorem writeCalibrationCheck_inUse (h : rec ≤ 6) (free : s.cal.nvBusy = false) (used : RecordInUse rec s) :
    writeCalibrationCheck rec f s = .some .inUse := by
  rcases used with ⟨station, named⟩ | ⟨rfl, owned⟩
  · simp [writeCalibrationCheck, Nat.not_lt.2 h, free, station, stationInUse_iff.2 named]
  · simp [writeCalibrationCheck, free, Option.isSome_iff_ne_none.2 owned]

/-- Of a record that is neither in commit nor in use the fields are checked. -/
theorem writeCalibrationCheck_free (h : rec ≤ 6) (free : s.cal.nvBusy = false) (unused : ¬ RecordInUse rec s) :
    writeCalibrationCheck rec f s = if calFieldsInRange rec f = true then .none else .some .badValue := by
  have station : ¬ (rec ≠ 6 ∧ stationInUse rec s = true) := fun ⟨ne, used⟩ => unused (.inl ⟨ne, stationInUse_iff.1 used⟩)
  have force : ¬ (rec = 6 ∧ s.arb.owner.isSome = true) := fun ⟨e, owned⟩ => unused (.inr ⟨e, Option.isSome_iff_ne_none.1 owned⟩)
  simp only [writeCalibrationCheck, Nat.not_lt.2 h, free, station, force, if_false, Bool.false_eq_true, ite_not]

/-- Settles O40: the checks of R160 in their order, and the table that an accepted write leaves. -/
theorem calibrationIsReadAndWritten : Obligations.CalibrationIsReadAndWritten := by
  intro src rec f s loaded inUse refused gen offsets objective inRange station written
  have ranges : calFieldsInRange rec f = true ↔ inRange := by
    by_cases h : rec = 6
    · subst h
      exact calFieldsInRange_force
    · rw [calFieldsInRange_station h]
      simp only [inRange, if_neg h]
      rfl
  have table : s.modCal (writeTable rec f src.port) = written := by
    have kind : stationOf f = station := by
      simp only [stationOf, stationKindOfCode_eq]
      rfl
    by_cases h : rec = 6
    · simp only [written, if_pos h, State.modCal, writeTable, replaceRecord]
      rfl
    · simp only [written, if_neg h, State.modCal, writeTable, replaceRecord, kind]
      rfl
  refine ⟨ranges, fun no => ⟨writeCalibration_refused loaded (writeCalibrationCheck_noRecord no), readCalibration_noRecord loaded no⟩,
    fun h => ⟨readCalibration_record loaded h, fun busy => ?_, fun free used => ?_, fun free unused out => ?_,
      fun free unused fits => ?_⟩⟩
  · exact writeCalibration_refused loaded (writeCalibrationCheck_busy h busy)
  · exact writeCalibration_refused loaded (writeCalibrationCheck_inUse h free used)
  · exact writeCalibration_refused loaded ((writeCalibrationCheck_free h free unused).trans (if_neg (mt ranges.1 out)))
  · rw [← table]
    exact writeCalibration_accepted loaded ((writeCalibrationCheck_free h free unused).trans (if_pos (ranges.2 fits)))

end Sys2Proof.Proofs.Calibration

/-! # The responses through what the owners of the requests do (R178, R184)

No shared operation touches a response: posting changes the notices of a port alone. -/

namespace Sys2Proof.Proofs.Answers
open Sys2Proof Sys2Proof.Machine Sys2Proof.Proofs.Orders

variable {s t : State} {src : Source}

/-! ## Notices and records -/

@[simp] theorem postTo_responses (p : Port) (n : Notice) (s : State) :
    (postTo p n s).portA.responses = s.portA.responses ∧ (postTo p n s).portB.responses = s.portB.responses := by
  cases p <;> simp [postTo]

@[simp] theorem postBoth_responses (n : Notice) (s : State) :
    (postBoth n s).portA.responses = s.portA.responses ∧ (postBoth n s).portB.responses = s.portB.responses := by
  simp [postBoth]

@[simp] theorem judgePointsLow_responses (s : State) :
    (judgePointsLow s).portA.responses = s.portA.responses ∧ (judgePointsLow s).portB.responses = s.portB.responses := by
  unfold judgePointsLow
  repeat' split
  all_goals simp

@[simp] theorem postResultsWaiting_responses (o : Order) (seq : Nat) (s : State) :
    (postResultsWaiting o seq s).portA.responses = s.portA.responses
      ∧ (postResultsWaiting o seq s).portB.responses = s.portB.responses := by
  simp [postResultsWaiting]

@[simp] theorem countWaiting_responses (o : Order) (seq : Nat) (s : State) :
    (countWaiting o seq s).portA.responses = s.portA.responses ∧ (countWaiting o seq s).portB.responses = s.portB.responses := by
  unfold countWaiting
  dsimp only
  split <;> simp

@[simp] theorem writeRecord_responses (o : Order) (r : Record) (s : State) :
    (writeRecord o r s).portA.responses = s.portA.responses ∧ (writeRecord o r s).portB.responses = s.portB.responses := by
  unfold writeRecord
  dsimp only
  split <;> simp

@[simp] theorem recordCurrent_responses (o : Order) (st : RecState) (why : Reason) (s : State) :
    (recordCurrent o st why s).portA.responses = s.portA.responses
      ∧ (recordCurrent o st why s).portB.responses = s.portB.responses := by
  unfold recordCurrent
  split <;> simp

@[simp] theorem recordImpressions_responses (o : Order) (why : Reason) (l : List Impression) (s : State) :
    (recordImpressions o why l s).portA.responses = s.portA.responses
      ∧ (recordImpressions o why l s).portB.responses = s.portB.responses := by
  induction l generalizing s with
  | nil => simp [recordImpressions]
  | cons i rest ih => simp [recordImpressions, ih]

@[simp] theorem flushImpressions_responses (o : Order) (why : Reason) (s : State) :
    (flushImpressions o why s).portA.responses = s.portA.responses
      ∧ (flushImpressions o why s).portB.responses = s.portB.responses := by
  simp [flushImpressions]

/-! ## The end of an order, the grant and the boundary -/

@[simp] theorem endOrder_responses (id : Nat) (out : OrderOutcome) (why : Option AbortReason) (s : State) :
    (endOrder id out why s).portA.responses = s.portA.responses ∧ (endOrder id out why s).portB.responses = s.portB.responses := by
  unfold endOrder
  split <;> simp

@[simp] theorem considerGrant_responses (s : State) :
    (considerGrant s).1.portA.responses = s.portA.responses ∧ (considerGrant s).1.portB.responses = s.portB.responses := by
  unfold considerGrant
  repeat' split
  all_goals simp

@[simp] theorem endOwner_responses (id : Nat) (out : OrderOutcome) (why : Option AbortReason) (s : State) :
    (endOwner id out why s).1.portA.responses = s.portA.responses
      ∧ (endOwner id out why s).1.portB.responses = s.portB.responses := by
  simp [endOwner]

@[simp] theorem completeCancel_responses (o : Order) (s : State) :
    (completeCancel o s).1.portA.responses = s.portA.responses ∧ (completeCancel o s).1.portB.responses = s.portB.responses := by
  simp [completeCancel]

@[simp] theorem takeImpression_responses (o : Order) (s : State) :
    (takeImpression o s).1.portA.responses = s.portA.responses ∧ (takeImpression o s).1.portB.responses = s.portB.responses := by
  unfold takeImpression
  dsimp only
  repeat' split
  all_goals simp

@[simp] theorem takePoint_responses (o : Order) (s : State) :
    (takePoint o s).1.portA.responses = s.portA.responses ∧ (takePoint o s).1.portB.responses = s.portB.responses := by
  unfold takePoint
  dsimp only
  repeat' split
  all_goals simp

@[simp] theorem boundaryTake_responses (o : Order) (s : State) :
    (boundaryTake o s).1.portA.responses = s.portA.responses ∧ (boundaryTake o s).1.portB.responses = s.portB.responses := by
  unfold boundaryTake
  repeat' split
  all_goals simp

@[simp] theorem boundaryRun_responses (o : Order) (s : State) :
    (boundaryRun o s).1.portA.responses = s.portA.responses ∧ (boundaryRun o s).1.portB.responses = s.portB.responses := by
  unfold boundaryRun
  repeat' split
  all_goals simp

@[simp] theorem boundaryStep_responses (s : State) :
    (boundaryStep s).1.portA.responses = s.portA.responses ∧ (boundaryStep s).1.portB.responses = s.portB.responses := by
  unfold boundaryStep
  dsimp only
  repeat' split
  all_goals simp [boundaryPause_eq]

@[simp] theorem boundary_responses (s : State) :
    (boundary s).portA.responses = s.portA.responses ∧ (boundary s).portB.responses = s.portB.responses :=
  boundary_keeps (P := fun t => t.portA.responses = s.portA.responses ∧ t.portB.responses = s.portB.responses)
    (fun _ h => by simpa using h) s ⟨rfl, rfl⟩

@[simp] theorem afterGrant_responses (r : State × Bool) :
    (afterGrant r).portA.responses = r.1.portA.responses ∧ (afterGrant r).portB.responses = r.1.portB.responses := by
  unfold afterGrant
  split <;> simp

@[simp] theorem grant_responses (s : State) :
    (grant s).portA.responses = s.portA.responses ∧ (grant s).portB.responses = s.portB.responses := by
  simp [grant]

/-! ## The review desk, the resumes and the head lock -/

@[simp] theorem postReviewClosed_responses (r : Review) (out : ReviewOutcome) (s : State) :
    (postReviewClosed r out s).portA.responses = s.portA.responses
      ∧ (postReviewClosed r out s).portB.responses = s.portB.responses := by
  simp [postReviewClosed]

@[simp] theorem closeReview_responses (out : ReviewOutcome) (change : Record → Record) (s : State) :
    (closeReview out change s).portA.responses = s.portA.responses
      ∧ (closeReview out change s).portB.responses = s.portB.responses := by
  unfold closeReview
  dsimp only
  repeat' split
  all_goals simp

@[simp] theorem afterClose_responses (s : State) :
    (afterClose s).portA.responses = s.portA.responses ∧ (afterClose s).portB.responses = s.portB.responses := by
  unfold afterClose
  split <;> simp

@[simp] theorem supersedeReview_responses (o : Order) (s : State) :
    (supersedeReview o s).portA.responses = s.portA.responses ∧ (supersedeReview o s).portB.responses = s.portB.responses := by
  unfold supersedeReview
  dsimp only
  repeat' split
  all_goals simp

@[simp] theorem resumeOwner_responses (o : Order) (s : State) :
    (resumeOwner o s).portA.responses = s.portA.responses ∧ (resumeOwner o s).portB.responses = s.portB.responses := by
  unfold resumeOwner
  dsimp only
  repeat' split
  all_goals simp

@[simp] theorem resumeEffect_responses (o : Order) (s : State) :
    (resumeEffect o s).portA.responses = s.portA.responses ∧ (resumeEffect o s).portB.responses = s.portB.responses := by
  unfold resumeEffect
  dsimp only
  repeat' split
  all_goals simp

@[simp] theorem resumeAllEffect_responses (s : State) :
    (resumeAllEffect s).portA.responses = s.portA.responses ∧ (resumeAllEffect s).portB.responses = s.portB.responses := by
  unfold resumeAllEffect
  dsimp only
  repeat' split
  all_goals simp

@[simp] theorem setLock_responses (holder : Option Port) (s : State) :
    (setLock holder s).portA.responses = s.portA.responses ∧ (setLock holder s).portB.responses = s.portB.responses := by
  simp [setLock]

/-! ## The append and the cancel -/

@[simp] theorem afterAppend_responses (id n : Nat) (s : State) :
    (afterAppend id n s).portA.responses = s.portA.responses ∧ (afterAppend id n s).portB.responses = s.portB.responses := by
  unfold afterAppend
  repeat' split
  all_goals simp

@[simp] theorem cancelNow_responses (o : Order) (s : State) :
    (cancelNow o s).portA.responses = s.portA.responses ∧ (cancelNow o s).portB.responses = s.portB.responses := by
  simp [cancelNow]

@[simp] theorem cancelOwner_responses (o : Order) (s : State) :
    (cancelOwner o s).portA.responses = s.portA.responses ∧ (cancelOwner o s).portB.responses = s.portB.responses := by
  unfold cancelOwner markCancel
  dsimp only
  repeat' split
  all_goals simp

@[simp] theorem cancelEffect_responses (o : Order) (s : State) :
    (cancelEffect o s).portA.responses = s.portA.responses ∧ (cancelEffect o s).portB.responses = s.portB.responses := by
  unfold cancelEffect
  repeat' split
  all_goals simp

end Sys2Proof.Proofs.Answers

/-! # Every request is answered once (R157, R184) -/

namespace Sys2Proof.Proofs.Answers
open Sys2Proof Sys2Proof.Machine Sys2Proof.Proofs.Orders

variable {s t : State} {src : Source}

/-! ## What an owner may decide -/

/-- What an owner decides on `s` is fit to answer with: no response is touched, and a refusal changes nothing and has no body. -/
structure Fit (s : State) (a : Answer) : Prop where
  responses : ∀ p, (a.state.port p).responses = (s.port p).responses
  refusal : a.status ≠ .accepted → a.status ≠ .acceptedClamped → a.state = s ∧ a.body = []

theorem Fit.refuse (st : Status) (s : State) : Fit s (Answer.refuse st s) := ⟨fun _ => rfl, fun _ _ => ⟨rfl, rfl⟩⟩

/-- Whatever is accepted need only leave the responses. -/
theorem Fit.accepted {a : Answer} (h : a.state.portA.responses = s.portA.responses ∧ a.state.portB.responses = s.portB.responses)
    (ha : a.status = .accepted ∨ a.status = .acceptedClamped) : Fit s a :=
  ⟨fun p => by cases p <;> simp [h], fun h1 h2 => absurd ha (by simp [h1, h2])⟩

theorem Fit.accept (h : t.portA.responses = s.portA.responses ∧ t.portB.responses = s.portB.responses) : Fit s (Answer.accept t) :=
  .accepted h (.inl rfl)

/-! ## The owners -/

theorem fit_setLink (src : Source) (r : SetLinkReq) (s : State) : Fit s (decideSetLink src r s) := by
  unfold decideSetLink
  split
  · exact .accepted (by cases src.port <;> simp) (.inl rfl)
  · exact .refuse ..

theorem fit_readNotices (src : Source) (s : State) : Fit s (decideReadNotices src s) :=
  .accepted (by rw [decideReadNotices_state]; cases src.port <;> simp [LinkPort.popNotices]) (.inl rfl)

theorem fit_openOrder (src : Source) (r : OpenOrderReq) (s : State) : Fit s (decideOpenOrder src r s) := by
  unfold decideOpenOrder
  split
  · exact .refuse ..
  · refine .accepted (by simp) ?_
    dsimp only
    split
    · exact .inr rfl
    · exact .inl rfl

theorem fit_addPoints (src : Source) (r : AddPointsReq) (s : State) : Fit s (decideAddPoints src r s) := by
  unfold decideAddPoints
  split
  · exact .refuse ..
  · split
    · exact .refuse ..
    · exact .accepted (by simp) (.inl rfl)

theorem fit_cancel (src : Source) (id : Nat) (s : State) : Fit s (decideCancel src id s) := by
  unfold decideCancel
  split
  · exact .refuse ..
  · exact .accept (by simp)

theorem fit_hold (src : Source) (id : Nat) (s : State) : Fit s (decideHold src id s) := by
  unfold decideHold
  split
  · exact .refuse ..
  · exact .accept (by simp)

theorem fit_resume (src : Source) (id : Nat) (s : State) : Fit s (decideResume src id s) := by
  unfold decideResume
  split
  · exact .refuse ..
  · split
    · exact .accept (by simp)
    · exact .refuse ..

theorem fit_takeHead (src : Source) (s : State) : Fit s (decideTakeHead src s) := by
  unfold decideTakeHead
  split
  · exact .accept (by simp)
  · split
    · exact .accept ⟨rfl, rfl⟩
    · exact .refuse ..

theorem fit_freeHead (src : Source) (s : State) : Fit s (decideFreeHead src s) := by
  unfold decideFreeHead
  split
  · exact .accept ⟨rfl, rfl⟩
  · split
    · exact .accept (by simp)
    · exact .refuse ..

theorem fit_claim (src : Source) (seq : Nat) (s : State) : Fit s (decideClaim src seq s) := by
  unfold decideClaim
  split
  · exact .refuse ..
  · split
    · exact .accept (by simp)
    · split
      · exact .accept ⟨rfl, rfl⟩
      · exact .refuse ..

theorem fit_enter (src : Source) (seq d1 d2 : Nat) (s : State) : Fit s (decideEnter src seq d1 d2 s) := by
  unfold decideEnter
  split
  · exact .refuse ..
  · split
    · exact .refuse ..
    · split
      · exact .accept ⟨rfl, rfl⟩
      · exact .accept (by simp)

theorem fit_reject (src : Source) (seq : Nat) (s : State) : Fit s (decideReject src seq s) := by
  unfold decideReject
  split
  · exact .refuse ..
  · exact .accept (by simp)

theorem fit_releaseResults (src : Source) (through : Nat) (s : State) : Fit s (decideReleaseResults src through s) := by
  refine .accepted ?_ (.inl rfl)
  unfold decideReleaseResults
  dsimp only
  split <;> simp

theorem fit_readSummary (src : Source) (id : Nat) (s : State) : Fit s (decideReadSummary src id s) := by
  unfold decideReadSummary
  split
  · exact .refuse ..
  · split
    · exact .refuse ..
    · split
      · exact .accepted (by simp) (.inl rfl)
      · exact .refuse ..

theorem fit_readCalibration (rec : Nat) (s : State) : Fit s (decideReadCalibration rec s) := by
  unfold decideReadCalibration
  split
  · exact .refuse ..
  · exact .accepted ⟨rfl, rfl⟩ (.inl rfl)

theorem fit_writeCalibration (src : Source) (rec : Nat) (f : CalFields) (s : State) : Fit s (decideWriteCalibration src rec f s) := by
  unfold decideWriteCalibration
  split
  · exact .refuse ..
  · refine .accepted ?_ (.inl rfl)
    dsimp only
    split <;> simp

theorem fit_setLamp (g a r : Nat) (s : State) : Fit s (decideSetLamp g a r s) := by
  unfold decideSetLamp
  split
  · exact .refuse ..
  · next h => exact .accepted (by rw [setLampEffect_frame h]; exact ⟨rfl, rfl⟩) (.inl rfl)

theorem fit_setInputs (d e c : Nat) (s : State) : Fit s (decideSetInputs d e c s) := by
  unfold decideSetInputs
  split
  · exact .refuse ..
  · exact .accepted ⟨rfl, rfl⟩ (.inl rfl)

/-! ## The answer -/

/-- A request is served by an owner whose decision is fit to answer with. -/
theorem request_served {i : Instr} (h : sourceOf i = .some src) :
    ∃ d : State → Answer, ∀ s, exec i s = .next (serve i src d s) ∧ Fit s (d s) := by
  cases i <;> simp only [sourceOf, reduceCtorEq, Option.some.injEq] at h
  all_goals subst h
  case readState src => exact ⟨_, fun s => ⟨rfl, .accepted ⟨rfl, rfl⟩ (.inl rfl)⟩⟩
  case readNotices src => exact ⟨_, fun s => ⟨rfl, fit_readNotices src s⟩⟩
  case setLink src r => exact ⟨_, fun s => ⟨rfl, fit_setLink src r s⟩⟩
  case openOrder src r => exact ⟨_, fun s => ⟨rfl, fit_openOrder src r s⟩⟩
  case addPoints src r => exact ⟨_, fun s => ⟨rfl, fit_addPoints src r s⟩⟩
  case cancelOrder src id => exact ⟨_, fun s => ⟨rfl, fit_cancel src id s⟩⟩
  case holdOrder src id => exact ⟨_, fun s => ⟨rfl, fit_hold src id s⟩⟩
  case resumeOrder src id => exact ⟨_, fun s => ⟨rfl, fit_resume src id s⟩⟩
  case holdAll src => exact ⟨_, fun s => ⟨rfl, .accept (by simp)⟩⟩
  case resumeAll src => exact ⟨_, fun s => ⟨rfl, .accept (by simp)⟩⟩
  case takeHead src => exact ⟨_, fun s => ⟨rfl, fit_takeHead src s⟩⟩
  case freeHead src => exact ⟨_, fun s => ⟨rfl, fit_freeHead src s⟩⟩
  case claimReview src seq => exact ⟨_, fun s => ⟨rfl, fit_claim src seq s⟩⟩
  case enterDiagonals src seq d1 d2 => exact ⟨_, fun s => ⟨rfl, fit_enter src seq d1 d2 s⟩⟩
  case rejectImpression src seq => exact ⟨_, fun s => ⟨rfl, fit_reject src seq s⟩⟩
  case readResults src first maxN => exact ⟨_, fun s => ⟨rfl, .accepted ⟨rfl, rfl⟩ (.inl rfl)⟩⟩
  case releaseResults src through => exact ⟨_, fun s => ⟨rfl, fit_releaseResults src through s⟩⟩
  case readSummary src id => exact ⟨_, fun s => ⟨rfl, fit_readSummary src id s⟩⟩
  case readCalibration src rec => exact ⟨_, fun s => ⟨rfl, fit_readCalibration rec s⟩⟩
  case writeCalibration src rec f => exact ⟨_, fun s => ⟨rfl, fit_writeCalibration src rec f s⟩⟩
  case setLamp src g a r => exact ⟨_, fun s => ⟨rfl, fit_setLamp g a r s⟩⟩
  case setInputs src d e c => exact ⟨_, fun s => ⟨rfl, fit_setInputs d e c s⟩⟩

/-- The kind code of READ STATE is no other command's. -/
theorem kindOf_eq_readState {i : Instr} (h : kindOf i = .some 1) : ∃ src, i = .readState src := by
  cases i <;> simp [kindOf] at h ⊢

theorem kindOf_getD_ne {i : Instr} (h : kindOf i ≠ .some 1) : (kindOf i).getD 0 ≠ 1 := by
  cases k : kindOf i with
  | none => decide
  | some n => exact fun e => h (k.trans (congrArg _ e))

/-- A request is answered as its owner decides, or NOT_READY with nothing changed. -/
theorem serve_answered {cmd : Instr} (h : sourceOf cmd = .some src) (d : State → Answer) (s : State) :
    ∃ a : Answer, (a = d s ∨ a = Answer.refuse .notReady s) ∧ serve cmd src d s = answered cmd src a.status a.body a.state := by
  by_cases loaded : s.cal.loaded = true
  · exact ⟨_, .inl rfl, serve_loaded loaded⟩
  · by_cases kind : kindOf cmd = .some 1
    · obtain ⟨src', rfl⟩ := kindOf_eq_readState kind
      obtain rfl := Option.some.inj h
      exact ⟨_, .inl rfl, serve_readState⟩
    · exact ⟨_, .inr rfl, serve_notLoaded (Bool.eq_false_iff.2 loaded) (kindOf_getD_ne kind)⟩

/-- Settles O5: an owner's decision is fit to answer with, and so is NOT_READY. -/
theorem everyRequestIsAnsweredOnce : Obligations.EveryRequestIsAnsweredOnce := by
  refine ⟨fun i src s h => ?_, fun i src s h other unloaded => ?_⟩
  · obtain ⟨d, served⟩ := request_served h
    obtain ⟨exec_eq, fit⟩ := served s
    obtain ⟨a, decided, answer⟩ := serve_answered h d s
    have fit : Fit s a := by
      rcases decided with rfl | rfl
      · exact fit
      · exact .refuse ..
    exact ⟨a.status, a.body, a.state, by rw [exec_eq, answer], fit.responses, fit.refusal⟩
  · obtain ⟨d, served⟩ := request_served h
    rw [(served s).1, serve_notLoaded unloaded (kindOf_getD_ne other)]

end Sys2Proof.Proofs.Answers

/-! # The interlock inputs: their lines and their debounce times (R167, R168) -/

namespace Sys2Proof.Proofs.Inputs
open Sys2Proof Sys2Proof.Machine Sys2Proof.Proofs.Orders

variable {s : State} {src : Source} {v d e c : Nat}

/-! ## A change of the lines (R167) -/

/-- The three cases of a raw level: at the debounced level, at the candidate, at neither. -/
theorem judge_cases {α : Type} [DecidableEq α] {raw : α} {d : Debounced α} {leaves : Debounced α → Prop} (h : leaves (d.judge raw)) :
    (d.level = .some raw → leaves { d with candidate := .none, timer := .none })
      ∧ (d.level ≠ .some raw → d.candidate = .some raw → leaves d)
      ∧ (d.level ≠ .some raw → d.candidate ≠ .some raw → leaves { d with candidate := .some raw, timer := .some d.time }) := by
  unfold Debounced.judge at h
  refine ⟨fun back => ?_, fun away same => ?_, fun away new => ?_⟩
  · rwa [if_pos back] at h
  · rwa [if_neg away, if_pos same] at h
  · rwa [if_neg away, if_neg new] at h

/-! ## SET INPUTS (R168) -/

/-- The settings of SET INPUTS: UNCHANGED and the four debounce times. -/
abbrev NamesTime (v : Nat) : Prop := v ∈ [0, 1, 4, 16, 64]

theorem debounceSetting_named (h : NamesTime v) : debounceSetting v = .some (if v = 0 then .none else .some v) := by
  simp only [List.mem_cons, List.not_mem_nil, or_false] at h
  rcases h with rfl | rfl | rfl | rfl | rfl <;> rfl

theorem debounceSetting_eq_none : debounceSetting v = .none ↔ ¬NamesTime v := by
  refine ⟨fun none named => ?_, fun other => ?_⟩
  · rw [debounceSetting_named named] at none
    cases none
  · unfold debounceSetting
    split
    case h_6 => rfl
    all_goals exact absurd (by decide) other

/-- The debounced input with the time that a setting asks for. -/
abbrev timed {α : Type} (v : Nat) (d : Debounced α) : Debounced α := { d with time := if v = 0 then d.time else v }

theorem inputsAfter_named {i : Inputs} (hd : NamesTime d) (he : NamesTime e) (hc : NamesTime c) :
    inputsAfter d e c i = .some { door := timed d i.door, estop := timed e i.estop, station := timed c i.station } := by
  have asked (v old : Nat) : (if v = 0 then Option.none else .some v).getD old = if v = 0 then old else v := by split <;> rfl
  simp only [inputsAfter, debounceSetting_named hd, debounceSetting_named he, debounceSetting_named hc, asked]

theorem inputsAfter_refused {i : Inputs} (h : ¬(NamesTime d ∧ NamesTime e ∧ NamesTime c)) : inputsAfter d e c i = .none := by
  unfold inputsAfter
  split
  · next hd he hc =>
    have named {n : Nat} {x : Option Nat} (hn : debounceSetting n = .some x) : NamesTime n :=
      not_not.1 fun other => by simp [debounceSetting_eq_none.2 other] at hn
    exact absurd ⟨named hd, named he, named hc⟩ h
  · rfl

/-- Settles O41: a change of the lines by the cases of the raw level, SET INPUTS by whether every setting names a time. -/
theorem inputsJudgeTheirLines : Obligations.InputsJudgeTheirLines := by
  refine ⟨fun code s => ⟨fun high => ?door, fun high => ?estop, ?station⟩, fun src d e c s loaded => ?set⟩
  case door =>
    intro raw d leaves
    exact judge_cases (leaves := leaves) rfl
  case estop =>
    intro raw d leaves
    exact judge_cases (leaves := leaves) rfl
  case station =>
    intro d leaves
    exact judge_cases (leaves := leaves) rfl
  case set =>
    intro good pick door estop station
    refine ⟨fun ⟨hd, he, hc⟩ => served loaded ?_, fun refused => served loaded ?_⟩
    · simp only [decideSetInputs, inputsAfter_named hd he hc]
      rfl
    · simp only [decideSetInputs, inputsAfter_refused refused, Answer.refuse]

end Sys2Proof.Proofs.Inputs

/-! # The lamps: their modes, their indications and their blinking (R174 to R176) -/

namespace Sys2Proof.Proofs.Lamps
open Sys2Proof Sys2Proof.Machine Sys2Proof.Proofs.Orders

variable {s : State} {g a r : Nat}

/-! ## SET LAMP (R176) -/

/-- The modes that the settings 0 to 5 of SET LAMP give a lamp, UNCHANGED first. -/
abbrev settableModes (old : LampMode) : List LampMode :=
  [old, .auto, .forced .off, .forced .on, .forced .slow, .forced .fast]

theorem lampSetting_named {v : Nat} (h : v ≤ 5) :
    ∃ x, lampSetting v = .some x ∧ ∀ old, newMode old x = (settableModes old).getD v .auto := by
  interval_cases v <;> exact ⟨_, rfl, fun _ => rfl⟩

theorem lampSetting_eq_none {v : Nat} : lampSetting v = .none ↔ 5 < v := by
  refine ⟨fun none => ?_, fun large => ?_⟩
  · by_contra small
    obtain ⟨x, some, -⟩ := lampSetting_named (Nat.not_lt.1 small)
    rw [none] at some
    cases some
  · unfold lampSetting
    split
    case h_7 => rfl
    all_goals omega

theorem setLampEffect_named (hg : g ≤ 5) (ha : a ≤ 5) (hr : r ≤ 5) :
    setLampEffect g a r s = .some { s with lamps := { s.lamps with
      green := (settableModes s.lamps.green).getD g .auto, amber := (settableModes s.lamps.amber).getD a .auto
      red := (settableModes s.lamps.red).getD r .auto } } := by
  obtain ⟨xg, eg, green⟩ := lampSetting_named hg
  obtain ⟨xa, ea, amber⟩ := lampSetting_named ha
  obtain ⟨xr, er, red⟩ := lampSetting_named hr
  simp only [setLampEffect, eg, ea, er, State.modLamps, green, amber, red]

theorem setLampEffect_refused (h : 5 < g ∨ 5 < a ∨ 5 < r) : setLampEffect g a r s = .none := by
  unfold setLampEffect
  split
  · next eg ea er => rcases h with h | h | h <;> simp [lampSetting_eq_none.2 h] at eg ea er
  · rfl

/-! ## What a lamp shows (R174, R175) -/

/-- SLOW is on for the first half of the timebase, FAST for every other interval (log entry 5). -/
theorem patternOutput_iff {phase : Nat} {p : Pattern} :
    patternOutput phase p = true ↔ p = .on ∨ (p = .slow ∧ phase % 8 < 4) ∨ (p = .fast ∧ phase % 2 = 0) := by
  cases p <;> simp [patternOutput]

theorem shownPattern_forced {m : LampMode} {p derived : Pattern} (h : m = .forced p) : shownPattern m derived = p := by
  rw [h, shownPattern]

theorem shownPattern_auto {m : LampMode} {derived : Pattern} (h : m = .auto) : shownPattern m derived = derived := by
  rw [h, shownPattern]

theorem autoGreen_eq (s : State) :
    autoGreen s = if s.cal.loaded = true ∧ s.inputs.estop.level = .some .clear then .on else .off := by
  simp only [autoGreen, estopClear, Bool.and_eq_true, decide_eq_true_eq]

theorem autoAmber_eq (s : State) :
    autoAmber s = if s.seq.state = .paused then .fast else if s.seq.state = .reviewWait then .slow
      else if s.arb.owner ≠ .none then .on else .off := by
  simp only [autoAmber, Option.isSome_iff_ne_none]

theorem autoRed_eq (s : State) :
    autoRed s = if s.arb.owner ≠ .none ∧ s.inputs.door.level ≠ .some .isClosed then .fast
      else if ∃ c ∈ s.cal.conditions, c ≠ .sound then .slow
      else if s.inputs.estop.level ≠ .some .clear then .on else .off := by
  simp only [autoRed, doorClosed, estopClear, Bool.and_eq_true, Option.isSome_iff_ne_none, Bool.not_eq_true', decide_eq_false_iff_not,
    List.any_eq_true, decide_eq_true_eq]

/-- What a lamp outputs, by the pattern it shows. -/
theorem shown_iff {phase : Nat} {m : LampMode} {p derived : Pattern} (h : shownPattern m derived = p) :
    patternOutput phase (shownPattern m derived) = true
      ↔ p = .on ∨ (p = .slow ∧ phase % 8 < 4) ∨ (p = .fast ∧ phase % 2 = 0) := by
  rw [h, patternOutput_iff]

/-- Settles O45: the settings name the modes, and what a lamp shows is its forced pattern or its indication. -/
theorem lampsAreSetAndBlink : Obligations.LampsAreSetAndBlink := by
  intro src g a r s modes code lamps shows green amber red
  have codes (m : LampMode) : bytesOf 1 (lampCode m) = code m := by rcases m with _ | _ | _ | _ | _ <;> rfl
  refine ⟨fun loaded hg ha hr => served loaded ?set, fun loaded refused => served loaded ?refuse, rfl, ?shownForced, ?shownAuto⟩
  case set =>
    simp only [decideSetLamp, setLampEffect_named hg ha hr, codes]
    rfl
  case refuse => simp only [decideSetLamp, setLampEffect_refused refused, Answer.refuse]
  case shownForced =>
    exact ⟨fun _ forced => shown_iff (shownPattern_forced forced), fun _ forced => shown_iff (shownPattern_forced forced),
      fun _ forced => shown_iff (shownPattern_forced forced)⟩
  case shownAuto =>
    exact ⟨fun auto => shown_iff ((shownPattern_auto auto).trans (autoGreen_eq s)),
      fun auto => shown_iff ((shownPattern_auto auto).trans (autoAmber_eq s)),
      fun auto => shown_iff ((shownPattern_auto auto).trans (autoRed_eq s))⟩

end Sys2Proof.Proofs.Lamps

/-! # The links: responses sent, notices read and options set (R178, R183, R187, R190, R191) -/

namespace Sys2Proof.Proofs.Links
open Sys2Proof Sys2Proof.Machine Sys2Proof.Proofs.Orders

variable {s : State} {p : Port} {src : Source} {q : LinkPort}

/-- Changes of a port that agree on the port as it stands are the same change. -/
theorem modPort_congr {f g : LinkPort → LinkPort} (h : f (s.port p) = g (s.port p)) : s.modPort p f = s.modPort p g := by
  cases p <;> simp only [State.port] at h <;> simp only [State.modPort, h]

/-! ## The frame taken (R183) -/

theorem mayTake_iff : q.mayTake = true ↔ q.handling = .none ∧ q.responses = [] ∧ q.inBreak = false := by
  simp [LinkPort.mayTake, and_assoc]

/-- A port that handles a request, sends a response or sees a line break takes nothing. -/
theorem frameTaken_busy (h : (s.port p).mayTake = false) : exec (.frameTaken p) s = .next s := by
  simp only [exec, execFrameTaken, h]
  split <;> rfl

/-- A free port takes the frame buffered longest. -/
theorem frameTaken_free {f : RxFrame} {rest : List RxFrame} (hb : (s.port p).buffers = f :: rest) (free : (s.port p).mayTake = true) :
    exec (.frameTaken p) s = .next
      (let s1 := s.modPort p fun q => { q with buffers := rest }
       if f.shared then takeShared p f s1 else takeAddressed p f s1) := by
  simp only [exec, execFrameTaken, hb, free, if_true]

/-- Settles O18: the responses lose their first, and while one waits the port is not free. -/
theorem responseSentFreesTheTransmitter : Obligations.ResponseSentFreesTheTransmitter := by
  intro p r rest s sending
  refine ⟨congrArg Host.Outcome.next (modPort_congr ?_), frameTaken_busy ?_⟩
  · simp only [sending, List.drop_one, List.tail_cons]
  · simp [LinkPort.mayTake, sending]

/-! ## READ NOTICES (R190, R191) -/

/-- With R190 kept, the line stays asserted exactly where more than eight notices wait. -/
theorem popNotices_eq (h : q.NoticesOk) :
    q.popNotices = { q with notices := q.notices.drop 8, lost := 0, attention := 8 < q.notices.length } := by
  have line : (q.attention && !(q.notices.drop 8).isEmpty) = decide (8 < q.notices.length) := by
    obtain ⟨-, asserted⟩ := h
    rw [asserted, Bool.eq_iff_iff]
    cases q.notices with
    | nil => simp
    | cons n rest => simp [Nat.lt_iff_add_one_le]
  simp only [LinkPort.popNotices, Config.noticesPerRead, line]

/-- Settles O21: the eight oldest are handed over and removed, and the line is judged by those left. -/
theorem readNoticesHandsOverTheOldest : Obligations.ReadNoticesHandsOverTheOldest := by
  intro src s ok loaded q
  have portOk : q.NoticesOk := by
    obtain ⟨a, b⟩ := ok
    show (s.port src.port).NoticesOk
    cases src.port
    exacts [a, b]
  refine served loaded ?_
  simp only [decideReadNotices, Config.noticesPerRead, List.length_take, Answer.mk.injEq, true_and]
  exact ⟨modPort_congr (popNotices_eq portOk), rfl⟩

/-! ## SET LINK (R187) -/

/-- The settings of SET LINK that a port takes. -/
def Settable (p : Port) (r : SetLinkReq) : Prop :=
  r.longFrames ≤ 2 ∧ r.broadcast ≤ 2 ∧ (r.group = 0 ∨ (32 ≤ r.group ∧ r.group ≤ 63) ∨ r.group = 0xFF)
    ∧ r.overrunClear ≤ 2 ∧ r.clearCounters ≤ 1 ∧ (p = .A → r.broadcast = 0 ∧ r.group = 0xFF)

theorem onOffSetting_named {v : Nat} (h : v ≤ 2) :
    onOffSetting v = .some (if v = 0 then .none else .some (decide (v = 2))) := by
  interval_cases v <;> rfl

theorem onOffSetting_some {v : Nat} {x : Option Bool} (h : onOffSetting v = .some x) : v ≤ 2 ∧ (x = .none → v = 0) := by
  unfold onOffSetting at h
  split at h
  · exact ⟨by decide, fun _ => rfl⟩
  · obtain rfl := Option.some.inj h
    exact ⟨by decide, nofun⟩
  · obtain rfl := Option.some.inj h
    exact ⟨by decide, nofun⟩
  · cases h

theorem groupSetting_named {g : Nat} (h : g = 0 ∨ (32 ≤ g ∧ g ≤ 63) ∨ g = 0xFF) :
    groupSetting g = .some (if g = 0xFF then .none else .some g) := by
  unfold groupSetting
  split
  · rfl
  · rw [if_pos (by omega)]

theorem groupSetting_some {g : Nat} {x : Option Nat} (h : groupSetting g = .some x) :
    (g = 0 ∨ (32 ≤ g ∧ g ≤ 63) ∨ g = 0xFF) ∧ (x = .none → g = 0xFF) := by
  unfold groupSetting at h
  split at h
  · omega
  · split at h
    · obtain rfl := Option.some.inj h
      exact ⟨by omega, nofun⟩
    · cases h

theorem clearSetting_named {v : Nat} (h : v ≤ 1) : clearSetting v = .some (decide (v = 1)) := by
  interval_cases v <;> rfl

theorem clearSetting_some {v : Nat} {x : Bool} (h : clearSetting v = .some x) : v ≤ 1 := by
  unfold clearSetting at h
  split at h
  · exact Nat.zero_le 1
  · exact le_rfl
  · cases h

/-- An on/off option after a setting. -/
abbrev switched (v : Nat) (old : Bool) : Bool := if v = 0 then old else v = 2

/-- The options after settings that the port takes. -/
abbrev optionsSet (r : SetLinkReq) (old : LinkOptions) : LinkOptions :=
  { longFrames := switched r.longFrames old.longFrames, broadcast := switched r.broadcast old.broadcast
    group := if r.group = 0xFF then old.group else r.group
    overrunClear := switched r.overrunClear old.overrunClear }

theorem linkOptionsAfter_named {r : SetLinkReq} {o : LinkOptions} (h : Settable p r) :
    linkOptionsAfter p r o = .some (optionsSet r o) := by
  obtain ⟨long, broad, group, clear, -, portA⟩ := h
  have named {α : Type} (b : Prop) [Decidable b] (x y : α) : (if b then Option.none else .some x).getD y = if b then y else x := by
    split <;> rfl
  have allowed : ¬(p = .A ∧ ((if r.broadcast = 0 then Option.none else .some (decide (r.broadcast = 2))).isSome = true
      ∨ (if r.group = 0xFF then Option.none else .some r.group).isSome = true)) := by
    rintro ⟨a, names⟩
    obtain ⟨unchanged, same⟩ := portA a
    simp [unchanged, same] at names
  simp only [linkOptionsAfter, onOffSetting_named long, onOffSetting_named broad, groupSetting_named group,
    onOffSetting_named clear, if_neg allowed, named]

/-- Settings that a port accepts are on its lists. -/
theorem settable_of_some {r : SetLinkReq} {o o' : LinkOptions} {c : Bool} (h : linkOptionsAfter p r o = .some o')
    (hc : clearSetting r.clearCounters = .some c) : Settable p r := by
  unfold linkOptionsAfter at h
  split at h
  · next lf bc gr oc elf ebc egr eoc =>
    split at h
    · cases h
    · next allowed =>
      obtain ⟨broad, unchanged⟩ := onOffSetting_some ebc
      obtain ⟨group, same⟩ := groupSetting_some egr
      refine ⟨(onOffSetting_some elf).1, broad, group, (onOffSetting_some eoc).1, clearSetting_some hc, fun a => ?_⟩
      simp only [a, true_and, not_or, Bool.not_eq_true, Option.isSome_eq_false_iff, Option.isNone_iff_eq_none] at allowed
      exact ⟨unchanged allowed.1, same allowed.2⟩
  · cases h

theorem decideSetLink_refused {r : SetLinkReq} (h : ¬Settable src.port r) :
    decideSetLink src r s = Answer.refuse .badValue s := by
  unfold decideSetLink
  split
  · next ho hc => exact absurd (settable_of_some ho hc) h
  · rfl

/-- Settles O22: settings on the lists are taken as they are named, and any other refuses the whole. -/
theorem setLinkSetsItsOwnPort : Obligations.SetLinkSetsItsOwnPort := by
  intro src r s loaded p lists onOff old new code
  refine ⟨fun named => served loaded ?_, fun other => served loaded (decideSetLink_refused other)⟩
  have settable : Settable p r := named
  have options : linkOptionsAfter p r old = .some new := linkOptionsAfter_named settable
  obtain ⟨-, -, -, -, clear, -⟩ := named
  have clears : clearSetting r.clearCounters = .some (decide (r.clearCounters = 1)) := clearSetting_named clear
  have body : linkOptionsBytes p new = code new.longFrames ++ (if p = .A then bytesOf 1 0 else code new.broadcast)
      ++ bytesOf 1 (if p = .A then 0 else new.group) ++ code new.overrunClear := by
    cases p <;> rfl
  simp only [decideSetLink]
  rw [options, clears]
  simp only [decide_eq_true_eq, Answer.mk.injEq, true_and]
  exact ⟨rfl, body⟩

end Sys2Proof.Proofs.Links

/-! # The links: frames cut short, and frames screened (R182 to R186) -/

namespace Sys2Proof.Proofs.Links
open Sys2Proof Sys2Proof.Machine Sys2Proof.Proofs.Orders

variable {s : State} {p : Port} {src : Source} {q : LinkPort} {f : RxFrame}

/-! ## A gap, a character error and a line break (R182, R186) -/

/-- The port once the frame being received has ended: the receiver is in HUNT, and the counters change where it was past the
synchronisation. -/
def frameEnded (f : LinkCounters → LinkCounters) (q : LinkPort) : LinkPort :=
  { q with rx := if q.rx.state = .hunt then q.rx else Receiver.hunt
           counters := if q.rx.state ∈ [.header, .payload, .check] then f q.counters else q.counters }

theorem charError_eq (q : LinkPort) : q.charError = frameEnded (fun k => { k with framing := saturatingSucc k.framing }) q := by
  cases h : q.rx.state <;> simp [LinkPort.charError, frameEnded, h, LinkPort.toHunt, LinkPort.count]

theorem gap_eq (q : LinkPort) : q.gap = frameEnded (fun k => { k with gap := saturatingSucc k.gap }) q := by
  cases h : q.rx.state <;> simp [LinkPort.gap, frameEnded, h, LinkPort.toHunt, LinkPort.count]

/-- With no break in progress the receiver takes every character. -/
theorem frameReceived_unbroken (h : (s.port p).inBreak = false) (chars : List LinkChar) :
    exec (.frameReceived p chars) s = .next (s.modPort p fun q => chars.foldl (LinkPort.takeChar p s.straps.station) q) :=
  congrArg Host.Outcome.next (modPort_congr (if_neg (Bool.eq_false_iff.1 h)))

theorem takeChar_error {c : LinkChar} (h : charIsError c = true) (station : Nat) (q : LinkPort) :
    q.takeChar p station c = q.charError := if_pos h

/-- Settles O16: a gap and a character error end the frame, and a line break is a character error that marks the break. -/
theorem gapAndErrorEndTheFrame : Obligations.GapAndErrorEndTheFrame := by
  intro p c s unbroken erroneous inFrame ended rise
  refine ⟨congrArg Host.Outcome.next (modPort_congr (gap_eq _)), ?_, ?_⟩
  · rw [frameReceived_unbroken unbroken]
    exact congrArg Host.Outcome.next (modPort_congr ((takeChar_error erroneous ..).trans (charError_eq _)))
  · rw [State.modPort_modPort]
    exact congrArg Host.Outcome.next (modPort_congr (congrArg (fun q => { q with inBreak := true }) (charError_eq _)))

/-! ## An addressed frame screened (R184) -/

theorem isRequestKind_iff {k : Nat} : isRequestKind k = true ↔ 1 ≤ k ∧ k ≤ 0x16 := by simp [isRequestKind]

/-- The KIND of a response, in the byte that holds it. -/
theorem responseKind (k : Byte) : BitVec.ofNat 8 (k.toNat + 0x80) = k + 0x80#8 := by
  apply BitVec.eq_of_toNat_eq
  simp

/-- The response with which the screening turns a frame away (R184). -/
abbrev screenResponse (p : Port) (f : RxFrame) (code : Nat) (s : State) : TxFrame :=
  { address := if p = .A then f.address else BitVec.ofNat 8 s.straps.station
    kind := f.kind + 0x80#8, payload := [BitVec.ofNat 8 code] }

theorem responseFrame_screen (st : Status) (s : State) :
    responseFrame { port := p, address := f.address.toNat } f.kind.toNat st [] s = screenResponse p f (statusCode st) s := by
  unfold responseFrame
  rw [responseKind]
  cases p <;> simp [responseAddress, bytesOf]

/-- A free port that takes a frame and turns it away sends that response and handles nothing. -/
theorem sendResponse_screen (free : (s.port p).mayTake = true) (rest : List RxFrame) (st : Status) :
    sendResponse { port := p, address := f.address.toNat } f.kind.toNat st [] (s.modPort p fun q => { q with buffers := rest })
      = s.modPort p fun q =>
        { q with buffers := rest, responses := [screenResponse p f (statusCode st) s], handling := .none } := by
  obtain ⟨handling, responses, -⟩ := mayTake_iff.1 free
  unfold sendResponse
  rw [State.modPort_modPort]
  refine modPort_congr ?_
  simp only [Function.comp, responseFrame_screen, screenResponse, State.modPort_straps, responses, handling, List.nil_append]

/-- The first check that a frame fails gives the response. -/
theorem takeAddressed_unknownKind (h : ¬(1 ≤ f.kind.toNat ∧ f.kind.toNat ≤ 0x16)) :
    takeAddressed p f s = sendResponse { port := p, address := f.address.toNat } f.kind.toNat .unknownKind [] s :=
  if_pos (mt isRequestKind_iff.1 h)

section
variable (named : 1 ≤ f.kind.toNat ∧ f.kind.toNat ≤ 0x16)
include named

theorem takeAddressed_notReady (unloaded : s.cal.loaded = false) (other : f.kind.toNat ≠ 0x01) :
    takeAddressed p f s = sendResponse { port := p, address := f.address.toNat } f.kind.toNat .notReady [] s := by
  simp only [takeAddressed, isRequestKind_iff.2 named, not_true, if_false, unloaded, other, ne_eq, not_false_eq_true, and_self, if_true]

variable (ready : s.cal.loaded = true ∨ f.kind.toNat = 0x01)
include ready

theorem takeAddressed_badLength (wrong : lengthRight f.kind.toNat f.payload = false) :
    takeAddressed p f s = sendResponse { port := p, address := f.address.toNat } f.kind.toNat .badLength [] s := by
  have passes : ¬(s.cal.loaded = false ∧ f.kind.toNat ≠ 0x01) := by rcases ready with h | h <;> simp [h]
  simp [takeAddressed, isRequestKind_iff.2 named, passes, wrong]

theorem takeAddressed_passed (right : lengthRight f.kind.toNat f.payload = true) :
    takeAddressed p f s = s.modPort p fun q =>
      { q with handling := requestOf { port := p, address := f.address.toNat } f.kind.toNat f.payload } := by
  have passes : ¬(s.cal.loaded = false ∧ f.kind.toNat ≠ 0x01) := by rcases ready with h | h <;> simp [h]
  simp [takeAddressed, isRequestKind_iff.2 named, passes, right]

omit ready in
/-- Every KIND of a request spells one. -/
theorem requestOf_isSome (src : Source) (bs : List Byte) : ∃ i, requestOf src f.kind.toNat bs = .some i := by
  obtain ⟨low, high⟩ := named
  generalize f.kind.toNat = k at low high
  interval_cases k <;> exact ⟨_, rfl⟩

end

/-! ## A shared frame (R185) -/

theorem takeShared_acted {t : State} (h : sharedEffect f s = .some t) : takeShared p f s = t := by
  simp only [takeShared, h]

theorem takeShared_ignored (h : sharedEffect f s = .none) :
    takeShared p f s = s.modPort p (LinkPort.count fun c => { c with ignored := saturatingSucc c.ignored }) := by
  simp only [takeShared, h]

/-- What a shared frame acted on does. -/
theorem sharedEffect_some {t : State} (h : sharedEffect f s = .some t) :
    t = holdAllEffect s ∨ t = resumeAllEffect s ∨ t = { s with lamps := t.lamps } := by
  unfold sharedEffect at h
  split at h
  · cases h
  · split at h
    · exact .inl (Option.some.inj h).symm
    · split at h
      · exact .inr (.inl (Option.some.inj h).symm)
      · split at h
        · exact .inr (.inr (setLampEffect_frame h))
        · cases h

theorem lengthRight_fixed {k n : Nat} (h : fixedLength k = .some n) (bs : List Byte) : lengthRight k bs = decide (bs.length = n) := by
  simp only [lengthRight, h]

theorem sharedEffect_holdAll (loaded : s.cal.loaded = true) (kind : f.kind = 0x09#8) (empty : f.payload = []) :
    sharedEffect f s = .some (holdAllEffect s) := by
  simp [sharedEffect, loaded, kind, empty, lengthRight_fixed (k := 9) rfl]

theorem sharedEffect_resumeAll (loaded : s.cal.loaded = true) (kind : f.kind = 0x0A#8) (empty : f.payload = []) :
    sharedEffect f s = .some (resumeAllEffect s) := by
  simp [sharedEffect, loaded, kind, empty, lengthRight_fixed (k := 10) rfl]

theorem sharedEffect_setLamp {g a r : Byte} (loaded : s.cal.loaded = true) (kind : f.kind = 0x15#8) (payload : f.payload = [g, a, r]) :
    sharedEffect f s = setLampEffect g.toNat a.toNat r.toNat s := by
  simp [sharedEffect, loaded, kind, payload, lengthRight_fixed (k := 21) rfl, field, natOf]

/-- A frame of another KIND, of a wrong length, or taken before the load has completed is not acted on. -/
theorem sharedEffect_ignored (h : s.cal.loaded = false ∨ (f.kind ≠ 0x09#8 ∧ f.kind ≠ 0x0A#8 ∧ f.kind ≠ 0x15#8)
      ∨ (f.kind ≠ 0x15#8 ∧ f.payload ≠ []) ∨ (f.kind = 0x15#8 ∧ f.payload.length ≠ 3)) : sharedEffect f s = .none := by
  unfold sharedEffect
  split
  · rfl
  · next acts =>
    obtain ⟨loaded, right⟩ := not_or.1 acts
    have fixed {n : Nat} (k : Nat) (kind : f.kind.toNat = k) (fixed : fixedLength k = .some n) : f.payload.length = n := by
      rw [kind, lengthRight_fixed fixed] at right
      simpa using right
    have hold : f.kind ≠ 0x09#8 := fun kind => by
      have empty := fixed 9 (by rw [kind]; rfl) rfl
      simp_all
    have resume : f.kind ≠ 0x0A#8 := fun kind => by
      have empty := fixed 10 (by rw [kind]; rfl) rfl
      simp_all
    have lamp : f.kind ≠ 0x15#8 := fun kind => by
      have three := fixed 21 (by rw [kind]; rfl) rfl
      simp_all
    rw [if_neg hold, if_neg resume, if_neg lamp]

/-- Settles O17: the checks of an addressed frame in their order, and the kinds of a shared one. -/
theorem frameTakenIsScreened : Obligations.FrameTakenIsScreened := by
  refine ⟨fun p f rest s front addressed handling responses unbroken => ?_,
    fun f rest g a r s front shared handling responses unbroken => ?_⟩
  · intro src reply taken
    have free : (s.port p).mayTake = true := mayTake_iff.2 ⟨handling, responses, unbroken⟩
    have start : exec (.frameTaken p) s = .next (takeAddressed p f (s.modPort p fun q => { q with buffers := rest })) := by
      simp only [frameTaken_free front free, addressed, Bool.false_eq_true, if_false]
    have kindNe (other : f.kind ≠ 0x01#8) : f.kind.toNat ≠ 0x01 := fun e => other (BitVec.eq_of_toNat_eq e)
    have isReady (ready : s.cal.loaded = true ∨ f.kind = 0x01#8) :
        (s.modPort p fun q => { q with buffers := rest }).cal.loaded = true ∨ f.kind.toNat = 0x01 := by
      rw [State.modPort_cal]
      exact ready.imp_right (congrArg BitVec.toNat)
    rw [start]
    refine ⟨fun unknown => ?_, fun low high unloaded other => ?_, fun low high ready wrong => ?_, fun low high ready right => ?_⟩
    · rw [takeAddressed_unknownKind unknown, sendResponse_screen free]
      rfl
    · rw [takeAddressed_notReady ⟨low, high⟩ (by rwa [State.modPort_cal]) (kindNe other), sendResponse_screen free]
      rfl
    · rw [takeAddressed_badLength ⟨low, high⟩ (isReady ready) wrong, sendResponse_screen free]
      rfl
    · obtain ⟨i, spelt⟩ := requestOf_isSome ⟨low, high⟩ src f.payload
      refine ⟨i, spelt, congrArg Host.Outcome.next ?_⟩
      rw [takeAddressed_passed ⟨low, high⟩ (isReady ready) right, spelt, State.modPort_modPort]
      refine modPort_congr ?_
      simp only [Function.comp, responses]
  · intro s1 modes
    have free : (s.port .B).mayTake = true := mayTake_iff.2 ⟨handling, responses, unbroken⟩
    have start : exec (.frameTaken .B) s = .next (takeShared .B f s1) := by
      simp only [frameTaken_free (p := .B) front free, shared, if_true]
      rfl
    rw [start]
    refine ⟨fun loaded kind empty => ?_, fun loaded kind empty => ?_, fun loaded kind payload hg ha hr => ?_, fun unfit => ?_⟩
    · rw [takeShared_acted (sharedEffect_holdAll (s := s1) loaded kind empty)]
    · rw [takeShared_acted (sharedEffect_resumeAll (s := s1) loaded kind empty)]
    · rw [takeShared_acted ((sharedEffect_setLamp (s := s1) loaded kind payload).trans (Lamps.setLampEffect_named hg ha hr))]
    · have ignored : sharedEffect f s1 = .none := by
        rcases unfit with unloaded | other | wrong | wrong | ⟨kind, payload, refused⟩
        · exact sharedEffect_ignored (.inl unloaded)
        · exact sharedEffect_ignored (.inr (.inl other))
        · exact sharedEffect_ignored (.inr (.inr (.inl wrong)))
        · exact sharedEffect_ignored (.inr (.inr (.inr wrong)))
        · by_cases loaded : s1.cal.loaded = true
          · rw [sharedEffect_setLamp loaded kind payload, Lamps.setLampEffect_refused refused]
          · exact sharedEffect_ignored (.inl (Bool.eq_false_iff.2 loaded))
      rw [takeShared_ignored ignored]
      rfl

end Sys2Proof.Proofs.Links

/-! # The links: a whole frame received, and a notice posted (R179 to R183, R189, R190) -/

namespace Sys2Proof.Proofs.Links
open Sys2Proof Sys2Proof.Machine Sys2Proof.Proofs.Orders

variable {s : State} {p : Port} {q : LinkPort} {r : Receiver} {station : Nat} {address kind : Byte} {payload : List Byte}

/-! ## Sound characters (R178) -/

theorem charIsError_charOfByte (b : Byte) : charIsError (charOfByte b) = false := by simp [charIsError, charOfByte]

/-- The receiver takes the bytes of a run of sound characters. -/
abbrev takeBytes (p : Port) (station : Nat) (q : LinkPort) (bytes : List Byte) : LinkPort :=
  bytes.foldl (fun q b => q.takeByte p station b) q

theorem takeChars_sound (p : Port) (station : Nat) (q : LinkPort) (bytes : List Byte) :
    (bytes.map charOfByte).foldl (LinkPort.takeChar p station) q = takeBytes p station q bytes := by
  rw [List.foldl_map]
  congr 1
  funext q b
  simp only [LinkPort.takeChar, charIsError_charOfByte, Bool.false_eq_true, if_false]
  rfl

/-! ## The check bytes (R181) -/

theorem bytesOf_natOf (bs : List Byte) : bytesOf bs.length (natOf bs) = bs := by
  induction bs using List.reverseRecOn with
  | nil => rfl
  | append_singleton bs b ih =>
    have low := b.isLt
    rw [List.length_append, List.length_singleton, bytesOf, natOf_append1, show (natOf bs * 256 + b.toNat) / 256 = natOf bs by omega,
      ih, List.append_cancel_left_eq, List.singleton_inj]
    apply BitVec.eq_of_toNat_eq
    rw [BitVec.toNat_ofNat]
    omega

/-- The CRC agrees with two received bytes exactly where they are its own. -/
theorem crc_agrees_iff {check bytes : List Byte} (two : check.length = 2) :
    crc16 bytes = BitVec.ofNat 16 (natOf check) ↔ check = checkBytes bytes := by
  have spelt : bytesOf 2 (natOf check) = check := two ▸ bytesOf_natOf check
  constructor
  · intro agrees
    have small : natOf check < 65536 := by
      rw [← spelt, natOf_bytesOf]
      exact Nat.mod_lt _ (by decide)
    rw [checkBytes, agrees, BitVec.toNat_ofNat, Nat.mod_eq_of_lt small, spelt]
  · rintro rfl
    apply BitVec.eq_of_toNat_eq
    have := (crc16 bytes).isLt
    rw [checkBytes, natOf_bytesOf, BitVec.toNat_ofNat]
    omega

/-! ## The parts of a frame (R179) -/

/-- What the receiver holds once the header has come, with a LENGTH of `n`. -/
def headed (p : Port) (station : Nat) (o : LinkOptions) (address kind : Byte) (n : Nat) : Receiver :=
  { Receiver.hunt with
    state := .header, skipping := !accepts p station o address, shared := isShared p station o address
    header := address :: kind :: bytesOf 2 n }

theorem headed_length {o : LinkOptions} {n : Nat} (h : n ≤ 65535) : (headed p station o address kind n).length = n := by
  simp only [Receiver.length, headed, List.drop_succ_cons, List.drop_zero]
  rw [List.take_of_length_le (length_bytesOf 2 n).le, natOf_bytesOf]
  omega

/-- The end of the header does not look at what the receiver held before. -/
@[simp] theorem headerDone_rx (old : Receiver) : LinkPort.headerDone r { q with rx := old } = q.headerDone r := rfl

/-- From HUNT the synchronisation bytes and a header bring the receiver to the header's end. -/
theorem takeBytes_header (hunt : q.rx = Receiver.hunt) (n : Nat) :
    takeBytes p station q (0x5A#8 :: 0xC3#8 :: address :: kind :: bytesOf 2 n)
      = q.headerDone (headed p station q.options address kind n) := by
  simp [takeBytes, bytesOf, LinkPort.takeByte, hunt, Receiver.hunt, headed]

/-- The receiver past its header, with `k` bytes of the payload taken. -/
def atPayload (r : Receiver) (k : Nat) (before : List Byte) : Receiver :=
  { r with state := .payload, taken := k, payload := if r.skipping then [] else before }

/-- The receiver past the payload. -/
def atCheck (r : Receiver) (payload : List Byte) : Receiver :=
  { r with state := .check, taken := r.length, payload := if r.skipping then [] else payload }

/-- A byte of the payload is kept unless the frame is skipped, and the last leads to the check. -/
theorem takeByte_payload (k : Nat) (before : List Byte) (b : Byte) :
    LinkPort.takeByte p station b { q with rx := atPayload r k before }
      = { q with rx := if k + 1 < r.length then atPayload r (k + 1) (before ++ [b])
                       else { atPayload r (k + 1) (before ++ [b]) with state := .check } } := by
  have kept : (if r.skipping then [] else (if r.skipping then [] else before) ++ [b]) = if r.skipping then [] else before ++ [b] := by
    split <;> rfl
  dsimp only [LinkPort.takeByte, atPayload]
  rw [kept]
  show (if k + 1 < r.length then _ else _) = _
  split <;> rfl

/-- The bytes of a payload, the last of which leads to the check. -/
theorem takeBytes_payload {k : Nat} {before : List Byte} (fits : k + payload.length = r.length) (nonempty : payload ≠ []) :
    takeBytes p station { q with rx := atPayload r k before } payload = { q with rx := atCheck r (before ++ payload) } := by
  induction payload generalizing k before with
  | nil => exact absurd rfl nonempty
  | cons b rest ih =>
    rw [takeBytes, List.foldl_cons, takeByte_payload]
    rw [List.length_cons] at fits
    cases rest with
    | nil =>
      have last : k + 1 = r.length := by simpa using fits
      rw [if_neg (by omega), last]
      rfl
    | cons c rest =>
      rw [if_pos (by simp at fits; omega)]
      simpa using ih (k := k + 1) (before := before ++ [b]) (by omega) (by simp)

/-- A header that passes goes on to the payload, or to the check where there is none. -/
theorem headerDone_passed {n : Nat} (fits : n ≤ 65535)
    (within : accepts p station q.options address = true → n ≤ Config.payloadLimit q.options.longFrames) :
    q.headerDone (headed p station q.options address kind n)
      = { q with rx := { headed p station q.options address kind n with state := if n = 0 then .check else .payload } } := by
  rw [LinkPort.headerDone, if_neg, headed_length fits]
  rw [headed_length fits]
  simpa [headed] using within

/-- From a header that passed a payload of its LENGTH leads to the check. -/
theorem takeBytes_body (length : r.length = payload.length) (start : r.taken = 0) (fresh : r.payload = []) :
    takeBytes p station { q with rx := { r with state := if payload.length = 0 then .check else .payload } } payload
      = { q with rx := atCheck r payload } := by
  cases payload with
  | nil =>
    refine congrArg (fun r => { q with rx := r }) ?_
    simp only [atCheck, length, start, fresh, ite_self]
    rfl
  | cons b rest =>
    have body := takeBytes_payload (p := p) (q := q) (station := station) (r := r) (k := 0) (before := [])
      ((Nat.zero_add _).trans length.symm) (List.cons_ne_nil b rest)
    simp only [atPayload, ite_self, List.nil_append] at body
    rw [← body, if_neg (by simp), start, fresh]

/-- The two check bytes have the frame judged. -/
theorem takeBytes_check {check : List Byte} (two : check.length = 2) (old : r.check = []) :
    takeBytes p station { q with rx := atCheck r payload } check
      = q.judgeFrame { atCheck r payload with check := check } := by
  obtain ⟨a, b, rfl⟩ := List.length_eq_two.1 two
  simp only [takeBytes, List.foldl_cons, List.foldl_nil, LinkPort.takeByte, atCheck, old, List.nil_append, List.length_cons,
    List.length_nil, Nat.reduceAdd, Nat.reduceLT, if_true, if_false, List.cons_append, Nat.lt_irrefl]
  rfl

/-- The receiver of a whole frame at its end. -/
abbrev received (p : Port) (station : Nat) (o : LinkOptions) (address kind : Byte) (payload check : List Byte) : Receiver :=
  { atCheck (headed p station o address kind payload.length) payload with check := check }

/-- A frame whose LENGTH does not end it at its header is judged with all that came. -/
theorem takeBytes_frame (hunt : q.rx = Receiver.hunt) (fits : payload.length ≤ 65535) {check : List Byte} (two : check.length = 2)
    (within : accepts p station q.options address = true → payload.length ≤ Config.payloadLimit q.options.longFrames) :
    takeBytes p station q (0x5A#8 :: 0xC3#8 :: (frameCore address kind payload ++ check))
      = q.judgeFrame (received p station q.options address kind payload check) := by
  have parts : 0x5A#8 :: 0xC3#8 :: (frameCore address kind payload ++ check)
      = (0x5A#8 :: 0xC3#8 :: address :: kind :: bytesOf 2 payload.length) ++ payload ++ check := by simp [frameCore]
  rw [parts, takeBytes, List.foldl_append, List.foldl_append]
  calc takeBytes p station (takeBytes p station (takeBytes p station q
          (0x5A#8 :: 0xC3#8 :: address :: kind :: bytesOf 2 payload.length)) payload) check
      = takeBytes p station { q with rx := atCheck (headed p station q.options address kind payload.length) payload } check := by
        rw [takeBytes_header hunt, headerDone_passed fits within, takeBytes_body (headed_length fits) rfl rfl]
    _ = q.judgeFrame (received p station q.options address kind payload check) := takeBytes_check two rfl

/-! ## The frame judged (R181 to R183) -/

theorem toHunt_of_hunt (hunt : q.rx = Receiver.hunt) : q.toHunt = q := by
  rw [LinkPort.toHunt, ← hunt]

/-- A frame that the port does not take leaves no trace. -/
theorem judgeFrame_skipped {check : List Byte} (hunt : q.rx = Receiver.hunt) (passed : accepts p station q.options address = false) :
    q.judgeFrame (received p station q.options address kind payload check) = q := by
  rw [LinkPort.judgeFrame, if_pos, toHunt_of_hunt hunt]
  simp [atCheck, headed, passed]

section
variable (hunt : q.rx = Receiver.hunt) (taken : accepts p station q.options address = true)
include hunt taken

/-- A frame taken is judged by its check bytes. -/
theorem judgeFrame_taken {check : List Byte} (two : check.length = 2) :
    q.judgeFrame (received p station q.options address kind payload check)
      = if check = checkBytes (frameCore address kind payload) then
          q.enqueue { address := address, kind := kind, payload := payload, shared := isShared p station q.options address }
        else { q with counters := { q.counters with crc := saturatingSucc q.counters.crc } } := by
  have kept : (received p station q.options address kind payload check).skipping = false := by simp [atCheck, headed, taken]
  have whole : (received p station q.options address kind payload check).payload = payload := by simp [atCheck, headed, taken]
  have core : (received p station q.options address kind payload check).header
      ++ (received p station q.options address kind payload check).payload = frameCore address kind payload := by
    rw [whole]
    simp [atCheck, headed, frameCore]
  rw [LinkPort.judgeFrame, if_neg (Bool.eq_false_iff.1 kept), core, toHunt_of_hunt hunt, whole]
  by_cases right : check = checkBytes (frameCore address kind payload)
  · rw [if_pos ((crc_agrees_iff two).2 right), if_pos right]
    rfl
  · rw [if_neg (mt (crc_agrees_iff two).1 right), if_neg right]
    rfl

/-- A LENGTH above the limit ends the frame at its header. -/
theorem takeBytes_tooLong {n : Nat} (fits : n ≤ 65535) (above : Config.payloadLimit q.options.longFrames < n) :
    takeBytes p station q (0x5A#8 :: 0xC3#8 :: address :: kind :: bytesOf 2 n)
      = { q with counters := { q.counters with length := saturatingSucc q.counters.length } } := by
  rw [takeBytes_header hunt, LinkPort.headerDone, headed_length fits, if_pos (by simp [headed, taken, above]), toHunt_of_hunt hunt]
  rfl

end

/-! ## The receive buffers (R183) -/

theorem enqueue_room {f : RxFrame} (h : q.buffers.length < 2) : q.enqueue f = { q with buffers := q.buffers ++ [f] } := if_pos h

/-- With both buffers full the frame is dropped and counted. -/
theorem enqueue_dropped {f a b : RxFrame} (full : q.buffers = [a, b]) (keep : q.options.overrunClear = false) :
    q.enqueue f = { q with counters := { q.counters with overrun := saturatingSucc q.counters.overrun } } := by
  simp [LinkPort.enqueue, full, Config.receiveBuffers, LinkPort.count, keep]

/-- The port once the frame and the older one buffered are dropped and counted. -/
abbrev overrun (b : RxFrame) (q : LinkPort) : LinkPort :=
  { q with buffers := [b]
           counters := { q.counters with overrun := saturatingSucc (saturatingSucc q.counters.overrun) } }

/-- With overrun-clear the older frame is dropped and counted too, and LINK OVERRUN posted. -/
theorem enqueue_cleared {f a b : RxFrame} (full : q.buffers = [a, b]) (clear : q.options.overrunClear = true) :
    q.enqueue f = (overrun b q).post
      { kind := .linkOverrun, orderId := 0, origin := .none, seq := 0
        value := saturatingSucc (saturatingSucc q.counters.overrun) } := by
  simp [LinkPort.enqueue, full, Config.receiveBuffers, LinkPort.count, clear, plainNotice]

/-! ## The addresses that a port takes (R180) -/

theorem accepts_iff {o : LinkOptions} : accepts p station o address = true
    ↔ p = .A ∨ address.toNat = station ∨ (address = 0#8 ∧ o.broadcast = true) ∨ (address.toNat = o.group ∧ o.group ≠ 0) := by
  have zero : address.toNat = 0 ↔ address = 0#8 := ⟨fun e => BitVec.eq_of_toNat_eq e, fun e => e ▸ rfl⟩
  cases p with
  | A => simp [accepts]
  | B => simp [accepts, zero, or_assoc]

/-- Of the frames that port B takes those not under its station address are shared. -/
theorem isShared_of_accepts {o : LinkOptions} (taken : accepts p station o address = true) :
    isShared p station o address = decide (p = .B ∧ address.toNat ≠ station) := by
  cases p with
  | A => simp [isShared]
  | B => simp [isShared, taken]

/-- Characters that bring the receiver back to HUNT leave the port as the bytes leave it. -/
theorem frameReceived_bytes {q' : LinkPort} {bytes : List Byte} (unbroken : (s.port p).inBreak = false)
    (h : takeBytes p s.straps.station (s.port p) bytes = q') :
    exec (.frameReceived p (bytes.map charOfByte)) s = .next (s.modPort p fun _ => q') := by
  rw [frameReceived_unbroken unbroken]
  exact congrArg Host.Outcome.next (modPort_congr ((takeChars_sound ..).trans h))

theorem postBoth_eq (n : Notice) (s : State) : postBoth n s = { s with portA := s.portA.post n, portB := s.portB.post n } := rfl

/-- Settles O15: the frame is judged by its address, its LENGTH and its check, and the buffers and the queue by their room. -/
theorem wholeFrameIsReceived : Obligations.WholeFrameIsReceived := by
  refine ⟨fun p address kind payload s hunt unbroken => ?_, fun p n s => ⟨rfl, postBoth_eq n s⟩⟩
  intro q takes limit rise core arrives frame twice
  have arrived {bytes : List Byte} {q' : LinkPort} (h : takeBytes p s.straps.station q (0x5A#8 :: 0xC3#8 :: bytes) = q') :
      arrives bytes q' := frameReceived_bytes unbroken h
  refine ⟨fun took within => ?taken, fun took n above fits => ?tooLong, fun other fits check two => ?skipped⟩
  case taken =>
    have taken : accepts p s.straps.station q.options address = true := accepts_iff.2 took
    have small : limit ≤ 1024 := by unfold limit; split <;> decide
    have judged {check : List Byte} (two : check.length = 2) := (takeBytes_frame (kind := kind) hunt (by omega) two
      fun _ => within).trans (judgeFrame_taken hunt taken two)
    have sound : takeBytes p s.straps.station q (0x5A#8 :: 0xC3#8 :: (core ++ checkBytes core)) = q.enqueue frame := by
      refine (judged (length_bytesOf 2 _)).trans ((if_pos rfl).trans ?_)
      rw [isShared_of_accepts taken, Bool.decide_and]
    refine ⟨fun room => arrived (sound.trans (enqueue_room room)), fun a b full => ⟨fun keep => ?_, fun clear room => ?_,
      fun clear queued => ?_⟩, fun check two wrong => arrived ((judged two).trans (if_neg wrong))⟩
    · exact arrived (sound.trans (enqueue_dropped full keep))
    · exact arrived (sound.trans ((enqueue_cleared full clear).trans (LinkPort.post_room room)))
    · exact arrived (sound.trans ((enqueue_cleared full clear).trans (LinkPort.post_full (not_lt.2 queued))))
  case tooLong => exact arrived (takeBytes_tooLong hunt (accepts_iff.2 took) fits above)
  case skipped =>
    have passed : accepts p s.straps.station q.options address = false := Bool.eq_false_iff.2 (mt accepts_iff.1 other)
    exact arrived ((takeBytes_frame hunt fits two fun taken => absurd taken (Bool.eq_false_iff.1 passed)).trans
      (judgeFrame_skipped hunt passed))

end Sys2Proof.Proofs.Links

/-! # A port in order through what is posted to it (R182, R189, R190)

No shared operation touches a port but by posting to it, and posting keeps R190 and the bounds of the lost count (`PortsKept`). -/

namespace Sys2Proof.Proofs.Links
open Sys2Proof Sys2Proof.Machine Sys2Proof.Proofs.Orders

variable {a s t : State} {o : Order} {p : Port} {q r : LinkPort}

/-! ## A port kept in order -/

/-- On the way from `q` to `r` a port keeps the rule of R190 and its bounds. -/
structure PortKept (q r : LinkPort) : Prop where
  notices : q.NoticesOk → r.NoticesOk
  bounds : q.BoundsOk → r.BoundsOk

theorem PortKept.refl (q : LinkPort) : PortKept q q := ⟨id, id⟩

theorem PortKept.trans {u : LinkPort} (h : PortKept q r) (k : PortKept r u) : PortKept q u :=
  ⟨k.notices ∘ h.notices, k.bounds ∘ h.bounds⟩

theorem PortKept.post (n : Notice) (q : LinkPort) : PortKept q (q.post n) := by
  refine ⟨LinkPort.post_noticesOk, fun h => ?_⟩
  obtain ⟨buffers, lost, counters⟩ := h
  by_cases room : q.notices.length < 32
  · rw [LinkPort.post_room room]
    exact ⟨buffers, lost, counters⟩
  · rw [LinkPort.post_full room]
    exact ⟨buffers, saturatingSucc_le lost, counters⟩

/-- On the way from `a` to `t` both ports keep the rule of R190 and their bounds. -/
structure PortsKept (a t : State) : Prop where
  port : ∀ p, PortKept (a.port p) (t.port p)

theorem PortsKept.refl (s : State) : PortsKept s s := ⟨fun _ => .refl _⟩

/-- The ports stand. -/
theorem PortsKept.same (h : PortsKept a s) (e : ∀ p, t.port p = s.port p) : PortsKept a t := ⟨fun p => e p ▸ h.port p⟩

theorem PortsKept.quiet (h : PortsKept a s) (e : t.portA = s.portA ∧ t.portB = s.portB) : PortsKept a t :=
  h.same fun p => by cases p; exacts [e.1, e.2]

theorem PortsKept.modPort {f : LinkPort → LinkPort} (h : PortsKept a s) (k : PortKept (s.port p) (f (s.port p))) :
    PortsKept a (s.modPort p f) := by
  refine ⟨fun q => ?_⟩
  by_cases e : q = p
  · subst e
    rw [State.modPort_port_self]
    exact (h.port q).trans k
  · rw [State.modPort_port_other e]
    exact h.port q

theorem PortsKept.postTo {n : Notice} (h : PortsKept a s) : PortsKept a (postTo p n s) := h.modPort (.post n _)

theorem PortsKept.postBoth {n : Notice} (h : PortsKept a s) : PortsKept a (postBoth n s) := h.postTo.postTo

theorem PortsKept.noticesOk (h : PortsKept s t) (ok : s.NoticesOk) : t.NoticesOk :=
  ⟨(h.port .A).notices ok.1, (h.port .B).notices ok.2⟩

theorem PortsKept.linksOk (h : PortsKept s t) (ok : s.LinksOk) : t.LinksOk :=
  ⟨(h.port .A).bounds ok.1, (h.port .B).bounds ok.2⟩

/-! ## Records written, and the end of an order -/

theorem PortsKept.judgePointsLow (h : PortsKept a s) : PortsKept a (judgePointsLow s) := by
  unfold Machine.judgePointsLow
  split
  · exact h
  · split
    · exact PortsKept.postTo (h.quiet ⟨rfl, rfl⟩)
    · exact h

theorem PortsKept.postResultsWaiting {seq : Nat} (h : PortsKept a s) : PortsKept a (postResultsWaiting o seq s) :=
  PortsKept.quiet h.postTo ⟨rfl, rfl⟩

theorem PortsKept.writeRecord {x : Record} (h : PortsKept a s) : PortsKept a (writeRecord o x s) := by
  have counted (u : State) (hu : PortsKept a u) (seq : Nat) : PortsKept a (countWaiting o seq u) := by
    unfold countWaiting
    dsimp only
    split
    · exact PortsKept.postResultsWaiting (hu.quiet ⟨rfl, rfl⟩)
    · exact hu.quiet ⟨rfl, rfl⟩
  have noted := counted (updOrder o.id (noteSeq s.store.nextSeq) (appendRecord x s)) (h.quiet ⟨rfl, rfl⟩) s.store.nextSeq
  unfold Machine.writeRecord
  dsimp only
  split
  · exact noted
  · exact noted.quiet ⟨rfl, rfl⟩

theorem PortsKept.recordCurrent {st : RecState} {why : Reason} (h : PortsKept a s) : PortsKept a (recordCurrent o st why s) := by
  rcases recordCurrent_cases o st why s with ⟨-, e⟩ | ⟨c, -, e⟩ <;> rw [e]
  · exact h
  · exact h.writeRecord.quiet ⟨rfl, rfl⟩

theorem PortsKept.recordImpressions {why : Reason} (l : List Impression) (h : PortsKept a s) :
    PortsKept a (recordImpressions o why l s) := by
  induction l generalizing s with
  | nil => exact h
  | cons i l ih => exact ih h.writeRecord

theorem PortsKept.endOrder {id : Nat} {out : OrderOutcome} {why : Option AbortReason} (h : PortsKept a s) :
    PortsKept a (endOrder id out why s) := by
  unfold Machine.endOrder
  split
  · exact h
  · exact PortsKept.postResultsWaiting (PortsKept.postTo (h.quiet ⟨rfl, rfl⟩))

theorem PortsKept.considerGrant (h : PortsKept a s) : PortsKept a (considerGrant s).1 := by
  unfold Machine.considerGrant
  split
  · exact h
  · split
    · exact h
    · exact PortsKept.judgePointsLow (PortsKept.postTo (h.quiet ⟨rfl, rfl⟩))

theorem PortsKept.endOwner {id : Nat} {out : OrderOutcome} {why : Option AbortReason} (h : PortsKept a s) :
    PortsKept a (endOwner id out why s).1 :=
  PortsKept.considerGrant ((h.endOrder (id := id) (out := out) (why := why)).quiet ⟨rfl, rfl⟩)

/-- The impressions recorded, the points discarded and the owner ended (R27, R67). -/
theorem PortsKept.windUp {id : Nat} {reason : Reason} {out : OrderOutcome} {why : Option AbortReason} (h : PortsKept a s) :
    PortsKept a (Machine.endOwner id out why (discardPoints o (flushImpressions o reason s))).1 :=
  PortsKept.endOwner ((h.recordImpressions s.seq.impressions).quiet ⟨rfl, rfl⟩)

/-! ## The boundary (R48) -/

theorem PortsKept.takeImpression (h : PortsKept a s) : PortsKept a (takeImpression o s).1 := by
  unfold Machine.takeImpression
  split
  · exact h
  · next i rest _ =>
    have held : PortsKept a (s.modSeq fun q => { q with impressions := rest, cur := .some (CurPoint.ofImpression i) }) :=
      h.quiet ⟨rfl, rfl⟩
    dsimp only
    split
    · exact held.recordCurrent
    · exact held.quiet (by simp)

theorem PortsKept.takePoint (h : PortsKept a s) : PortsKept a (takePoint o s).1 := by
  cases hp : o.points with
  | nil => simpa [Machine.takePoint, hp] using h
  | cons x rest =>
    have taken : PortsKept a (frontTaken o x rest s) := PortsKept.judgePointsLow (h.quiet ⟨rfl, rfl⟩)
    rw [takePoint_cons hp]
    split
    · exact taken.quiet (by simp)
    · exact taken.recordCurrent

theorem PortsKept.boundaryTake (h : PortsKept a s) : PortsKept a (boundaryTake o s).1 := by
  unfold Machine.boundaryTake
  split
  · split
    · exact h.endOwner
    · exact h.quiet (by simp)
  · split
    · exact h.quiet (by simp)
    · exact h.takePoint

theorem PortsKept.boundaryRun (h : PortsKept a s) : PortsKept a (boundaryRun o s).1 := by
  have round (x : RoundPhase) : PortsKept a (s.modSeq fun q => { q with round := x }) := h.quiet ⟨rfl, rfl⟩
  unfold Machine.boundaryRun
  split
  · exact h.boundaryTake
  · split
    · exact (round _).boundaryTake
    · split
      · exact h.takeImpression
      · split
        · exact (round _).takeImpression
        · exact h.boundaryTake

theorem PortsKept.boundaryStep (h : PortsKept a s) : PortsKept a (boundaryStep s).1 := by
  unfold Machine.boundaryStep
  split
  · exact h
  · next o _ =>
    have applied : PortsKept a (updOrder o.id applyPending s) := h.quiet ⟨rfl, rfl⟩
    split
    · exact h.windUp
    · dsimp only
      split
      · rw [boundaryPause_eq]
        exact applied.quiet ⟨rfl, rfl⟩
      · exact applied.boundaryRun

theorem PortsKept.boundary (h : PortsKept a s) : PortsKept a (boundary s) :=
  boundary_keeps (P := PortsKept a) (fun _ h => h.boundaryStep) s h

theorem PortsKept.afterGrant {x : State × Bool} (h : PortsKept a x.1) : PortsKept a (afterGrant x) := by
  unfold Machine.afterGrant
  split
  · exact h.boundary
  · exact h

theorem PortsKept.grant (h : PortsKept a s) : PortsKept a (grant s) :=
  PortsKept.afterGrant (x := Machine.considerGrant s) h.considerGrant

theorem PortsKept.cancelNow (h : PortsKept a s) : PortsKept a (cancelNow o s) := PortsKept.afterGrant h.windUp

theorem PortsKept.setLock {holder : Option Port} (h : PortsKept a s) : PortsKept a (setLock holder s) :=
  PortsKept.grant (PortsKept.postBoth (h.quiet ⟨rfl, rfl⟩))

end Sys2Proof.Proofs.Links

/-! # The operations of the cycle and the desk keep the ports in order -/

namespace Sys2Proof.Proofs.Links
open Sys2Proof Sys2Proof.Machine Sys2Proof.Proofs.Orders

variable {a s t : State} {o : Order} {p : Port}

/-! ## The review desk -/

theorem PortsKept.closeReview {out : ReviewOutcome} {change : Record → Record} (h : PortsKept a s) :
    PortsKept a (closeReview out change s) := by
  unfold Machine.closeReview postReviewClosed
  split
  · exact h
  · dsimp only
    split <;> exact PortsKept.postBoth (h.quiet ⟨rfl, rfl⟩)

theorem PortsKept.supersedeReview (h : PortsKept a s) : PortsKept a (supersedeReview o s) := by
  cases hv : s.desk.review with
  | none => simpa [Machine.supersedeReview, hv] using h
  | some v =>
    cases hx : findRecord v.seq s with
    | none => simpa [Machine.supersedeReview, hv, hx] using h
    | some x =>
      have given : PortsKept a (superseded v x s) := PortsKept.quiet (PortsKept.postBoth (h.quiet ⟨rfl, rfl⟩)) ⟨rfl, rfl⟩
      rw [supersedeReview_some hv hx]
      exact given.quiet (by simp)

theorem PortsKept.afterClose (h : PortsKept a s) : PortsKept a (afterClose s) := by
  unfold Machine.afterClose
  split
  · exact h.boundary
  · exact h

theorem PortsKept.handleFailure {why : Reason} (h : PortsKept a s) : PortsKept a (handleFailure why s) := by
  unfold Machine.handleFailure openReview
  split
  · exact h
  · split
    · exact PortsKept.quiet (PortsKept.postBoth (h.recordCurrent.quiet ⟨rfl, rfl⟩)) ⟨rfl, rfl⟩
    · exact h.recordCurrent.boundary

/-! ## The abort path, retracts, stops and unloads -/

theorem PortsKept.abortRecords {why : AbortReason} (h : PortsKept a s) : PortsKept a (abortRecords why s) := by
  cases ho : ownerOf s with
  | none => simpa [Machine.abortRecords, ho] using h
  | some o =>
    have gathering : PortsKept a (gathered s) := h.quiet ⟨rfl, rfl⟩
    rw [abortRecords_some why ho]
    exact PortsKept.afterGrant gathering.recordCurrent.windUp

theorem PortsKept.abortPath {why : AbortReason} {spent : Bool} (h : PortsKept a s) : PortsKept a (abortPath why spent s) := by
  cases ho : ownerOf s with
  | none => simpa [Machine.abortPath, ho] using h
  | some o =>
    have halting : PortsKept a (halted s) := h.quiet (by simp [halted])
    have retracted : PortsKept a (Machine.abortPath why false s) := by
      rw [abortPath_false why ho]
      split
      · exact (halting.closeReview (out := .aborted) (change := Record.unmeasured .aborted)).quiet (by simp)
      · exact halting.quiet (by simp)
    cases spent
    · exact retracted
    · rw [abortPath_true why ho]
      exact retracted.abortRecords

theorem PortsKept.finishRetract (h : PortsKept a s) : PortsKept a (finishRetract s) := by
  have ended : PortsKept a (retractOver s) := h.quiet ⟨rfl, rfl⟩
  rw [finishRetract_eq]
  split
  · exact ended.recordCurrent.boundary
  · exact ended.recordCurrent.boundary
  · exact ended.abortRecords
  · exact ended

theorem PortsKept.finishStop (h : PortsKept a s) : PortsKept a (finishStop s) := by
  have ended : PortsKept a (stopOver s) := h.quiet ⟨rfl, rfl⟩
  rw [finishStop_eq]
  split
  · exact ended
  · split
    · split
      · exact ended.recordCurrent.boundary
      · split
        · exact ended.quiet (by simp)
        · exact PortsKept.boundary (ended.quiet (by simp))
    · split
      · exact ended.recordCurrent.boundary
      · split <;> exact ended.quiet (by simp)

theorem PortsKept.finishUnload (h : PortsKept a s) : PortsKept a (finishUnload s) := by
  have ended : PortsKept a (unloadOver s) := h.quiet ⟨rfl, rfl⟩
  rw [finishUnload_eq]
  split
  · split
    · exact ended.recordCurrent.boundary
    · split
      · exact PortsKept.boundary (ended.quiet ⟨rfl, rfl⟩)
      · split
        · exact ended.recordCurrent.boundary
        · split <;> exact ended.quiet (by simp)
  · exact ended

theorem PortsKept.judgeRest {motion : Bool} (h : PortsKept a s) : PortsKept a (judgeRest motion s) := by
  unfold Machine.judgeRest
  split
  · split
    · exact h.finishStop
    · exact h
  · split
    · split
      · exact h.finishRetract
      · exact h
    · split
      · exact h.finishUnload
      · exact h
    · exact h

/-! ## Samples, views and measurements -/

/-- Only a sample that ends an unload, a retract or a stop reaches the ports. -/
theorem PortsKept.judgeSample {count : Int} (h : PortsKept a s) : PortsKept a (judgeSample count s) := by
  unfold Machine.judgeSample
  split
  · exact h.judgeRest
  · split
    · exact h.quiet (by simp)
    · exact h.quiet (by simp)
    · exact h.quiet (by simp)
    · exact h.quiet (by simp)
    · exact h.judgeRest
    · exact h.judgeRest
    · exact h

theorem PortsKept.chooseBank {b : BankId} {soft : Bool} (h : PortsKept a s) : PortsKept a (chooseBank b soft o s) :=
  h.quiet ⟨rfl, rfl⟩

theorem PortsKept.captureFailure {why : Reason} (h : PortsKept a s) : PortsKept a (captureFailure why s) :=
  PortsKept.handleFailure (h.quiet ⟨rfl, rfl⟩)

theorem PortsKept.judgeFocus {v : ViewParams} (h : PortsKept a s) : PortsKept a (judgeFocus v o s) := by
  unfold Machine.judgeFocus
  split
  · exact h
  · split
    · exact h.chooseBank
    · split
      · exact h
      · split
        · exact h.chooseBank
        · exact h.captureFailure

theorem PortsKept.takeReport {x : Except Reason Measured} (h : PortsKept a s) : PortsKept a (takeReport o x s) := by
  unfold Machine.takeReport
  split
  · exact h.handleFailure
  · exact PortsKept.boundary (h.writeRecord.quiet ⟨rfl, rfl⟩)
  · exact h

/-! ## Resumes, and the interlocks -/

theorem PortsKept.resumeOwner (h : PortsKept a s) : PortsKept a (resumeOwner o s) := by
  have running : PortsKept a (updOrder o.id (fun o => { o with status := .running }) s) := h.quiet ⟨rfl, rfl⟩
  unfold Machine.resumeOwner
  dsimp only
  split
  · split
    · exact running.quiet (by simp)
    · exact running.boundary
  · exact running.supersedeReview
  · exact running

theorem PortsKept.resumeEffect (h : PortsKept a s) : PortsKept a (resumeEffect o s) := by
  have dropped : PortsKept a (updOrder o.id dropOwn s) := h.quiet ⟨rfl, rfl⟩
  unfold Machine.resumeEffect
  split
  · exact h
  · dsimp only
    split
    · exact dropped
    · split
      · exact dropped.resumeOwner
      · split
        · exact dropped.grant
        · exact dropped

theorem PortsKept.resumeAllEffect (h : PortsKept a s) : PortsKept a (resumeAllEffect s) := by
  have dropped : PortsKept a (deviceDropped s) := h.quiet ⟨rfl, rfl⟩
  unfold Machine.resumeAllEffect
  refine PortsKept.grant ?_
  split
  · exact dropped
  · split
    · exact dropped.resumeOwner
    · exact dropped

theorem PortsKept.postInterlock {e : InterlockEvent} (h : PortsKept a s) : PortsKept a (postInterlock e s) := by
  unfold Machine.postInterlock
  split <;> exact h.postBoth

theorem PortsKept.afterDoor {was : Option DoorLevel} {now : DoorLevel} (h : PortsKept a s) : PortsKept a (afterDoor was now s) := by
  unfold Machine.afterDoor
  split
  · exact h
  · exact h.grant
  · exact (h.postInterlock (e := .doorOpened)).quiet (by simp [doorOpened])
  · exact h.postInterlock.grant

theorem PortsKept.afterEstop {was : Option EstopLevel} {now : EstopLevel} (h : PortsKept a s) : PortsKept a (afterEstop was now s) := by
  unfold Machine.afterEstop estopPressed
  split
  · exact h
  · exact h.grant
  · split
    · exact h.postInterlock
    · exact h.postInterlock.abortPath
  · exact h.postInterlock.grant

end Sys2Proof.Proofs.Links

/-! # The requests, the links and a step keep the ports in order -/

namespace Sys2Proof.Proofs.Links
open Sys2Proof Sys2Proof.Machine Sys2Proof.Proofs.Orders

variable {a s t : State} {o : Order} {p : Port} {src : Source} {q : LinkPort}

/-! ## The counters and the receive buffers of a port (R177, R182) -/

/-- Every counter stops at 65,535. -/
def CountersFit (c : LinkCounters) : Prop :=
  c.framing ≤ Config.counterMax ∧ c.gap ≤ Config.counterMax ∧ c.length ≤ Config.counterMax ∧ c.crc ≤ Config.counterMax
    ∧ c.overrun ≤ Config.counterMax ∧ c.ignored ≤ Config.counterMax

/-- `f` keeps every counter within its bound. -/
def Counts (f : LinkCounters → LinkCounters) : Prop := ∀ c, CountersFit c → CountersFit (f c)

theorem counts_framing : Counts fun c => { c with framing := saturatingSucc c.framing } :=
  fun _ ⟨framing, rest⟩ => ⟨saturatingSucc_le framing, rest⟩

theorem counts_gap : Counts fun c => { c with gap := saturatingSucc c.gap } :=
  fun _ ⟨framing, gap, rest⟩ => ⟨framing, saturatingSucc_le gap, rest⟩

theorem counts_length : Counts fun c => { c with length := saturatingSucc c.length } :=
  fun _ ⟨framing, gap, length, rest⟩ => ⟨framing, gap, saturatingSucc_le length, rest⟩

theorem counts_crc : Counts fun c => { c with crc := saturatingSucc c.crc } :=
  fun _ ⟨framing, gap, length, crc, rest⟩ => ⟨framing, gap, length, saturatingSucc_le crc, rest⟩

theorem counts_overrun : Counts fun c => { c with overrun := saturatingSucc c.overrun } :=
  fun _ ⟨framing, gap, length, crc, overrun, ignored⟩ => ⟨framing, gap, length, crc, saturatingSucc_le overrun, ignored⟩

theorem counts_ignored : Counts fun c => { c with ignored := saturatingSucc c.ignored } :=
  fun _ ⟨framing, gap, length, crc, overrun, ignored⟩ => ⟨framing, gap, length, crc, overrun, saturatingSucc_le ignored⟩

theorem PortKept.count {f : LinkCounters → LinkCounters} (hf : Counts f) (q : LinkPort) : PortKept q (q.count f) :=
  ⟨id, fun ⟨buffers, lost, counters⟩ => ⟨buffers, lost, hf _ counters⟩⟩

/-- A frame buffered or dropped leaves at most two buffered. -/
theorem PortKept.enqueue (f : RxFrame) (q : LinkPort) : PortKept q (q.enqueue f) := by
  unfold LinkPort.enqueue
  split
  · next room => exact ⟨id, fun ⟨_, rest⟩ => ⟨by simpa using room, rest⟩⟩
  · have dropped : PortKept q (q.count fun c => { c with overrun := saturatingSucc c.overrun }) := .count counts_overrun q
    have fewer (r : LinkPort) : PortKept r { r with buffers := r.buffers.drop 1 } :=
      ⟨id, fun ⟨buffers, rest⟩ => ⟨(List.drop_sublist ..).length_le.trans buffers, rest⟩⟩
    dsimp only
    split
    · exact (dropped.trans (fewer _)).trans ((PortKept.count counts_overrun _).trans (.post _ _))
    · exact dropped

theorem PortKept.toHunt (q : LinkPort) : PortKept q q.toHunt := ⟨id, id⟩

theorem PortKept.judgeFrame (r : Receiver) (q : LinkPort) : PortKept q (q.judgeFrame r) := by
  unfold LinkPort.judgeFrame
  split
  · exact .toHunt q
  · split
    · exact (PortKept.toHunt q).trans (.enqueue _ _)
    · exact (PortKept.toHunt q).trans (.count counts_crc _)

theorem PortKept.headerDone (r : Receiver) (q : LinkPort) : PortKept q (q.headerDone r) := by
  unfold LinkPort.headerDone
  split
  · exact (PortKept.toHunt q).trans (.count counts_length _)
  · exact ⟨id, id⟩

theorem PortKept.ite {c : Prop} [Decidable c] {r u : LinkPort} (h : PortKept q r) (k : PortKept q u) :
    PortKept q (if c then r else u) := by
  split
  · exact h
  · exact k

/-- A byte changes the receiver alone, but for the last of a header and the last of a frame. -/
theorem PortKept.takeByte (p : Port) (station : Nat) (b : Byte) (q : LinkPort) : PortKept q (q.takeByte p station b) := by
  have receiving (r : Receiver) : PortKept q { q with rx := r } := ⟨id, id⟩
  unfold LinkPort.takeByte
  split
  · exact .ite (receiving _) (.refl q)
  · exact .ite (receiving _) (.ite (.refl q) (.toHunt q))
  · exact .ite (receiving _) (.ite (receiving _) (.headerDone _ q))
  · exact .ite (receiving _) (receiving _)
  · exact .ite (receiving _) (.judgeFrame _ q)

theorem PortKept.frameEnded {f : LinkCounters → LinkCounters} (hf : Counts f) (q : LinkPort) : PortKept q (frameEnded f q) := by
  refine ⟨id, fun ⟨buffers, lost, counters⟩ => ⟨buffers, lost, ?_⟩⟩
  show CountersFit (if _ then _ else _)
  split
  · exact hf _ counters
  · exact counters

theorem PortKept.charError (q : LinkPort) : PortKept q q.charError := charError_eq q ▸ .frameEnded counts_framing q

theorem PortKept.gap (q : LinkPort) : PortKept q q.gap := gap_eq q ▸ .frameEnded counts_gap q

theorem PortKept.takeChars (p : Port) (station : Nat) (chars : List LinkChar) (q : LinkPort) :
    PortKept q (chars.foldl (LinkPort.takeChar p station) q) := by
  induction chars generalizing q with
  | nil => exact .refl q
  | cons c rest ih =>
    refine PortKept.trans ?_ (ih _)
    unfold LinkPort.takeChar
    split
    · exact .charError q
    · exact .takeByte ..

/-! ## What else changes a port (R186, R187, R191) -/

/-- A port reset empties the port and keeps its counters. -/
theorem PortKept.restart (p : Port) (q : LinkPort) : PortKept q (q.restart p) :=
  ⟨fun _ => ⟨Nat.zero_le _, rfl⟩, fun ⟨_, _, counters⟩ => ⟨Nat.zero_le _, Nat.zero_le _, counters⟩⟩

theorem PortKept.popNotices (q : LinkPort) : PortKept q q.popNotices := by
  refine ⟨fun ok => ?_, fun ⟨buffers, _, counters⟩ => ⟨buffers, Nat.zero_le _, counters⟩⟩
  rw [popNotices_eq ok]
  refine ⟨(List.drop_sublist ..).length_le.trans ok.1, ?_⟩
  rw [Bool.eq_iff_iff]
  simp

/-- Options change no bound, and cleared counters are zero. -/
theorem PortKept.setLink (o : LinkOptions) (clear : Bool) (q : LinkPort) :
    PortKept q { q with options := o, counters := if clear then LinkCounters.zero else q.counters } := by
  refine ⟨id, fun ⟨buffers, lost, counters⟩ => ⟨buffers, lost, ?_⟩⟩
  show CountersFit (if clear then LinkCounters.zero else q.counters)
  split
  · exact ⟨Nat.zero_le _, Nat.zero_le _, Nat.zero_le _, Nat.zero_le _, Nat.zero_le _, Nat.zero_le _⟩
  · exact counters

theorem PortsKept.decideSetLink {r : SetLinkReq} (h : PortsKept a s) : PortsKept a (decideSetLink src r s).state := by
  unfold Machine.decideSetLink
  split
  · dsimp only
    exact h.modPort (.setLink ..)
  · exact h

theorem PortsKept.sendResponse {kind : Nat} {st : Status} {body : List Byte} (h : PortsKept a s) :
    PortsKept a (sendResponse src kind st body s) := h.modPort ⟨id, id⟩

theorem PortsKept.doneHandling {cmd : Instr} (h : PortsKept a s) : PortsKept a (doneHandling cmd p s) := by
  refine h.modPort ?_
  split <;> exact ⟨id, id⟩

/-! ## Requests of the order table, the store and the desk -/

theorem PortsKept.afterAppend {id n : Nat} (h : PortsKept a s) : PortsKept a (afterAppend id n s) := by
  unfold Machine.afterAppend
  split
  · exact h
  · split
    · split
      · exact h.endOrder
      · split
        · exact h
        · exact h.grant
    · split
      · exact PortsKept.boundary (h.quiet (by simp))
      · exact h

theorem PortsKept.decideAddPoints {r : AddPointsReq} (h : PortsKept a s) : PortsKept a (decideAddPoints src r s).state := by
  unfold Machine.decideAddPoints
  split
  · exact h
  · split
    · exact h
    · exact PortsKept.afterAppend (h.quiet ⟨rfl, rfl⟩)

theorem PortsKept.cancelOwner (h : PortsKept a s) : PortsKept a (cancelOwner o s) := by
  have marked : PortsKept a (markCancel o s) := h.quiet ⟨rfl, rfl⟩
  unfold Machine.cancelOwner
  dsimp only
  split
  · exact marked
  · cases s.seq.state with
    | moveIndent | tare | approach | ramp | dwell => exact marked.quiet (by simp)
    | unload | moveView | settle | focus | measure | retract | idle => exact marked
    | reviewWait => exact marked.closeReview.cancelNow
    | awaitPoints => exact PortsKept.cancelNow (marked.quiet (by simp))
    | storeWait => exact marked.cancelNow
    | paused => exact marked.recordCurrent.cancelNow

theorem PortsKept.decideCancel {id : Nat} (h : PortsKept a s) : PortsKept a (decideCancel src id s).state := by
  unfold Machine.decideCancel
  split
  · exact h
  · unfold cancelEffect
    split
    · exact PortsKept.endOrder (h.quiet (by simp))
    · split
      · exact h
      · exact h.cancelOwner

theorem PortsKept.decideResume {id : Nat} (h : PortsKept a s) : PortsKept a (decideResume src id s).state := by
  unfold Machine.decideResume
  split
  · exact h
  · split
    · exact h.resumeEffect
    · exact h

theorem PortsKept.decideTakeHead (h : PortsKept a s) : PortsKept a (decideTakeHead src s).state := by
  unfold Machine.decideTakeHead
  split
  · exact h.setLock
  · split <;> exact h

theorem PortsKept.decideFreeHead (h : PortsKept a s) : PortsKept a (decideFreeHead src s).state := by
  unfold Machine.decideFreeHead
  split
  · exact h
  · split
    · exact h.setLock
    · exact h

theorem PortsKept.decideReleaseResults {through : Nat} (h : PortsKept a s) :
    PortsKept a (decideReleaseResults src through s).state := by
  have released : PortsKept a (s.modStore (releaseFrom src.port through)) := h.quiet ⟨rfl, rfl⟩
  unfold Machine.decideReleaseResults
  dsimp only
  split
  · exact released.boundary
  · exact released

theorem PortsKept.decideEnter {seq d1 d2 : Nat} (h : PortsKept a s) : PortsKept a (decideEnter src seq d1 d2 s).state := by
  unfold Machine.decideEnter
  split
  · exact h
  · split
    · exact h
    · split
      · exact h
      · exact h.closeReview.afterClose

theorem PortsKept.decideReject {seq : Nat} (h : PortsKept a s) : PortsKept a (decideReject src seq s).state := by
  unfold Machine.decideReject
  split
  · exact h
  · exact h.closeReview.afterClose

theorem PortsKept.decideWriteCalibration {rec : Nat} {f : CalFields} (h : PortsKept a s) :
    PortsKept a (decideWriteCalibration src rec f s).state := by
  have written : PortsKept a (s.modCal (writeTable rec f src.port)) := h.quiet ⟨rfl, rfl⟩
  unfold Machine.decideWriteCalibration
  split
  · exact h
  · dsimp only
    split
    · exact written.grant
    · exact written

/-! ## The frames taken and the port reset (R183 to R186) -/

theorem PortsKept.takeShared {f : RxFrame} (h : PortsKept a s) : PortsKept a (takeShared p f s) := by
  cases acts : sharedEffect f s with
  | none => exact takeShared_ignored acts ▸ h.modPort (.count counts_ignored _)
  | some t =>
    rw [takeShared_acted acts]
    rcases sharedEffect_some acts with rfl | rfl | lamps
    · exact h.quiet (by simp)
    · exact h.resumeAllEffect
    · exact h.quiet (by rw [lamps]; exact ⟨rfl, rfl⟩)

theorem PortsKept.takeAddressed {f : RxFrame} (h : PortsKept a s) : PortsKept a (takeAddressed p f s) := by
  unfold Machine.takeAddressed
  dsimp only
  split
  · exact h.sendResponse
  · split
    · exact h.sendResponse
    · split
      · exact h.sendResponse
      · exact h.modPort ⟨id, id⟩

theorem PortsKept.frameTaken (h : PortsKept a s) (e : execFrameTaken p s = .next t) : PortsKept a t := by
  obtain rfl := Host.Outcome.next.inj e
  split
  · exact h
  · next f rest front =>
    split
    · have taken : PortsKept a (s.modPort p fun q => { q with buffers := rest }) := by
        refine h.modPort ⟨id, fun ⟨buffers, bounds⟩ => ⟨?_, bounds⟩⟩
        rw [front, List.length_cons] at buffers
        exact (Nat.le_succ _).trans buffers
      dsimp only
      split
      · exact taken.takeShared
      · exact taken.takeAddressed
    · exact h

theorem PortsKept.portReset (h : PortsKept a s) (e : execPortReset p s = .next t) : PortsKept a t := by
  obtain rfl := Host.Outcome.next.inj e
  have cleared : PortsKept a (portCleared p s) :=
    (PortsKept.modPort h (.restart p (s.port p))).quiet (by simp [portCleared])
  split
  · unfold resetPort dropLock
    split
    · exact cleared.setLock
    · exact cleared
  · exact h

/-! ## The events -/

theorem PortsKept.startupLoadComplete {l : List Nat} (h : PortsKept a s) (e : execStartupLoadComplete l s = .next t) :
    PortsKept a t := by
  have faults (l : List Nat) (u : State) (hu : PortsKept a u) : PortsKept a (postLoadFaults l u) := by
    induction l generalizing u with
    | nil => exact hu
    | cons rec rest ih =>
      refine ih _ ?_
      split
      · exact hu.postBoth
      · exact hu
  obtain rfl := Host.Outcome.next.inj e
  split
  · exact h
  · exact faults _ _ (h.quiet ⟨rfl, rfl⟩)

theorem PortsKept.commitComplete {b : ReadBack} (h : PortsKept a s) (e : execCommitComplete b s = .next t) : PortsKept a t := by
  obtain rfl := Host.Outcome.next.inj e
  split
  · exact h
  · next c _ =>
    have written : PortsKept a (s.modCal (commitTable c (committedSlot c b))) := h.quiet ⟨rfl, rfl⟩
    dsimp only
    split
    · exact written.postTo.postBoth
    · exact written.postTo

theorem PortsKept.stabilityTimerExpiry {i : InputName} (h : PortsKept a s) (e : execStabilityTimerExpiry i s = .next t) :
    PortsKept a t := by
  obtain rfl := Host.Outcome.next.inj e
  have accepted (f : Inputs → Inputs) : PortsKept a (s.modInputs f) := h.quiet ⟨rfl, rfl⟩
  cases i with
  | door =>
    dsimp only
    split
    · exact h
    · exact (accepted _).afterDoor
  | estop =>
    dsimp only
    split
    · exact h
    · exact (accepted _).afterEstop
  | station =>
    dsimp only
    split
    · exact h
    · exact h.quiet (by simp)

theorem PortsKept.stgDone (h : PortsKept a s) (e : execStgDone s = .next t) : PortsKept a t := by
  have done : PortsKept a (stageDone s) := h.quiet ⟨rfl, rfl⟩
  obtain rfl := Host.Outcome.next.inj e
  split
  · exact h
  · split
    · exact done.quiet (by simp)
    · exact done.judgeRest

theorem PortsKept.stgFault (h : PortsKept a s) (e : execStgFault s = .next t) : PortsKept a t := by
  have done : PortsKept a (stageDone s) := h.quiet ⟨rfl, rfl⟩
  obtain rfl := Host.Outcome.next.inj e
  split
  · exact h
  · split
    · exact done
    · exact done.abortPath

theorem PortsKept.turDone (h : PortsKept a s) (e : execTurDone s = .next t) : PortsKept a t := by
  have done : PortsKept a (turretDone s) := h.quiet ⟨rfl, rfl⟩
  obtain rfl := Host.Outcome.next.inj e
  split
  · exact h
  · split
    · exact done.quiet (by simp)
    · exact done.judgeRest

theorem PortsKept.stageTimerExpiry (h : PortsKept a s) (e : execStageTimerExpiry s = .next t) : PortsKept a t := by
  have done : PortsKept a (stageDone s) := h.quiet ⟨rfl, rfl⟩
  obtain rfl := Host.Outcome.next.inj e
  split
  · exact h
  · exact done.abortPath

theorem PortsKept.turretTimerExpiry (h : PortsKept a s) (e : execTurretTimerExpiry s = .next t) : PortsKept a t := by
  obtain rfl := Host.Outcome.next.inj e
  split
  · exact h
  · exact h.abortPath

theorem PortsKept.loadSample {count : Int} (h : PortsKept a s) (e : execLoadSample count s = .next t) : PortsKept a t := by
  obtain rfl := Host.Outcome.next.inj e
  have sampled (f : ForceMonitor → ForceMonitor) : PortsKept a (Machine.judgeSample count (s.modForce f)) :=
    PortsKept.judgeSample (h.quiet ⟨rfl, rfl⟩)
  exact (sampled _).quiet ⟨rfl, rfl⟩

theorem PortsKept.actRaised {level : Bool} (h : PortsKept a s) (e : execActRaised level s = .next t) : PortsKept a t := by
  obtain rfl := Host.Outcome.next.inj e
  split
  · exact h
  · exact PortsKept.judgeRest (h.quiet ⟨rfl, rfl⟩)

theorem PortsKept.unloadTimerExpiry (h : PortsKept a s) (e : execUnloadTimerExpiry s = .next t) : PortsKept a t := by
  obtain rfl := Host.Outcome.next.inj e
  split
  · exact h
  · exact h.abortPath

theorem PortsKept.retractTimerExpiry (h : PortsKept a s) (e : execRetractTimerExpiry s = .next t) : PortsKept a t := by
  obtain rfl := Host.Outcome.next.inj e
  split
  · exact h
  · split
    · exact h.abortRecords
    · exact h.abortPath

theorem PortsKept.starvationTimerExpiry (h : PortsKept a s) (e : execStarvationTimerExpiry s = .next t) : PortsKept a t := by
  obtain rfl := Host.Outcome.next.inj e
  split
  · next o _ _ =>
    have yielded : PortsKept a (updOrder o.id yielding (stopStarvation s)) := h.quiet ⟨rfl, rfl⟩
    split
    · exact PortsKept.grant (yielded.postTo.quiet ⟨rfl, rfl⟩)
    · exact h
  · exact h

theorem PortsKept.scoreReady (h : PortsKept a s) (e : execScoreReady s = .next t) : PortsKept a t := by
  obtain rfl := Host.Outcome.next.inj e
  split
  · split
    · exact PortsKept.judgeFocus (h.quiet ⟨rfl, rfl⟩)
    · exact h
  · exact h

theorem PortsKept.frameTimerExpiry (h : PortsKept a s) (e : execFrameTimerExpiry s = .next t) : PortsKept a t := by
  obtain rfl := Host.Outcome.next.inj e
  split
  · exact h
  · split
    · exact h.captureFailure
    · exact h

theorem PortsKept.measurementReport (h : PortsKept a s) (e : execMeasurementReport s = .next t) : PortsKept a t := by
  obtain rfl := Host.Outcome.next.inj e
  split
  · split
    · exact PortsKept.takeReport (h.quiet ⟨rfl, rfl⟩)
    · exact h
  · exact h

theorem PortsKept.windowTimerExpiry (h : PortsKept a s) (e : execWindowTimerExpiry s = .next t) : PortsKept a t := by
  obtain rfl := Host.Outcome.next.inj e
  split
  · exact h.closeReview.afterClose
  · exact h

/-! ## A command, and a step -/

/-- The ports of the part after cold reset (3.5). -/
theorem PortKept.reset (p : Port) (q : LinkPort) : PortKept q (LinkPort.reset p) := by
  constructor <;> intro _ <;> cases p <;> decide

/-- A request answered by what its owner decided. -/
theorem PortsKept.served {cmd : Instr} {d : State → Answer} (h : PortsKept a s) (e : Host.Outcome.next (serve cmd src d s)
    = (.next t : Host.Outcome State Fault Refusal)) (hd : PortsKept a (d s).state) : PortsKept a t := by
  obtain rfl := Host.Outcome.next.inj e
  unfold serve
  dsimp only
  split
  · exact h.doneHandling.sendResponse
  · exact hd.doneHandling.sendResponse

/-- Every command keeps the ports in order; those that post nothing and leave the links alone do so by their frames. -/
theorem PortsKept.exec {i : Instr} (h : PortsKept a s) (e : exec i s = .next t) : PortsKept a t := by
  have frame := everyCommandKeepsItsFrame i s t e
  cases i with
  | coldReset pins =>
    obtain rfl := Host.Outcome.next.inj e
    exact ⟨fun p => by cases p <;> exact .reset _ _⟩
  | inputChange _ | approachTimerExpiry | frameStart | frameCompletion | lampTimebaseTick | lineMarker _ | pixelTaken _ =>
    have frame : t = _ := frame
    rw [frame]
    exact h.quiet ⟨rfl, rfl⟩
  | frameReceived p chars =>
    obtain rfl := Host.Outcome.next.inj e
    refine h.modPort ?_
    split
    · exact .refl _
    · exact .takeChars ..
  | receiveGap p =>
    obtain rfl := Host.Outcome.next.inj e
    exact h.modPort (.gap _)
  | responseSent p =>
    obtain rfl := Host.Outcome.next.inj e
    exact h.modPort ⟨id, id⟩
  | lineBreak p =>
    obtain rfl := Host.Outcome.next.inj e
    exact h.modPort ((PortKept.charError _).trans ⟨id, id⟩)
  | startupLoadComplete l => exact h.startupLoadComplete e
  | commitComplete b => exact h.commitComplete e
  | frameTaken p => exact h.frameTaken e
  | portReset p => exact h.portReset e
  | readState src => exact h.served e h
  | readNotices src => exact h.served e (h.modPort (.popNotices _))
  | setLink src r => exact h.served e h.decideSetLink
  | openOrder src r => exact h.served e (h.same (by simp))
  | addPoints src r => exact h.served e h.decideAddPoints
  | cancelOrder src id => exact h.served e h.decideCancel
  | holdOrder src id => exact h.served e (h.same (by simp))
  | resumeOrder src id => exact h.served e h.decideResume
  | holdAll src => exact h.served e (h.same (by simp [Answer.accept]))
  | resumeAll src => exact h.served e h.resumeAllEffect
  | takeHead src => exact h.served e h.decideTakeHead
  | freeHead src => exact h.served e h.decideFreeHead
  | claimReview src seq => exact h.served e (h.same (by simp))
  | enterDiagonals src seq d1 d2 => exact h.served e h.decideEnter
  | rejectImpression src seq => exact h.served e h.decideReject
  | readResults src first maxN => exact h.served e h
  | releaseResults src through => exact h.served e h.decideReleaseResults
  | readSummary src id => exact h.served e (h.same (by simp))
  | readCalibration src rec => exact h.served e (h.same (by simp))
  | writeCalibration src rec f => exact h.served e h.decideWriteCalibration
  | setLamp src g x r => exact h.served e (h.same (by simp))
  | setInputs src d x c => exact h.served e (h.same (by simp))
  | stabilityTimerExpiry input => exact h.stabilityTimerExpiry e
  | stgDone => exact h.stgDone e
  | stgFault => exact h.stgFault e
  | turDone => exact h.turDone e
  | stageTimerExpiry => exact h.stageTimerExpiry e
  | turretTimerExpiry => exact h.turretTimerExpiry e
  | loadSample count => exact h.loadSample e
  | actRaised level => exact h.actRaised e
  | unloadTimerExpiry => exact h.unloadTimerExpiry e
  | retractTimerExpiry => exact h.retractTimerExpiry e
  | starvationTimerExpiry => exact h.starvationTimerExpiry e
  | scoreReady => exact h.scoreReady e
  | frameTimerExpiry => exact h.frameTimerExpiry e
  | measurementReport => exact h.measurementReport e
  | windowTimerExpiry => exact h.windowTimerExpiry e

/-- Settles O6: the idle step changes nothing, and every command keeps both ports in order. -/
theorem stepKeepsThePortsInBounds : Obligations.StepKeepsThePortsInBounds := by
  intro s t e
  unfold step at e
  split at e
  · obtain rfl := Host.Outcome.next.inj e
    exact ⟨id, id⟩
  · next c rest _ =>
    have kept : PortsKept s t := PortsKept.exec (s := { s with pending := rest }) ((PortsKept.refl s).quiet ⟨rfl, rfl⟩) e
    exact ⟨kept.noticesOk, kept.linksOk⟩

end Sys2Proof.Proofs.Links

/-! # A step by its queue, and the part right after reset (2.1, 3.5)

A free head, an empty table and an empty store make most invariants of Safety.lean one: the books of the empty part (`Inv.ofReset`), of
which the review, the store and the interlock in order are read off.  Each lemma speaks of any cold reset, whatever the straps, the lines
and the nonvolatile copy. -/

namespace Sys2Proof.Proofs.Reset
open Sys2Proof Sys2Proof.Machine Sys2Proof.Proofs.Orders

/-! ## A step by its queue -/

section
variable {s : State} {c : Instr} {rest : List Instr}

theorem step_of_pending_nil (h : s.pending = []) : step s = .next s := by
  unfold step
  rw [h]

theorem step_of_pending_cons (h : s.pending = c :: rest) : step s = exec c { s with pending := rest } := by
  unfold step
  rw [h]

end

/-- Settles O1: the two cases of the queue. -/
theorem stepRunsTheFrontCommand : Obligations.StepRunsTheFrontCommand :=
  fun _ _ _ => ⟨step_of_pending_cons rfl, step_of_pending_nil rfl⟩

/-! ## The blocks after a cold reset -/

theorem noticesOk_reset (p : Port) : (LinkPort.reset p).NoticesOk := ⟨Nat.zero_le _, rfl⟩

theorem boundsOk_reset (p : Port) : (LinkPort.reset p).BoundsOk :=
  ⟨Nat.zero_le _, Nat.zero_le _, Nat.zero_le _, Nat.zero_le _, Nat.zero_le _, Nat.zero_le _, Nat.zero_le _, Nat.zero_le _⟩

/-! ## The part after a cold reset -/

section
variable (pins : ResetPins) (nv : List NvRecord) (raised frameHigh lineHigh : Bool)

/-- The books of the empty part, with pool and counts or without. -/
theorem inv_afterColdReset (P C : Prop) : Inv P C (State.afterColdReset pins nv raised frameHigh lineHigh) :=
  Inv.ofReset rfl rfl rfl rfl rfl rfl

theorem headOk_afterColdReset : (State.afterColdReset pins nv raised frameHigh lineHigh).HeadOk :=
  headOk_iff.2 (inv_afterColdReset ..)

theorem poolOk_afterColdReset : (State.afterColdReset pins nv raised frameHigh lineHigh).PoolOk :=
  poolOk_iff.2 (inv_afterColdReset ..)

theorem countsOk_afterColdReset : (State.afterColdReset pins nv raised frameHigh lineHigh).CountsOk :=
  countsOk_iff.2 (inv_afterColdReset ..)

/-- The review in order, and with it the point in hand and the store, is part of the counts in order. -/
theorem reviewOk_afterColdReset : (State.afterColdReset pins nv raised frameHigh lineHigh).ReviewOk :=
  (countsOk_afterColdReset ..).1

theorem roomOk_afterColdReset : (State.afterColdReset pins nv raised frameHigh lineHigh).RoomOk := Nat.zero_le _

theorem recordsOk_afterColdReset : (State.afterColdReset pins nv raised frameHigh lineHigh).RecordsOk :=
  ⟨reviewOk_afterColdReset .., fun _ hr => absurd hr List.not_mem_nil⟩

theorem forceOk_afterColdReset : (State.afterColdReset pins nv raised frameHigh lineHigh).ForceOk := fun _ => rfl

/-- With no order in the table, no force code bounds the set-point. -/
theorem setPointOk_afterColdReset : (State.afterColdReset pins nv raised frameHigh lineHigh).SetPointOk :=
  ⟨headOk_afterColdReset .., forceOk_afterColdReset _ _ _ _ _, fun _ ho => absurd ho List.not_mem_nil,
    fun _ ho => absurd ho List.not_mem_nil⟩

/-- A free head asks nothing of the door and the e-stop. -/
theorem interlockOk_afterColdReset : (State.afterColdReset pins nv raised frameHigh lineHigh).InterlockOk :=
  ⟨headOk_afterColdReset .., .inr (.inl rfl), .inr (.inl rfl)⟩

end

/-- Settles O3: each block is in order at its reset value, the books of the empty part balance, and the nonvolatile memory has its seven
records. -/
theorem invariantsHoldAtReset : Obligations.InvariantsHoldAtReset := by
  have review : State.reset.ReviewOk := reviewOk_afterColdReset ..
  have interlock : State.reset.InterlockOk := interlockOk_afterColdReset ..
  obtain ⟨point, store, -⟩ := id review
  exact ⟨⟨noticesOk_reset .A, noticesOk_reset .B⟩, ⟨boundsOk_reset .A, boundsOk_reset .B⟩, store, roomOk_afterColdReset ..,
    headOk_afterColdReset .., poolOk_afterColdReset .., point, review, forceOk_afterColdReset _ _ _ _ _, Devices.inputsFit_starting _,
    Devices.calFits_starting List.length_replicate, Devices.captureFits_reset, interlock,
    Indent.approachSafe_of_interlockOk interlock, recordsOk_afterColdReset .., countsOk_afterColdReset .., setPointOk_afterColdReset ..⟩

end Sys2Proof.Proofs.Reset
